-- ==== Sys2Proof/Word.lean ====
section
/-! DEFINITION. The plain data the model is written over: bytes, the part's indices (00_scope.md, "Names and
indices"), tables of fixed length, and the rounding words of 00_scope.md, "Arithmetic words". -/

namespace Sys2Proof

/-- One byte shifted over the link or held in the image store. -/
abbrev Byte := BitVec 8

/-- A power channel CH0–CH19. -/
abbrev Chan := Fin 20

/-- A circuit CI0–CI15. -/
abbrev Circ := Fin 16

/-- A claim slot 0–31. -/
abbrev SlotIx := Fin 32

/-- A switch group: SG0–SG15 are 0–15, IGN is 16 and START is 17 (the group codes of R171). -/
abbrev GroupIx := Fin 18

/-- A binding B0–B63. -/
abbrev BindIx := Fin 64

/-- A gauge GA0–GA2. -/
abbrev GaugeIx := Fin 3

/-- The group IGN. -/
def ign : GroupIx := 16

/-- The group START. -/
def start : GroupIx := 17

/-- The table whose entry at `i` is `f i`. -/
def tabulate {α : Type} {n : Nat} (f : Fin n → α) : Vector α n := Vector.ofFn f

/-- The table with the entry at `i` replaced. -/
def put {α : Type} {n : Nat} (v : Vector α n) (i : Fin n) (x : α) : Vector α n := v.set i.val x i.isLt

/-- The table with the entry at `i` changed by `f`. -/
def upd {α : Type} {n : Nat} (v : Vector α n) (i : Fin n) (f : α → α) : Vector α n := put v i (f (v.get i))

/-- The table with every entry changed by `f`. -/
def mapTbl {α β : Type} {n : Nat} (f : α → β) (v : Vector α n) : Vector β n := tabulate fun i => f (v.get i)

/-- The least integer not below a ÷ b (00_scope.md, "ceiling"). -/
def ceilDiv (a b : Nat) : Nat := (a + b - 1) / b

/-- floor(a ÷ b + ½) for b above 0 (00_scope.md, "floor(x + ½)"). -/
def roundDiv (a b : Int) : Int := (2 * a + b) / (2 * b)

/-- The nearest value to `x` between `lo` and `hi`, both included (00_scope.md, "clamped" and "saturating"). -/
def clampNat (lo hi x : Nat) : Nat := max lo (min hi x)

/-- As `clampNat`, over signed quantities. -/
def clampInt (lo hi x : Int) : Int := max lo (min hi x)

/-- The mean of a list of readings, rounded down; 0 for no readings. -/
def meanNat (xs : List Nat) : Nat := xs.sum / xs.length

/-- The mean of a list of signed readings, truncated toward zero (R26). -/
def meanInt (xs : List Int) : Int := xs.sum.tdiv xs.length

theorem get_eq_getElem {α : Type} {n : Nat} (v : Vector α n) (i : Fin n) : v.get i = v[i.val] := rfl

@[simp] theorem tabulate_get {α : Type} {n : Nat} (f : Fin n → α) (i : Fin n) : (tabulate f).get i = f i := by
  simp [tabulate, get_eq_getElem]

@[simp] theorem put_get_same {α : Type} {n : Nat} (v : Vector α n) (i : Fin n) (x : α) :
    (put v i x).get i = x := by
  simp [put, get_eq_getElem]

theorem put_get {α : Type} {n : Nat} (v : Vector α n) (i j : Fin n) (x : α) :
    (put v i x).get j = if i = j then x else v.get j := by
  simp [put, get_eq_getElem, Vector.getElem_set, Fin.ext_iff]

theorem put_get_ne {α : Type} {n : Nat} {v : Vector α n} {i j : Fin n} {x : α} (h : i ≠ j) :
    (put v i x).get j = v.get j := by
  simp [put_get, h]

@[simp] theorem upd_get_same {α : Type} {n : Nat} (v : Vector α n) (i : Fin n) (f : α → α) :
    (upd v i f).get i = f (v.get i) := by
  simp [upd]

theorem upd_get {α : Type} {n : Nat} (v : Vector α n) (i j : Fin n) (f : α → α) :
    (upd v i f).get j = if i = j then f (v.get i) else v.get j := by
  simp [upd, put_get]

@[simp] theorem mapTbl_get {α β : Type} {n : Nat} (f : α → β) (v : Vector α n) (i : Fin n) :
    (mapTbl f v).get i = f (v.get i) := by
  simp [mapTbl]

/-- Two tables that agree at every index are equal. -/
theorem tbl_ext {α : Type} {n : Nat} {v w : Vector α n} (h : ∀ i, v.get i = w.get i) : v = w := by
  ext i hi
  exact h ⟨i, hi⟩

end Sys2Proof
end

