-- ==== Sys2Proof/Syntax.lean ====
section
/-! DEFINITION. The commands of the SB-20: one constructor of `Instr` per row of spec/opcode_table.json, in the
table's order. A link request carries its parameter bytes as R172 lays them out; an event that reads an input carries
what the input shows; an event of one channel, claim slot or gauge carries its index. -/

namespace Sys2Proof

/-- The three causes of a reset (R179). -/
inductive ResetCause where
  | powerOn
  | brownOut
  | resetPin
deriving DecidableEq, Repr

/-- What the I2C line delivers when the part reads the image store (R180). -/
inductive StoreRead where
  /-- A missing acknowledge at some point of the transfer: the image is missing. -/
  | noAck
  /-- The store acknowledges and delivers the bytes it holds. -/
  | held
  /-- The store has been given these contents from outside meanwhile, acknowledges and delivers them. -/
  | given (bytes : List Byte)
deriving DecidableEq, Repr

/-- The commands, one per row of the opcode table. -/
inductive Instr where
  | claimRaise (params : List Byte)
  | claimAlter (params : List Byte)
  | claimRetire (params : List Byte)
  | claimLookup (params : List Byte)
  | claimScan (params : List Byte)
  | supplyRead (params : List Byte)
  | holdSet (params : List Byte)
  | circuitRead (params : List Byte)
  | circuitWrite (params : List Byte)
  | flasherRead (params : List Byte)
  | flasherSet (params : List Byte)
  | channelRead (params : List Byte)
  | channelRestore (params : List Byte)
  | profileRead (params : List Byte)
  | profileWrite (params : List Byte)
  | groupRead (params : List Byte)
  | groupWrite (params : List Byte)
  | bindRead (params : List Byte)
  | bindWrite (params : List Byte)
  | gaugeRead (params : List Byte)
  | gaugeSet (params : List Byte)
  | statusRead (params : List Byte)
  | statusClear (params : List Byte)
  | enableRead (params : List Byte)
  | enableSet (params : List Byte)
  | enableClear (params : List Byte)
  | pendingRead (params : List Byte)
  | deviceRead (params : List Byte)
  | quiesce (params : List Byte)
  | resume (params : List Byte)
  | storeSave (params : List Byte)
  | storeLoad (params : List Byte)
  /-- The rise of select after the host has shifted in these bytes, the first of them not 255. -/
  | requestFrame (bytes : List Byte)
  /-- A fetch frame in which the host shifts this many bytes. -/
  | fetchFrame (count : Nat)
  /-- A scan that finds these levels: SW0–SW23 at bits 0–23, IGN at bit 24 and START at bit 25, 1 for high. -/
  | switchScan (levels : BitVec 26)
  | passStep
  /-- A supply sample of these inputs: Vbat and Vgen in cV, Ibat in dA. -/
  | supplySample (vbat vgen : Nat) (ibat : Int)
  | budgetEvaluation
  | settlePartExpiry (slot : SlotIx)
  | holdTimerExpiry (slot : SlotIx)
  | crankRecoveryEnd
  | hostHoldEnd
  | claimExpiry (slot : SlotIx)
  | litExpiry
  | darkExpiry
  | bulbCheckReading (ch : Chan)
  | tickPulseEnd
  /-- A channel's on-time current sample, in dA. -/
  | currentSample (ch : Chan) (reading : Nat)
  | stallTrip (ch : Chan)
  | channelPeriodEnd (ch : Chan)
  | motorRampStep (ch : Chan)
  | inrushWindowEnd (ch : Chan)
  | continuousOnForgive (ch : Chan)
  | backOffExpiry (ch : Chan)
  | openLoadDetected (ch : Chan)
  | openLoadCleared (ch : Chan)
  /-- A sample of the three sender inputs, each a 12-bit reading. -/
  | senderSample (a0 a1 a2 : BitVec 12)
  | gaugeUpdate
  | faultHoldEnd (g : GaugeIx)
  | heaterPeriodEnd (g : GaugeIx)
  | reset (cause : ResetCause)
  | loadingComplete (read : StoreRead)
  | storeSaveComplete
  | storeSaveFail
  | storeLoadComplete (read : StoreRead)
  | sleepEntry
  | leaveReset
deriving DecidableEq, Repr

end Sys2Proof
end

