-- ==== Sys2Proof/Decode.lean ====
section
/-! DEFINITION. The command that a word of spec/opcode_table.json spells. No row of the table gives bits, so no word
spells a command. (The bytes of a link frame are taken by REQUEST_FRAME; Machine/Link.lean reads them.) -/

namespace Sys2Proof

/-- The command spelled by an `nbits`-bit word of the table: none, for the table gives no row any bits. -/
def decodeTableWord (_nbits _w : Nat) : Option Instr := none

end Sys2Proof
end

