-- ==== Sys2Proof/Config.lean ====
section
/-! DEFINITION. What is fixed for the part (ratings, counts and times of the manual) and the free values: constants
with no body for the values the manual does not state. -/

namespace Sys2Proof.Config

/-- The rating of a channel in dA: 80 for CH0–CH15 and 160 for CH16–CH19 (R83). -/
def rating (ch : Chan) : Nat := if ch.val < 16 then 80 else 160

/-- The count a settle part starts from, in evaluations (R32). -/
def settleCount : Nat := 4

/-- The count a hold timer starts from, in evaluations (R37). -/
def holdTimer : Nat := 8

/-- The count a crank recovery starts from, in evaluations (R46). -/
def recoveryCount : Nat := 6

/-- The greatest share of a claim, a settle part and a circuit, in dA (R1, R32, R52). -/
def maxShare : Nat := 250

/-- The greatest expiry and off-delay, in evaluations (R1, R117). -/
def maxExpiry : Nat := 14400

/-- The sleep entry timer's full run, in ms (R187). -/
def sleepTime : Nat := 30000

/-- A TICK pulse, in ms (R79). -/
def tickTime : Nat := 4

/-- Samples of the over-threshold run at which an ordinary trip is taken (R95). -/
def tripRun : Nat := 40

/-- On-time samples that the measured current averages (R87). -/
def historyLength : Nat := 200

/-- The continuous-ON time that forgives a channel's trips, in ms (R93). -/
def forgiveTime : Nat := 10000

/-- The time of steady open-load detection, in ms (R102). -/
def openLoadTime : Nat := 500

/-- The time of stall detection, in ms (R97). -/
def stallLimit : Nat := 1000

/-- The time in ON after which the bulb check reads a channel, in ms (R75). -/
def bulbTime : Nat := 20

/-- The revision number of the parts the manual describes (R189). -/
def revision : Nat := 1

/-- The image length and the format number (R177). -/
def imageLength : Nat := 1391

/-- FREE VALUE (log 8): Vbat_f formed at an evaluation with no sample since the one before it. The manual states none,
for in the part such an evaluation does not fall. -/
opaque freeVbat : Nat → Fin 2001

/-- FREE VALUE (log 8): Vgen_f formed at an evaluation with no sample since the one before it. -/
opaque freeVgen : Nat → Fin 2001

/-- FREE VALUE (log 8): Ibat_f formed at an evaluation with no sample since the one before it, as its distance above
−800 dA. -/
opaque freeIbat : Nat → Fin 1601

/-- FREE VALUE (log 9): a gauge's reading formed at an update with no sample since the one before it. -/
opaque freeReading : Nat → Fin 4096

/-- FREE VALUE (log 10): the first-input byte that GROUP.READ returns for the fixed groups IGN and START. The manual
gives them no input number. -/
opaque fixedFirstInput : GroupIx → Byte

/-- FREE VALUE (log 7): the number of bytes after the format number that a save which does not complete has written. The
manual does not say at which write a missing acknowledge or a reset falls. -/
opaque freeWritten : Nat → Fin 1390

end Sys2Proof.Config
end

