-- ==== Sys2Proof/Machine/State.lean ====
section
/-! DEFINITION. The state of the SB-20 as plain data, block by block (00_scope.md, "Block overview"), its stops, and
the state after reset. A field that the manual calls "present while …" is carried by the constructor it is present in. -/

namespace Sys2Proof.Machine

/-! ### Load claims (01_load_claims.md) -/

/-- A claim's mode (R1). -/
inductive ClaimMode where
  | steady
  | flash
deriving DecidableEq, Repr

/-- A claim's class, in descending order of importance (R1). -/
inductive ClaimClass where
  | safety
  | lighting
  | comfort
  | auxiliary
deriving DecidableEq, Repr

/-- The party that raised a claim (R1). -/
inductive Origin where
  | binding (b : BindIx)
  | link
deriving DecidableEq, Repr

/-- Whether share_full was given or taken from the circuit's nominal share (R1). -/
inductive ShareSource where
  | given
  | circuit
deriving DecidableEq, Repr

/-- The hold reasons of a HELD claim (R1). BUDGET_TIMER is among them exactly while the hold timer is present (R37), so
the two are one field: `some n` is BUDGET_TIMER with n evaluations on the timer. -/
structure HoldReasons where
  budgetTimer : Option Nat
  crank : Bool
  host : Bool
deriving DecidableEq, Repr

/-- The state of a claim with the fields present in it (R1): GRANTED with its granted level, or HELD with its hold
reasons, where the granted level is 0 (R2). -/
inductive ClaimState where
  | granted (level : Nat)
  | held (reasons : HoldReasons)
deriving DecidableEq, Repr

/-- A settle part: its unsettled share in dA and the evaluations remaining (R1, R32). -/
structure SettlePart where
  share : Nat
  left : Nat
deriving DecidableEq, Repr

/-- The claim record (R1). Its handle is the slot and the slot's generation. -/
structure Claim where
  origin : Origin
  circuit : Circ
  mode : ClaimMode
  cls : ClaimClass
  requested : Nat
  floor : Nat
  shareFull : Nat
  source : ShareSource
  state : ClaimState
  expiry : Option Nat
  settle : Option SettlePart
deriving DecidableEq, Repr

/-- A claim slot: its generation, and its claim while it is live (R3). -/
structure Slot where
  gen : Fin 16
  claim : Option Claim
deriving DecidableEq, Repr

/-- A handle, slot × 16 + generation, as its two parts (R3). -/
structure Handle where
  slot : SlotIx
  gen : Fin 16
deriving DecidableEq, Repr

/-- The Claim Table: the slots, the grant order list, head first, and the held queue, first entry first (R6, R7). -/
structure ClaimTable where
  slots : Vector Slot 32
  grantList : List SlotIx
  heldQueue : List SlotIx
deriving DecidableEq, Repr

/-! ### Supply budget (02_supply_budget.md) -/

/-- A sample of the supply inputs (R25): cV, cV and dA. -/
structure Supply where
  vbat : Nat
  vgen : Nat
  ibat : Int
deriving DecidableEq, Repr

/-- The battery band (R29). -/
inductive Band where
  | normal
  | low
  | critical
deriving DecidableEq, Repr

/-- The charging state (R30). -/
inductive Charging where
  | notCharging
  | charging
deriving DecidableEq, Repr

/-- The crank state, RECOVERY with its count of evaluations (R45). -/
inductive Crank where
  | none
  | cranking
  | recovery (count : Nat)
deriving DecidableEq, Repr

/-- A host hold in force: its class set, drawn from three classes, and its count of evaluations (R47). -/
structure HostHold where
  lighting : Bool
  comfort : Bool
  auxiliary : Bool
  count : Nat
deriving DecidableEq, Repr

/-- The Supply Budget Unit. U and H are computed (R32, R33) and are no fields. -/
structure Budget where
  samples : List Supply
  vbatF : Nat
  vgenF : Nat
  ibatF : Int
  band : Band
  charging : Charging
  deficitRun : Nat
  surplusRun : Nat
  crank : Crank
  hostHold : Option HostHold
deriving DecidableEq, Repr

/-! ### Circuits (03_circuits_resolution_and_tell_tales.md) -/

/-- A circuit entry: its channel list and maximum level (R51). The nominal share is computed (R52). -/
structure CircuitEntry where
  channels : List Chan
  maxLevel : Nat
deriving DecidableEq, Repr

/-- A circuit's resolved state, STEADY with its steady demand in ‰ (R54). -/
inductive Resolved where
  | off
  | steady (demand : Nat)
  | flashing
deriving DecidableEq, Repr

/-- The Circuit Resolver: the table in force, the pending entries, the resolved states, the flash-present indication
and the flash set. Each channel's demand is held in the channel's record. -/
structure Resolver where
  inForce : Vector CircuitEntry 16
  pendingEntry : Vector (Option CircuitEntry) 16
  resolved : Vector Resolved 16
  flashPresent : Bool
  flashSet : Vector Bool 20
deriving DecidableEq, Repr

/-! ### Flasher (04_flasher.md) -/

/-- An entry of the check list (R68): PENDING, marked when it joined during the phase, with its time in ON toward
20 ms; or its verdict. -/
inductive CheckEntry where
  | pending (joined : Bool) (onTime : Nat)
  | pass
  | fail
  | unjudged
deriving DecidableEq, Repr

/-- The phase with the fields present in it: the rate in force and the phase time remaining in LIT and DARK, the check
list in LIT (R68). -/
inductive Phase where
  | idle
  | lit (rate remaining : Nat) (checks : Vector (Option CheckEntry) 20)
  | dark (rate remaining : Nat)
deriving DecidableEq, Repr

/-- The Flasher (R68), with the TICK output: the rest of its pulse in ms while it is high (R79). -/
structure Flasher where
  phase : Phase
  rateSet : Nat
  fast : Bool
  ticker : Bool
  failed : Vector Bool 20
  tickPulse : Option Nat
deriving DecidableEq, Repr

/-! ### Power channels (05_power_channels.md) -/

/-- A channel's kind (R83). -/
inductive ChanKind where
  | unused
  | filament
  | led
  | motor
  | telltale
deriving DecidableEq, Repr

/-- A tell-tale source with its parameters (R60). -/
inductive TellSource where
  | circuit (c : Circ)
  | flash
  | charge
  | gaugeHigh (g : GaugeIx) (threshold : Nat)
  | openLoad
deriving DecidableEq, Repr

/-- A channel's profile (R83). -/
structure Profile where
  kind : ChanKind
  nominal : Nat
  trip : Nat
  openLoad : Nat
  inrush : Nat
  minDuty : Nat
  stall : Nat
  source : Option TellSource
deriving DecidableEq, Repr

/-- The channel state with the field present in it (R86): the softstart time of a FILAMENT channel, the continuous-ON
time, the back-off remaining, the cycle flag. Times in ms. -/
inductive ChanState where
  | off
  | softstart (time : Option Nat)
  | on (time : Nat)
  | tripped (backOff : Nat)
  | locked (cycle : Bool)
deriving DecidableEq, Repr

/-- A trip's kind (R98). -/
inductive TripKind where
  | ordinary
  | hard
  | stall
deriving DecidableEq, Repr

/-- A channel: its profile, its record (R86) and the working counts of its detectors. `samples` is the sample history,
latest first, of which the measured current is the mean (R87). `ramp` is the duty that the ramp of a MOTOR channel has
reached, applied at the next period end (R89). -/
structure Channel where
  profile : Profile
  state : ChanState
  demand : Nat
  target : Nat
  applied : Nat
  ramp : Nat
  samples : List Nat
  tripCount : Nat
  lastTrip : Option TripKind
  openLoadFlag : Bool
  lifetime : Nat
  overRun : Nat
  stallTime : Nat
  lowTime : Nat
  goodTime : Nat
deriving DecidableEq, Repr

/-! ### Switch inputs and bindings (06_switch_inputs_and_bindings.md) -/

/-- A group's polarity (R112). -/
inductive Polarity where
  | activeLow
  | activeHigh
deriving DecidableEq, Repr

/-- A switch group's definition (R112). -/
structure GroupDef where
  first : Nat
  width : Nat
  polarity : Polarity
  debounce : Nat
deriving DecidableEq, Repr

/-- A group's running record; the accepted code `none` is UNKNOWN (R113). -/
structure GroupRec where
  accepted : Option (BitVec 4)
  raw : Option (BitVec 4)
  candidate : Option (BitVec 4)
  run : Nat
deriving DecidableEq, Repr

/-- The Switch Scanner; `levels` are the levels of the latest scan, as `Instr.switchScan` lays them out. -/
structure Scanner where
  defs : Vector GroupDef 16
  recs : Vector GroupRec 18
  levels : BitVec 26
deriving DecidableEq, Repr

/-- A test's operation (R118). -/
inductive TestOp where
  | eq
  | ne
  | any
  | none
deriving DecidableEq, Repr

/-- The test of a TEST or GATE entry (R117). -/
structure Test where
  group : GroupIx
  mask : BitVec 4
  op : TestOp
  value : BitVec 4
deriving DecidableEq, Repr

/-- The action of a TEST entry (R117). -/
structure Action where
  circuit : Circ
  mode : ClaimMode
  cls : ClaimClass
  level : Nat
  floor : Option Nat
  share : Option Nat
  offDelay : Nat
deriving DecidableEq, Repr

/-- A binding entry, each kind with the fields it uses (R117). -/
inductive BindEntry where
  | unused
  | test (t : Test) (chained : Bool) (action : Option Action)
  | gate (t : Test)
  | gateEnd
deriving DecidableEq, Repr

/-- A binding's claim link (R119). -/
inductive BindLink where
  | none
  | claim (h : Handle)
  | wanting
deriving DecidableEq, Repr

/-- What the BDE keeps beside a binding's entry (R119): `some true` is PASSED or MATCHED, `some false` FAILED or
UNMATCHED. -/
structure BindRec where
  link : BindLink
  result : Option Bool
  verdict : Option Bool
deriving DecidableEq, Repr

/-- The gate of a pass (R121). -/
inductive Gate where
  | none
  | opened
  | closed
deriving DecidableEq, Repr

/-- A running pass (R120): the next binding to be taken, the codes judged, the gate, the open chain with whether every
test in it so far passed (R122), and the circuits it has changed, to be handed over at its end (R125). -/
structure Pass where
  next : BindIx
  codes : Vector (Option (BitVec 4)) 18
  gate : Gate
  chain : Option Bool
  touched : Vector Bool 16
deriving DecidableEq, Repr

/-- The Binding Engine; `waiting` holds the parameters of a BIND.WRITE that waits for the running pass to end
(R127). -/
structure Engine where
  entries : Vector BindEntry 64
  recs : Vector BindRec 64
  pass : Option Pass
  passRequested : Bool
  waiting : Option (List Byte)
deriving DecidableEq, Repr

/-! ### Period gauges (07_period_gauges.md) -/

/-- A gauge's settings (R136). -/
structure GaugeSettings where
  points : List (Nat × Nat)
  k : Nat
  vstab : Nat
deriving DecidableEq, Repr

/-- A reading's class, IN_RANGE with the sender resistance present in it (R137). -/
inductive ReadingClass where
  | inRange (rs : Nat)
  | openSender
  | short
deriving DecidableEq, Repr

/-- A gauge's reading and its class (R137). -/
structure Reading where
  a : Nat
  cls : ReadingClass
deriving DecidableEq, Repr

/-- The kind of a confirmed sender fault (R137). -/
inductive FaultKind where
  | openSender
  | short
deriving DecidableEq, Repr

/-- A gauge's state with the counts and the fault kind present in it (R137). -/
inductive GaugeState where
  | off
  | active
  | suspect (count : Nat)
  | faultHold (kind : FaultKind) (hold recovery : Nat)
  | faultRest (kind : FaultKind) (recovery : Nat)
deriving DecidableEq, Repr

/-- A gauge: settings, samples since the latest update, and running record (R137). -/
structure Gauge where
  settings : GaugeSettings
  samples : List Nat
  state : GaugeState
  reading : Option Reading
  target : Nat
  lastGood : Nat
  filtered : Nat
  duty : Nat
  applied : Nat
  undervolt : Bool
deriving DecidableEq, Repr

/-! ### Link and status (08_link_status_and_formats.md) -/

/-- The requests of the request summary (R172). -/
inductive Req where
  | claimRaise | claimAlter | claimRetire | claimLookup | claimScan
  | supplyRead | holdSet
  | circuitRead | circuitWrite
  | flasherRead | flasherSet
  | channelRead | channelRestore | profileRead | profileWrite
  | groupRead | groupWrite | bindRead | bindWrite
  | gaugeRead | gaugeSet
  | statusRead | statusClear | enableRead | enableSet | enableClear | pendingRead
  | deviceRead | quiesce | resume | storeSave | storeLoad
deriving DecidableEq, Repr

/-- The reply codes (R160). -/
inductive ReplyCode where
  | ok | clamped | granted | degraded | held | accepted
  | notReady | badRequest | badIndex | badCircuit | badTable | noSuchClaim | staleHandle | notOwner | duplicate
  | tableFull | wrongMode | ignitionOn | storeBusy
deriving DecidableEq, Repr

/-- A reply: its code and its fields (R170). -/
structure Reply where
  code : ReplyCode
  fields : List Byte
deriving DecidableEq, Repr

/-- A request in work: which, and its parameter bytes (R156). -/
structure Request where
  req : Req
  params : List Byte
deriving DecidableEq, Repr

/-- The link state, with the request in work or the reply waiting (R156). -/
inductive Link where
  | idle
  | working (r : Request)
  | replyReady (reply : Reply)
deriving DecidableEq, Repr

/-- The Link Interface: the link state, the status set and the enable set, flag n at bit n (R176), and the bytes the
part shifted out in the latest frame. The pending set and ATTN are computed (R162). -/
structure LinkIf where
  link : Link
  status : BitVec 17
  enable : BitVec 17
  dataOut : List Byte
deriving DecidableEq, Repr

/-! ### Mode control (09_modes_stored_image_and_sleep.md) -/

/-- The device mode (R178). -/
inductive Mode where
  | loading
  | run
  | quiesced
  | sleep
deriving DecidableEq, Repr

/-- Where the configuration in force came from (R178). -/
inductive ImageSource where
  | stored
  | builtIn
deriving DecidableEq, Repr

/-- The image operation in flight; a save carries the image it writes (R185). -/
inductive StoreOp where
  | none
  | save (image : List Byte)
  | load
deriving DecidableEq, Repr

/-- Mode Control (R178). `heldInReset` is set from a reset until the part leaves it (R179). -/
structure ModeControl where
  mode : Mode
  cause : ResetCause
  source : ImageSource
  op : StoreOp
  sleepTimer : Option Nat
  heldInReset : Bool
deriving DecidableEq, Repr

/-- The input pins, at the values last presented to the part: the supply senses, the three sender inputs and the
switch inputs with IGN and START, laid out as in `Instr.switchScan`. -/
structure Pins where
  supply : Supply
  senders : Vector (BitVec 12) 3
  levels : BitVec 26
deriving DecidableEq, Repr

/-- The whole state. `store` is the content of the image store from byte address 0 (R177). `freeCount` is the MODEL's
own: the number of free values taken so far. `pending` is the queue of commands waiting, first in first out. -/
structure State where
  clt : ClaimTable
  sbu : Budget
  crs : Resolver
  fls : Flasher
  chd : Vector Channel 20
  sws : Scanner
  bde : Engine
  gau : Vector Gauge 3
  lif : LinkIf
  mdc : ModeControl
  pins : Pins
  store : List Byte
  freeCount : Nat
  pending : List Instr
deriving DecidableEq, Repr

/-- The faults of a command. There are none: the manual gives every command of the table an effect, so no meaning
faults. -/
inductive Fault where
deriving DecidableEq, Repr

/-- The refusals of a command. -/
inductive Refusal where
  /-- Raised by `exec` alone, for a command whose meaning is not written yet; no arm raises it. Safe: the machine
  stops. -/
  | notModelled (mnemonic : String)
deriving DecidableEq, Repr

/-! ### After reset -/

/-- The profile of the built-in default image (R85). -/
def defaultProfile (ch : Chan) : Profile :=
  if ch.val < 16 then
    { kind := .filament, nominal := 40, trip := 70, openLoad := 10, inrush := 60, minDuty := 0, stall := 0,
      source := none }
  else
    { kind := .filament, nominal := 80, trip := 140, openLoad := 20, inrush := 80, minDuty := 0, stall := 0,
      source := none }

/-- The circuit entry of the built-in default image (R53). -/
def defaultCircuit (c : Circ) : CircuitEntry := { channels := [c.castLE (by decide)], maxLevel := 1 }

/-- The group definition of the built-in default image (R134). -/
def defaultGroup (i : Fin 16) : GroupDef :=
  { first := i.val, width := 1, polarity := .activeLow, debounce := 4 }

/-- The binding entry of the built-in default image (R134). -/
def defaultBinding (b : BindIx) : BindEntry :=
  if h : b.val < 16 then
    .test { group := ⟨b.val, by omega⟩, mask := 1, op := .eq, value := 1 } false
      (some { circuit := ⟨b.val, h⟩, mode := .steady, cls := .safety, level := 1, floor := none, share := none,
              offDelay := 0 })
  else .unused

/-- The gauge settings of the built-in default image (R136). -/
def defaultGauge : GaugeSettings := { points := [(0, 0), (9999, 1000)], k := 32, vstab := 1000 }

/-- A channel's record after reset (R86). -/
def resetChannel (p : Profile) : Channel :=
  { profile := p, state := .off, demand := 0, target := 0, applied := 0, ramp := 0, samples := [], tripCount := 0,
    lastTrip := none, openLoadFlag := false, lifetime := 0, overRun := 0, stallTime := 0, lowTime := 0, goodTime := 0 }

/-- A group's running record after reset (R113). -/
def resetGroupRec : GroupRec := { accepted := none, raw := none, candidate := none, run := 0 }

/-- What the BDE keeps for a binding after reset (R119). -/
def resetBindRec : BindRec := { link := .none, result := none, verdict := none }

/-- A gauge's running record after reset (R137). -/
def resetGauge (g : GaugeSettings) : Gauge :=
  { settings := g, samples := [], state := .off, reading := none, target := 0, lastGood := 0, filtered := 0, duty := 0,
    applied := 0, undervolt := false }

/-- The machine right after a power-on reset that it has left: LOADING has begun. Each block's values are those of its
chapter (R24, R50, R53, R68, R86, R113, R119, R137, R156, R161, R162, R178). The configuration held before LOADING has
taken one, the pins, the store's content, the filtered values and the image source are DESIGN CHOICE (logs 5, 6, 7). -/
def State.reset : State :=
  { clt := { slots := tabulate fun _ => { gen := 0, claim := none }, grantList := [], heldQueue := [] }
    sbu := { samples := [], vbatF := 0, vgenF := 0, ibatF := 0, band := .normal, charging := .notCharging,
             deficitRun := 0, surplusRun := 0, crank := .none, hostHold := none }
    crs := { inForce := tabulate defaultCircuit, pendingEntry := tabulate fun _ => none,
             resolved := tabulate fun _ => .off, flashPresent := false, flashSet := tabulate fun _ => false }
    fls := { phase := .idle, rateSet := 80, fast := false, ticker := true, failed := tabulate fun _ => false,
             tickPulse := none }
    chd := tabulate fun ch => resetChannel (defaultProfile ch)
    sws := { defs := tabulate defaultGroup, recs := tabulate fun _ => resetGroupRec, levels := 0 }
    bde := { entries := tabulate defaultBinding, recs := tabulate fun _ => resetBindRec, pass := none,
             passRequested := false, waiting := none }
    gau := tabulate fun _ => resetGauge defaultGauge
    lif := { link := .idle, status := 1, enable := 0, dataOut := [] }
    mdc := { mode := .loading, cause := .powerOn, source := .builtIn, op := .none, sleepTimer := none,
             heldInReset := false }
    pins := { supply := { vbat := 0, vgen := 0, ibat := 0 }, senders := tabulate fun _ => 0, levels := 0x0FFFFFF }
    store := List.replicate 1391 255
    freeCount := 0
    pending := [] }

end Sys2Proof.Machine
end

