-- ==== Sys2Proof/Machine/Flags.lean ====
section
/-! DEFINITION. The status flags: their positions (R176), the setting of a flag (R161), the pending set and ATTN
(R162). -/

namespace Sys2Proof.Machine

/-- The seventeen status flags (R161). -/
inductive Flag where
  | reset | loadDefault | claimHeld | claimRestored | claimExpired | band | charge | crank | trip | lock | openLoad
  | sender | tableFull | storeDone | storeFail | wake | overrun
deriving DecidableEq, Repr

/-- A flag's position in a flag set (R176). -/
def Flag.pos : Flag → Nat
  | .reset => 0 | .loadDefault => 1 | .claimHeld => 2 | .claimRestored => 3 | .claimExpired => 4 | .band => 5
  | .charge => 6 | .crank => 7 | .trip => 8 | .lock => 9 | .openLoad => 10 | .sender => 11 | .tableFull => 12
  | .storeDone => 13 | .storeFail => 14 | .wake => 15 | .overrun => 16

/-- The flag set holding one flag. -/
def Flag.bit (f : Flag) : BitVec 17 := 1#17 <<< f.pos

/-- Set a status flag; one already set leaves the set as it is (R161). -/
def setFlag (f : Flag) (s : State) : State := { s with lif := { s.lif with status := s.lif.status ||| f.bit } }

/-- Set a status flag when `b` holds. -/
def setFlagIf (b : Bool) (f : Flag) (s : State) : State := if b then setFlag f s else s

/-- Whether the status set holds a flag. -/
def hasFlag (f : Flag) (s : State) : Bool := s.lif.status.getLsbD f.pos

/-- The pending set: the flags in both the status set and the enable set (R162). -/
def pendingSet (s : State) : BitVec 17 := s.lif.status &&& s.lif.enable

/-- The ATTN output is driven low while the pending set is not empty (R162). -/
def attnLow (s : State) : Bool := pendingSet s != 0

/-- The TICK output is high during a pulse (R79). -/
def tickHigh (s : State) : Bool := s.fls.tickPulse.isSome

end Sys2Proof.Machine
end

