-- ==== Sys2Proof/Machine/Operands.lean ====
section
/-! DEFINITION. The formats: bytes and codes of the link (R169–R172), the record layouts (R173–R175) with the checks
and clamps their write requests make of them (R65, R81, R109, R129, R132, R153), and the stored image (R177, R181). -/

namespace Sys2Proof.Machine

/-! ### Bytes -/

/-- The low eight bits of a number. -/
def byte (n : Nat) : Byte := BitVec.ofNat 8 n

/-- A field of two bytes, most significant first (R169). -/
def be16 (n : Nat) : List Byte := [byte (n / 256), byte n]

/-- A field of three bytes, most significant first (R169). -/
def be24 (n : Nat) : List Byte := [byte (n / 65536), byte (n / 256), byte n]

/-- A signed field of two bytes, two's complement (R169). -/
def signed16 (i : Int) : List Byte := be16 (i % 65536).toNat

/-- The number two bytes hold (R169). -/
def word16 (hi lo : Byte) : Nat := hi.toNat * 256 + lo.toNat

/-- A yes/no or on/off code (R171). -/
def boolByte (b : Bool) : Byte := if b then 1 else 0

/-- An optional field that reads 0 when absent (R169). -/
def optByte (o : Option Nat) : Byte := byte (o.getD 0)

/-- The number of a set of channels, CHn at bit n (R169). -/
def chanSetNat (v : Vector Bool 20) : Nat :=
  (List.finRange 20).foldl (fun n c => if v.get c then n + 2 ^ c.val else n) 0

/-- A set of channels in three bytes (R169). -/
def chanSetBytes (v : Vector Bool 20) : List Byte := be24 (chanSetNat v)

/-- A set of status flags in three bytes (R169). -/
def flagSetBytes (v : BitVec 17) : List Byte := be24 v.toNat

/-- The set of status flags three bytes name; positions beyond the seventeen are ignored (R164). -/
def flagSetOf (b2 b1 b0 : Byte) : BitVec 17 := BitVec.ofNat 17 (b2.toNat * 65536 + b1.toNat * 256 + b0.toNat)

/-! ### Codes (R170, R171, R172) -/

def ReplyCode.code : ReplyCode → Byte
  | .ok => 0 | .clamped => 1 | .granted => 2 | .degraded => 3 | .held => 4 | .accepted => 5
  | .notReady => 128 | .badRequest => 129 | .badIndex => 130 | .badCircuit => 131 | .badTable => 132
  | .noSuchClaim => 133 | .staleHandle => 134 | .notOwner => 135 | .duplicate => 136 | .tableFull => 137
  | .wrongMode => 138 | .ignitionOn => 139 | .storeBusy => 140

/-- The markers a fetch frame returns in place of a reply (R157, R170). -/
def markerNotYet : Byte := 240
def markerEmpty : Byte := 241

def Req.code : Req → Byte
  | .claimRaise => 16 | .claimAlter => 17 | .claimRetire => 18 | .claimLookup => 19 | .claimScan => 20
  | .supplyRead => 32 | .holdSet => 33 | .circuitRead => 40 | .circuitWrite => 41 | .flasherRead => 48
  | .flasherSet => 49 | .channelRead => 56 | .channelRestore => 57 | .profileRead => 58 | .profileWrite => 59
  | .groupRead => 64 | .groupWrite => 65 | .bindRead => 66 | .bindWrite => 67 | .gaugeRead => 72 | .gaugeSet => 73
  | .statusRead => 80 | .statusClear => 81 | .enableRead => 82 | .enableSet => 83 | .enableClear => 84
  | .pendingRead => 85 | .deviceRead => 96 | .quiesce => 97 | .resume => 98 | .storeSave => 99 | .storeLoad => 100

/-- Every request of the request summary (R172). -/
def Req.all : List Req :=
  [.claimRaise, .claimAlter, .claimRetire, .claimLookup, .claimScan, .supplyRead, .holdSet, .circuitRead,
   .circuitWrite, .flasherRead, .flasherSet, .channelRead, .channelRestore, .profileRead, .profileWrite, .groupRead,
   .groupWrite, .bindRead, .bindWrite, .gaugeRead, .gaugeSet, .statusRead, .statusClear, .enableRead, .enableSet,
   .enableClear, .pendingRead, .deviceRead, .quiesce, .resume, .storeSave, .storeLoad]

/-- The request a code names, if it is one of those in the request summary. -/
def Req.ofCode (b : Byte) : Option Req := Req.all.find? (fun r => r.code == b)

def ClaimMode.code : ClaimMode → Byte
  | .steady => 0 | .flash => 1

def ClaimMode.ofCode (b : Byte) : Option ClaimMode :=
  if b = 0 then some .steady else if b = 1 then some .flash else none

def ClaimClass.code : ClaimClass → Byte
  | .safety => 0 | .lighting => 1 | .comfort => 2 | .auxiliary => 3

def ClaimClass.ofCode (b : Byte) : Option ClaimClass :=
  if b = 0 then some .safety else if b = 1 then some .lighting
  else if b = 2 then some .comfort else if b = 3 then some .auxiliary else none

def HoldReasons.code (r : HoldReasons) : Byte :=
  byte ((if r.budgetTimer.isSome then 1 else 0) + (if r.crank then 2 else 0) + (if r.host then 4 else 0))

def Band.code : Band → Byte
  | .normal => 0 | .low => 1 | .critical => 2

def Charging.code : Charging → Byte
  | .notCharging => 0 | .charging => 1

def Crank.code : Crank → Byte
  | .none => 0 | .cranking => 1 | .recovery _ => 2

def Resolved.code : Resolved → Byte
  | .off => 0 | .steady _ => 1 | .flashing => 2

def Phase.code : Phase → Byte
  | .idle => 0 | .lit _ _ _ => 1 | .dark _ _ => 2

/-- A check entry's two bits (R171). UNJUDGED stands only within an expiry, so the table gives it none. -/
def CheckEntry.code : CheckEntry → Nat
  | .pending false _ => 0 | .pass => 1 | .fail => 2 | .pending true _ => 3 | .unjudged => 0

def ChanKind.code : ChanKind → Byte
  | .unused => 0 | .filament => 1 | .led => 2 | .motor => 3 | .telltale => 4

def ChanState.code : ChanState → Byte
  | .off => 0 | .softstart _ => 1 | .on _ => 2 | .tripped _ => 3 | .locked _ => 4

def tripKindCode : Option TripKind → Byte
  | none => 0 | some .ordinary => 1 | some .hard => 2 | some .stall => 3

def Polarity.code : Polarity → Byte
  | .activeLow => 0 | .activeHigh => 1

def TestOp.code : TestOp → Byte
  | .eq => 0 | .ne => 1 | .any => 2 | .none => 3

def TestOp.ofCode (b : Byte) : Option TestOp :=
  if b = 0 then some .eq else if b = 1 then some .ne
  else if b = 2 then some .any else if b = 3 then some .none else none

/-- A test result or a verdict: none 0, PASSED or MATCHED 1, FAILED or UNMATCHED 2. -/
def resultCode : Option Bool → Byte
  | none => 0 | some true => 1 | some false => 2

def GaugeState.code : GaugeState → Byte
  | .off => 0 | .active => 1 | .suspect _ => 2 | .faultHold _ _ _ => 3 | .faultRest _ _ => 4

def FaultKind.code : FaultKind → Byte
  | .openSender => 1 | .short => 2

def Mode.code : Mode → Byte
  | .loading => 0 | .run => 1 | .quiesced => 2 | .sleep => 3

def ResetCause.toByte : ResetCause → Byte
  | .powerOn => 0 | .brownOut => 1 | .resetPin => 2

def ImageSource.code : ImageSource → Byte
  | .stored => 0 | .builtIn => 1

/-- A group code field, 255 for UNKNOWN or absent (R172). -/
def groupCodeByte : Option (BitVec 4) → Byte
  | none => 255 | some c => byte c.toNat

/-! ### Judged records

A record read from bytes is accepted, with a mark that a value was clamped, or refused with a reply code. LOADING and
STORE.LOAD judge the records of an image by the same functions (R181). -/

/-- The outcome of judging a record. -/
abbrev Judged (α : Type) := Except ReplyCode (α × Bool)

/-! #### Profiles (R83, R109, R175) -/

def tellSourceBytes : Option TellSource → List Byte
  | none => [0, 0, 0, 0]
  | some (.circuit c) => [1, byte c.val, 0, 0]
  | some .flash => [2, 0, 0, 0]
  | some .charge => [3, 0, 0, 0]
  | some (.gaugeHigh g t) => [4, byte g.val] ++ be16 t
  | some .openLoad => [5, 0, 0, 0]

/-- A profile in its twelve bytes (R175). -/
def profileBytes (p : Profile) : List Byte :=
  [p.kind.code, byte p.nominal, byte p.trip, byte p.openLoad, byte p.inrush] ++ be16 p.minDuty ++ [byte p.stall]
    ++ tellSourceBytes p.source

/-- The common fields checked by step 5 of R109. -/
def profileCurrentsFit (ch : Chan) (nominal trip openLoad : Nat) : Bool :=
  decide (nominal ≤ Config.rating ch) && decide (10 ≤ trip) && decide (trip ≤ Config.rating ch)
    && decide (openLoad ≤ trip)

/-- The tell-tale source of a TELLTALE profile, with its clamp mark; `none` for a code not defined, absent included. -/
def judgeTellSource (src arg : Byte) (threshold : Nat) : Option (TellSource × Bool) :=
  if src = 1 then if h : arg.toNat < 16 then some (.circuit ⟨arg.toNat, h⟩, false) else none
  else if src = 2 then some (.flash, false)
  else if src = 3 then some (.charge, false)
  else if src = 4 then
    if h : arg.toNat < 3 then
      some (.gaugeHigh ⟨arg.toNat, h⟩ (clampNat 1 1000 threshold), clampNat 1 1000 threshold != threshold)
    else none
  else if src = 5 then some (.openLoad, false)
  else none

/-- Steps 3 to 6 of R109 on a channel's twelve profile bytes. -/
def judgeProfile (ch : Chan) (bytes : List Byte) : Judged Profile :=
  match bytes with
  | [kind, nom, trp, ol, inr, md1, md0, st, src, arg, th1, th0] =>
    if kind = 4 ∧ ((src = 1 ∧ 15 < arg.toNat) ∨ (src = 4 ∧ 2 < arg.toNat)) then .error .badIndex
    else
      let nominal := nom.toNat
      let trip := trp.toNat
      let openLoad := ol.toNat
      let fit := profileCurrentsFit ch nominal trip openLoad
      let base : Profile :=
        { kind := .unused, nominal := nominal, trip := trip, openLoad := openLoad, inrush := 0, minDuty := 0, stall := 0,
          source := none }
      if kind = 0 then if fit then .ok (base, false) else .error .badTable
      else if kind = 1 then
        if fit then .ok ({ base with kind := .filament, inrush := min inr.toNat 250 }, decide (250 < inr.toNat))
        else .error .badTable
      else if kind = 2 then if fit then .ok ({ base with kind := .led }, false) else .error .badTable
      else if kind = 3 then
        if 16 ≤ ch.val ∧ fit = true ∧ st.toNat ≤ Config.rating ch then
          .ok ({ base with kind := .motor, minDuty := min (word16 md1 md0) 900, stall := st.toNat },
            decide (900 < word16 md1 md0))
        else .error .badTable
      else if kind = 4 then
        match judgeTellSource src arg (word16 th1 th0) with
        | none => .error .badRequest
        | some (source, c) =>
          if fit then .ok ({ base with kind := .telltale, source := some source }, c) else .error .badTable
      else .error .badRequest
  | _ => .error .badRequest

/-! #### Circuit entries (R51, R65, R175) -/

/-- The first four of a list of bytes, with 0 in the unused positions. -/
def fourPositions (xs : List Byte) : List Byte := (xs ++ [0, 0, 0, 0]).take 4

/-- A circuit entry in its six bytes (R175). -/
def circuitBytes (e : CircuitEntry) : List Byte :=
  byte e.channels.length :: fourPositions (e.channels.map fun c => byte c.val) ++ [byte e.maxLevel]

/-- The channels a list of bytes names, if every one is CH0–CH19. -/
def channelsOf : List Byte → Option (List Chan)
  | [] => some []
  | b :: bs =>
    if h : b.toNat < 20 then (channelsOf bs).map (fun cs => ⟨b.toNat, h⟩ :: cs) else none

/-- Steps 3 to 5 of R65 on the listed channels and the maximum level. -/
def judgeCircuit (channels : List Byte) (maxLevel : Byte) : Judged CircuitEntry :=
  match channelsOf channels with
  | none => .error .badIndex
  | some cs =>
    if 4 < cs.length ∨ ¬ cs.Nodup then .error .badTable
    else
      let m := clampNat 1 15 maxLevel.toNat
      .ok ({ channels := cs, maxLevel := m }, m != maxLevel.toNat)

/-- A circuit entry from its six bytes in an image (R175, R181). -/
def judgeCircuitRecord (bytes : List Byte) : Judged CircuitEntry :=
  match bytes with
  | [n, c0, c1, c2, c3, m] =>
    if 4 < n.toNat then .error .badTable else judgeCircuit ([c0, c1, c2, c3].take n.toNat) m
  | _ => .error .badRequest

/-! #### Group definitions (R112, R129, R175) -/

/-- A group definition in its four bytes (R175). -/
def groupBytes (d : GroupDef) : List Byte := [byte d.first, byte d.width, d.polarity.code, byte d.debounce]

/-- Steps 3 to 6 of R129 on a group's four definition bytes. -/
def judgeGroup (bytes : List Byte) : Judged GroupDef :=
  match bytes with
  | [f, w, p, n] =>
    if 23 < f.toNat then .error .badIndex
    else if 1 < p.toNat then .error .badRequest
    else if w = 0 ∨ 4 < w.toNat ∨ 24 < f.toNat + w.toNat then .error .badTable
    else
      let d := clampNat 2 16 n.toNat
      .ok ({ first := f.toNat, width := w.toNat, polarity := if p = 0 then .activeLow else .activeHigh, debounce := d },
        d != n.toNat)
  | _ => .error .badRequest

/-! #### Binding entries (R117, R132, R174) -/

/-- A binding entry in its fourteen bytes (R174). -/
def bindBytes : BindEntry → List Byte
  | .unused => [0, 0, 0, 0, 0, 0, 0, 0, 0, 0, 0, 0, 0, 0]
  | .gateEnd => [3, 0, 0, 0, 0, 0, 0, 0, 0, 0, 0, 0, 0, 0]
  | .gate t => [2, byte t.group.val, byte t.mask.toNat, t.op.code, byte t.value.toNat, 0, 0, 0, 0, 0, 0, 0, 0, 0]
  | .test t chained none =>
    [1, byte t.group.val, byte t.mask.toNat, t.op.code, byte t.value.toNat, boolByte chained, 0, 0, 0, 0, 0, 0, 0, 0]
  | .test t chained (some a) =>
    [1, byte t.group.val, byte t.mask.toNat, t.op.code, byte t.value.toNat,
     byte ((if chained then 1 else 0) + 2 + (if a.share.isSome then 4 else 0)), byte a.circuit.val, a.mode.code,
     a.cls.code, byte a.level, optByte a.floor, optByte a.share] ++ be16 a.offDelay

/-- The clamps of step 6 of R132 on an action whose codes are defined. -/
def judgeAction (circuit : Circ) (mode : ClaimMode) (cls : ClaimClass) (level floor : Nat) (share : Option Nat)
    (offDelay : Nat) : Action × Bool :=
  let l := clampNat 1 15 level
  let fl := min floor l
  let a : Action :=
    { circuit := circuit, mode := mode, cls := cls, level := l, floor := if floor = 0 then none else some fl,
      share := share.map (min · Config.maxShare), offDelay := min offDelay Config.maxExpiry }
  (a, l != level || fl != floor || decide (Config.maxShare < share.getD 0) || decide (Config.maxExpiry < offDelay))

/-- The test of a TEST or GATE entry; the mask and the value take the low four bits of their bytes (R169). -/
def judgeTest (group mask op value : Byte) : Except ReplyCode Test :=
  if h : group.toNat < 18 then
    match TestOp.ofCode op with
    | none => .error .badRequest
    | some o => .ok { group := ⟨group.toNat, h⟩, mask := mask.setWidth 4, op := o, value := value.setWidth 4 }
  else .error .badIndex

/-- Steps 3 to 6 of R132 on a binding's fourteen bytes. -/
def judgeBind (bytes : List Byte) : Judged BindEntry :=
  match bytes with
  | [kind, group, mask, op, value, flags, circuit, mode, cls, level, floor, share, od1, od0] =>
    if kind = 0 then .ok (.unused, false)
    else if kind = 3 then .ok (.gateEnd, false)
    else if kind = 2 then (judgeTest group mask op value).map fun t => (.gate t, false)
    else if kind = 1 then
      let chained := flags.getLsbD 0
      if flags.getLsbD 1 then
        if h : circuit.toNat < 16 then
          match judgeTest group mask op value, ClaimMode.ofCode mode, ClaimClass.ofCode cls with
          | .error e, _, _ => .error e
          | .ok t, some m, some c =>
            let (a, clamped) :=
              judgeAction ⟨circuit.toNat, h⟩ m c level.toNat floor.toNat
                (if flags.getLsbD 2 then some share.toNat else none) (word16 od1 od0)
            .ok (.test t chained (some a), clamped)
          | .ok _, _, _ => .error .badRequest
        else .error .badIndex
      else (judgeTest group mask op value).map fun t => (.test t chained none, false)
    else .error .badRequest
  | _ => .error .badRequest

/-! #### Gauge settings (R136, R153, R175) -/

/-- A calibration point in its three bytes: resistance in the upper 14 bits, deflection in the lower 10 (R172). -/
def pointBytes (p : Nat × Nat) : List Byte := be24 (p.1 * 1024 + p.2)

/-- Gauge settings in their 29 bytes (R175). -/
def gaugeBytes (g : GaugeSettings) : List Byte :=
  byte g.points.length :: ((g.points.flatMap pointBytes) ++ List.replicate 24 0).take 24 ++ be16 g.k ++ be16 g.vstab

/-- The first `n` points of a run of bytes. -/
def pointsOf : Nat → List Byte → List (Nat × Nat)
  | 0, _ => []
  | n + 1, b2 :: b1 :: b0 :: rest =>
    let v := b2.toNat * 65536 + b1.toNat * 256 + b0.toNat
    (v / 1024, v % 1024) :: pointsOf n rest
  | _ + 1, _ => []

/-- Whether each number is below the next. -/
def increasing : List Nat → Bool
  | [] => true
  | [_] => true
  | a :: b :: rest => decide (a < b) && increasing (b :: rest)

/-- Steps 4 and 5 of R153. -/
def judgeGauge (points : List (Nat × Nat)) (k vstab : Nat) : Judged GaugeSettings :=
  if points.length < 2 ∨ 8 < points.length then .error .badTable
  else if points.any (fun p => decide (9999 < p.1)) ∨ ¬ increasing (points.map (·.1)) then .error .badTable
  else
    let points' := points.map fun p => (p.1, min p.2 1000)
    let k' := clampNat 1 256 k
    let v' := clampNat 800 1200 vstab
    .ok ({ points := points', k := k', vstab := v' },
      points.any (fun p => decide (1000 < p.2)) || k' != k || v' != vstab)

/-- Gauge settings from their 29 bytes in an image (R175, R181). -/
def judgeGaugeRecord (bytes : List Byte) : Judged GaugeSettings :=
  match bytes with
  | n :: rest =>
    match rest.drop 24 with
    | [k1, k0, v1, v0] =>
      if 8 < n.toNat then .error .badTable
      else judgeGauge (pointsOf n.toNat (rest.take 24)) (word16 k1 k0) (word16 v1 v0)
    | _ => .error .badRequest
  | _ => .error .badRequest

/-! #### Flasher settings (R68, R81, R175) -/

/-- The rate set and the ticker enable from their two bytes. -/
def judgeFlasher (bytes : List Byte) : Judged (Nat × Bool) :=
  match bytes with
  | [rate, ticker] =>
    if 1 < ticker.toNat then .error .badRequest
    else
      let r := clampNat 60 120 rate.toNat
      .ok ((r, ticker = 1), r != rate.toNat)
  | _ => .error .badRequest

/-! ### The claim record (R172, R173) -/

/-- A handle's number (R3). -/
def Handle.toNat (h : Handle) : Nat := h.slot.val * 16 + h.gen.val

/-- The handle a number names, unless it is above 511 (R3, R4). -/
def Handle.ofNat (n : Nat) : Option Handle :=
  if h : n < 512 then some { slot := ⟨n / 16, by omega⟩, gen := ⟨n % 16, by omega⟩ } else none

/-- A claim's granted level; a HELD claim's is 0 (R2). -/
def Claim.granted (c : Claim) : Nat :=
  match c.state with
  | .granted l => l
  | .held _ => 0

/-- Whether a claim is HELD. -/
def Claim.isHeld (c : Claim) : Bool :=
  match c.state with
  | .granted _ => false
  | .held _ => true

/-- A HELD claim's hold reasons; absent while GRANTED (R1). -/
def Claim.reasons (c : Claim) : Option HoldReasons :=
  match c.state with
  | .granted _ => none
  | .held r => some r

/-- The claim outcome of R172, seven bytes. A GRANTED claim's hold reasons, which are absent (R1), read 0: R169 gives 0 for
an absent optional field and 255 for an absent code, and the outcome has no presence mark (DEDUCED, log 25). -/
def claimOutcome (h : Handle) (c : Claim) : List Byte :=
  be16 h.toNat ++ [boolByte c.isHeld, byte c.requested, byte c.floor, byte c.granted,
    (c.reasons.map HoldReasons.code).getD 0]

def originByte : Origin → Byte
  | .binding b => byte b.val
  | .link => 64

/-- The claim record of CLAIM.LOOKUP, seventeen bytes (R173). -/
def claimRecord (h : Handle) (c : Claim) : List Byte :=
  let timer := c.reasons.bind (·.budgetTimer)
  let bit (b : Bool) (n : Nat) : Nat := if b then 2 ^ n else 0
  be16 h.toNat ++
    [originByte c.origin, byte c.circuit.val, c.mode.code, c.cls.code, byte c.requested, byte c.floor, byte c.granted,
     byte c.shareFull,
     byte (bit c.isHeld 0 + bit (c.source = .circuit) 1 + bit c.isHeld 2 + bit timer.isSome 3 + bit c.expiry.isSome 4
       + bit c.settle.isSome 5),
     (c.reasons.map HoldReasons.code).getD 0, optByte timer] ++
    be16 (c.expiry.getD 0) ++ [optByte (c.settle.map (·.share)), optByte (c.settle.map (·.left))]

/-! ### The stored image (R177) -/

/-- A whole configuration, as the image holds it. -/
structure Configuration where
  profiles : Vector Profile 20
  circuits : Vector CircuitEntry 16
  groups : Vector GroupDef 16
  bindings : Vector BindEntry 64
  gauges : Vector GaugeSettings 3
  rate : Nat
  ticker : Bool
deriving DecidableEq, Repr

/-- The built-in default image's configuration (R181). -/
def defaultConfiguration : Configuration :=
  { profiles := tabulate defaultProfile, circuits := tabulate defaultCircuit, groups := tabulate defaultGroup,
    bindings := tabulate defaultBinding, gauges := tabulate fun _ => defaultGauge, rate := 80, ticker := true }

/-- The sum of a run of bytes, modulo 65,536 (R177). -/
def checksum (bytes : List Byte) : Nat := (bytes.map BitVec.toNat).sum % 65536

/-- Bytes 0 to 1388 of a configuration's image (R177). -/
def imageBody (c : Configuration) : List Byte :=
  be16 1 ++ be16 Config.imageLength
    ++ c.profiles.toList.flatMap profileBytes
    ++ c.circuits.toList.flatMap circuitBytes
    ++ c.groups.toList.flatMap groupBytes
    ++ c.bindings.toList.flatMap bindBytes
    ++ c.gauges.toList.flatMap gaugeBytes
    ++ [byte c.rate, boolByte c.ticker]

/-- The image of a configuration (R177). -/
def formImage (c : Configuration) : List Byte := imageBody c ++ be16 (checksum (imageBody c))

/-- `len` bytes from byte address `off`. -/
def slice (bytes : List Byte) (off len : Nat) : List Byte := (bytes.drop off).take len

/-- Every record of a section, if each is accepted; a clamp is silent (R181). -/
def collect {α : Type} {n : Nat} (dflt : α) (judge : Fin n → Judged α) : Option (Vector α n) :=
  if (List.finRange n).all fun i => (judge i).toBool then
    some (tabulate fun i => match judge i with | .ok (x, _) => x | .error _ => dflt)
  else none

/-- Step 4 of R180: every record judged as R181 gives, at its place of R177. -/
def judgeImage (bytes : List Byte) : Option Configuration :=
  let profiles := collect (defaultProfile 0) fun i : Fin 20 => judgeProfile i (slice bytes (4 + 12 * i.val) 12)
  let circuits := collect (defaultCircuit 0) fun i : Fin 16 => judgeCircuitRecord (slice bytes (244 + 6 * i.val) 6)
  let groups := collect (defaultGroup 0) fun i : Fin 16 => judgeGroup (slice bytes (340 + 4 * i.val) 4)
  let bindings := collect BindEntry.unused fun i : Fin 64 => judgeBind (slice bytes (404 + 14 * i.val) 14)
  let gauges := collect defaultGauge fun i : Fin 3 => judgeGaugeRecord (slice bytes (1300 + 29 * i.val) 29)
  match profiles, circuits, groups, bindings, gauges, judgeFlasher (slice bytes 1387 2) with
  | some p, some c, some g, some b, some ga, .ok ((rate, ticker), _) =>
    some { profiles := p, circuits := c, groups := g, bindings := b, gauges := ga, rate := rate, ticker := ticker }
  | _, _, _, _, _, _ => none

/-- The judgement of the bytes an image store delivers: the configuration of a valid image, and none for an image of
unknown format, mismatched or invalid (R180). A store too small for the image does not acknowledge all of it. -/
def readImage (bytes : List Byte) : Option Configuration :=
  if slice bytes 0 4 = be16 1 ++ be16 Config.imageLength ∧ Config.imageLength ≤ bytes.length
      ∧ slice bytes 1389 2 = be16 (checksum (bytes.take 1389)) then judgeImage bytes
  else none

end Sys2Proof.Machine
end

