-- ==== Sys2Proof/Machine/Ops.lean ====
section
/-! DEFINITION. The operations shared by the claim and budget rules: slots and collections (R3, R6, R7), shares, the
unsettled total and the headroom (R31–R33), admission (R34–R36), the raise (R9), retirement (R12), and the changes of
state that the budget, the crank hold and the host hold make. -/

namespace Sys2Proof.Machine

/-! ### Slots and records -/

/-- The live claim in a slot. -/
def claimAt (s : State) (i : SlotIx) : Option Claim := (s.clt.slots.get i).claim

/-- The handle of the life a slot is in (R3). -/
def handleAt (s : State) (i : SlotIx) : Handle := { slot := i, gen := (s.clt.slots.get i).gen }

/-- The lowest-numbered free slot (R3). -/
def freeSlot (t : ClaimTable) : Option SlotIx := (List.finRange 32).find? fun i => (t.slots.get i).claim.isNone

/-- The slots with live claims, in slot order. -/
def liveSlots (t : ClaimTable) : List SlotIx := (List.finRange 32).filter fun i => (t.slots.get i).claim.isSome

/-- Whether no claim is live. -/
def noClaims (t : ClaimTable) : Bool := (liveSlots t).isEmpty

/-- The table with the record in a slot replaced. -/
def ClaimTable.setClaim (t : ClaimTable) (i : SlotIx) (c : Option Claim) : ClaimTable :=
  { t with slots := upd t.slots i fun sl => { sl with claim := c } }

/-- The record in a slot changed, when the slot is live. -/
def modifyClaim (i : SlotIx) (f : Claim → Claim) (s : State) : State :=
  { s with clt := { s.clt with slots := upd s.clt.slots i fun sl => { sl with claim := sl.claim.map f } } }

/-- Every live claim's record changed. -/
def mapClaims (f : Claim → Claim) (s : State) : State :=
  { s with clt := { s.clt with slots := mapTbl (fun sl => { sl with claim := sl.claim.map f }) s.clt.slots } }

/-! ### The two collections -/

/-- The order of a class in the held queue: LIGHTING, COMFORT, AUXILIARY (R7). -/
def ClaimClass.rank : ClaimClass → Nat
  | .safety => 0 | .lighting => 1 | .comfort => 2 | .auxiliary => 3

/-- The rank of the claim in a slot. -/
def slotRank (t : ClaimTable) (i : SlotIx) : Nat :=
  match (t.slots.get i).claim with
  | some c => c.cls.rank
  | none => 0

/-- A queue with a slot placed after the last entry of its class and ahead of every entry of a lower class (R7). -/
def enqueue (t : ClaimTable) (i : SlotIx) (q : List SlotIx) : List SlotIx :=
  let ahead := fun j => decide (slotRank t j ≤ slotRank t i)
  q.takeWhile ahead ++ i :: q.dropWhile ahead

/-- The table with a slot taken out of both collections. -/
def ClaimTable.leave (t : ClaimTable) (i : SlotIx) : ClaimTable :=
  { t with grantList := t.grantList.filter (· ≠ i), heldQueue := t.heldQueue.filter (· ≠ i) }

/-! ### Shares, unsettled total, headroom -/

/-- The maximum level in force of a circuit. -/
def maxLevelOf (s : State) (c : Circ) : Nat := (s.crs.inForce.get c).maxLevel

/-- share(l) of a STEADY claim (R31). -/
def steadyShare (shareFull maxLevel level : Nat) : Nat := ceilDiv (shareFull * level) maxLevel

/-- The flash share of a FLASH claim (R31). -/
def flashShare (shareFull : Nat) : Nat := ceilDiv shareFull 2

/-- The share of a claim at a level, the flash share for a FLASH claim (R31). -/
def claimShare (s : State) (c : Claim) (level : Nat) : Nat :=
  match c.mode with
  | .steady => steadyShare c.shareFull (maxLevelOf s c.circuit) level
  | .flash => flashShare c.shareFull

/-- The nominal share of a channel list with the profiles in force (R52). -/
def nominalShare (s : State) (channels : List Chan) : Nat :=
  min Config.maxShare (channels.map fun ch => (s.chd.get ch).profile.nominal).sum

/-- A slot's part of the unsettled total. -/
def Slot.unsettled (sl : Slot) : Nat := ((sl.claim.bind (·.settle)).map (·.share)).getD 0

/-- The unsettled total U (R32). -/
def unsettled (s : State) : Nat := (s.clt.slots.toList.map Slot.unsettled).sum

/-- The allowance of a band (R29). -/
def Band.allowance : Band → Int
  | .normal => 40 | .low => 0 | .critical => -10

/-- The headroom H (R33). -/
def headroom (s : State) : Int := s.sbu.ibatF + s.sbu.band.allowance - (unsettled s : Int)

/-- A claim's settle part after a grant or an upward step of `added` dA (R32). -/
def addSettle (added : Nat) (part : Option SettlePart) : Option SettlePart :=
  if added = 0 then part
  else match part with
    | none => some { share := added, left := Config.settleCount }
    | some p => some { share := min Config.maxShare (p.share + added), left := Config.settleCount }

/-! ### Changes of state -/

/-- Hold reasons with BUDGET_TIMER alone and a timer of 8 (R35, R36, R40). -/
def budgetHold : HoldReasons := { budgetTimer := some Config.holdTimer, crank := false, host := false }

/-- A HELD claim whose reason set is empty (R7). -/
def HoldReasons.isEmpty (r : HoldReasons) : Bool := r.budgetTimer.isNone && !r.crank && !r.host

/-- The claim in a slot becomes GRANTED at a level and joins the tail of the grant order list, with a settle part of
`share` added to any it carries (R6, R32). -/
def makeGranted (i : SlotIx) (level share : Nat) (s : State) : State :=
  let s := modifyClaim i (fun c => { c with state := .granted level, settle := addSettle share c.settle }) s
  let t := s.clt.leave i
  { s with clt := { t with grantList := t.grantList ++ [i] } }

/-- The claim in a slot becomes HELD: its settle part goes, it leaves the grant order list and enters the held queue
(R7, R32). -/
def makeHeld (i : SlotIx) (r : HoldReasons) (s : State) : State :=
  let s := modifyClaim i (fun c => { c with state := .held r, settle := none }) s
  let t := s.clt.leave i
  { s with clt := { t with heldQueue := enqueue t i t.heldQueue } }

/-- The granted level of the claim in a slot changes where it stands, with a settle part of `added` (R6, R32). -/
def stepLevel (i : SlotIx) (level added : Nat) (s : State) : State :=
  modifyClaim i (fun c => { c with state := .granted level, settle := addSettle added c.settle }) s

/-! ### Admission -/

/-- Whether a host hold's class set holds a class (R47). -/
def HostHold.covers (h : HostHold) : ClaimClass → Bool
  | .safety => false | .lighting => h.lighting | .comfort => h.comfort | .auxiliary => h.auxiliary

/-- Whether a class is taken by the crank hold (R45). -/
def ClaimClass.crankHeld : ClaimClass → Bool
  | .comfort | .auxiliary => true
  | .safety | .lighting => false

/-- The standing hold reasons a class meets at admission (R34). -/
def standingHolds (s : State) (cls : ClaimClass) : HoldReasons :=
  { budgetTimer := none
    crank := s.sbu.crank != .none && cls.crankHeld
    host := match s.sbu.hostHold with
      | some h => h.covers cls
      | none => false }

/-- The levels from `hi` down to `lo`. -/
def levelsDown (lo hi : Nat) : List Nat := (List.range (hi + 1 - lo)).map (hi - ·)

/-- The outcome of admission. -/
inductive Admission where
  | grant (level : Nat)
  | hold (r : HoldReasons)
deriving DecidableEq, Repr

/-- The highest level from floor to requested whose share is at most `room`. -/
def fittingLevel (s : State) (c : Claim) (room : Int) : Option Nat :=
  (levelsDown c.floor c.requested).find? fun l => decide ((claimShare s c l : Int) ≤ room)

/-- Admission at a raise or at the re-admission of a change of mode (R34, R35, R36). -/
def admissionOf (s : State) (c : Claim) : Admission :=
  let standing := standingHolds s c.cls
  if !standing.isEmpty then .hold standing
  else if c.cls = .safety then .grant c.requested
  else match c.mode with
    | .flash =>
      if (flashShare c.shareFull : Int) ≤ headroom s then .grant c.requested else .hold budgetHold
    | .steady =>
      match fittingLevel s c (headroom s) with
      | some l => .grant l
      | none => .hold budgetHold

/-- The narrower admission of an upward alteration: whether an added share fits (R35). -/
def addedFits (s : State) (c : Claim) (added : Nat) : Bool :=
  c.cls = .safety || decide ((added : Int) ≤ headroom s)

/-- Put the claim in a slot to admission and place it (R34). -/
def admitSlot (i : SlotIx) (s : State) : State :=
  match claimAt s i with
  | none => s
  | some c =>
    match admissionOf s c with
    | .grant l => makeGranted i l (claimShare s c l) s
    | .hold r => setFlagIf (c.origin != .link) .claimHeld (makeHeld i r s)

/-! ### The raise -/

/-- What a raise is made from (R9). -/
structure Raise where
  origin : Origin
  circuit : Circ
  mode : ClaimMode
  cls : ClaimClass
  level : Nat
  floor : Option Nat
  share : Option Nat
  expiry : Nat
deriving DecidableEq, Repr

/-- The requested level of a STEADY claim: the level given, clamped to 1 to the maximum level (R9). -/
def raiseLevel (maxLevel level : Nat) : Nat := clampNat 1 maxLevel level

/-- The floor of a STEADY claim: the floor given, clamped to 1 to the requested level, or the requested level (R9). -/
def raiseFloor (requested : Nat) (floor : Option Nat) : Nat :=
  match floor with
  | some f => clampNat 1 requested f
  | none => requested

/-- The record a raise fills, before its admission (R9). -/
def newClaim (s : State) (r : Raise) : Claim :=
  let m := maxLevelOf s r.circuit
  let req := match r.mode with
    | .steady => raiseLevel m r.level
    | .flash => m
  { origin := r.origin, circuit := r.circuit, mode := r.mode, cls := r.cls, requested := req
    floor := match r.mode with
      | .steady => raiseFloor req r.floor
      | .flash => m
    shareFull := match r.share with
      | some sh => min sh Config.maxShare
      | none => nominalShare s (s.crs.inForce.get r.circuit).channels
    source := if r.share.isSome then .given else .circuit
    state := .held { budgetTimer := none, crank := false, host := false }
    expiry := if r.expiry = 0 then none else some (min r.expiry Config.maxExpiry)
    settle := none }

/-- The raise of R9 into a free slot. -/
def raiseInto (i : SlotIx) (r : Raise) (s : State) : State :=
  admitSlot i { s with clt := s.clt.setClaim i (some (newClaim s r)) }

/-! ### Retirement -/

/-- The slot-freed notice: a pass is requested when any binding is WANTING (R13). -/
def slotFreed (s : State) : State :=
  if s.bde.recs.toList.any (fun r => r.link == .wanting) then
    { s with bde := { s.bde with passRequested := true } }
  else s

/-- A binding's claim link set. -/
def setLink (b : BindIx) (l : BindLink) (s : State) : State :=
  { s with bde := { s.bde with recs := upd s.bde.recs b fun r => { r with link := l } } }

/-- Retirement of the claim in a slot: it leaves its collection, its settle part, timer and expiry go with it, the
slot's generation is increased and the slot is freed, its binding owns no claim, and the slot-freed notice is given
(R12, R13). The caller hands the circuit over (R8). -/
def retire (i : SlotIx) (s : State) : State :=
  match claimAt s i with
  | none => s
  | some c =>
    let t := { s.clt with slots := upd s.clt.slots i fun sl => { gen := sl.gen + 1, claim := none } }
    let s := { s with clt := t.leave i }
    let s := match c.origin with
      | .binding b => setLink b .none s
      | .link => s
    slotFreed s

/-! ### What a step has changed -/

/-- What resolution reads of a slot, with the life it is in (R8). -/
def Slot.visible (sl : Slot) : Option (Fin 16 × Circ × ClaimMode × ClaimState) :=
  sl.claim.map fun c =>
    (sl.gen, c.circuit, c.mode, match c.state with
      | .granted l => .granted l
      | .held _ => .held { budgetTimer := none, crank := false, host := false })

/-- The circuits of a slot's claims before and after, when a claim was created, retired, or changed state, granted
level or mode in it. -/
def slotTouched (a b : Slot) : List Circ :=
  if a.visible = b.visible then [] else (a.claim.map (·.circuit)).toList ++ (b.claim.map (·.circuit)).toList

/-- The circuits whose claims changed between two tables, as a set (R8). -/
def touchedCircuits (t t' : ClaimTable) : Vector Bool 16 :=
  let cs := (List.finRange 32).flatMap fun i => slotTouched (t.slots.get i) (t'.slots.get i)
  tabulate fun c => decide (c ∈ cs)

/-- The accepted code of a group. -/
def acceptedCode (s : State) (g : GroupIx) : Option (BitVec 4) := (s.sws.recs.get g).accepted

/-- Whether the ignition is accepted on. -/
def ignitionOn (s : State) : Bool := acceptedCode s ign == some 1

/-- Whether an image operation is in flight (R178). -/
def storeBusy (s : State) : Bool := s.mdc.op != .none

/-- Whether an image save is in flight. -/
def saving (s : State) : Bool :=
  match s.mdc.op with
  | .save _ => true
  | _ => false

end Sys2Proof.Machine
end

