-- ==== Sys2Proof/Machine/Outputs.lean ====
section
/-! DEFINITION. The operations from the granted claims to the outputs: the channel's start, cut and trip (R87–R100), the
Flasher's start, stop and LIT phase (R69–R71), the resolved states, the flash set and the demands (R54–R63). -/

namespace Sys2Proof.Machine

/-! ### One channel -/

/-- The measured current: the mean of the sample history, saturating at 400 dA (R87). -/
def Channel.measured (c : Channel) : Nat := min 400 (meanNat c.samples)

/-- A channel in SOFTSTART or ON, where its output is driven (R88). -/
def ChanState.driven : ChanState → Bool
  | .softstart _ | .on _ => true
  | .off | .tripped _ | .locked _ => false

/-- A channel in ON. -/
def ChanState.isOn : ChanState → Bool
  | .on _ => true
  | .off | .softstart _ | .tripped _ | .locked _ => false

/-- The target duty for a demand (R84, R88, R89). -/
def Profile.targetFor (p : Profile) (demand : Nat) : Nat :=
  match p.kind with
  | .unused => 0
  | .motor => if demand = 0 then 0 else p.minDuty + (1000 - p.minDuty) * demand / 1000
  | .filament | .led | .telltale => demand

/-- The output cut and the channel taken to an undriven state: duties 0, the sample history emptied, every working count
0 (R94, R98). -/
def Channel.cut (c : Channel) (st : ChanState) : Channel :=
  { c with
    state := st, target := 0, applied := 0, ramp := 0, samples := [], overRun := 0, stallTime := 0, lowTime := 0,
    goodTime := 0 }

/-- A start at the channel's demand (R90). An UNUSED channel is never started. -/
def Channel.start (c : Channel) : Channel :=
  let t := c.profile.targetFor c.demand
  let fresh := { c.cut c.state with target := t }
  match c.profile.kind with
  | .unused => c
  | .motor =>
    let d := c.profile.minDuty
    { fresh with state := if t = d then .on 0 else .softstart none, applied := d, ramp := d }
  | .filament =>
    { fresh with state := if 0 < c.profile.inrush then .softstart (some 0) else .on 0, applied := t, ramp := t }
  | .led | .telltale => { fresh with state := .on 0, applied := t, ramp := t }

/-- A demand handed to a channel, with the mode RUN or not: it starts the channel, retargets it, takes it OFF at once,
or on a LOCKED channel sets the cycle flag or makes the one attempt of a demand cycle (R90, R93, R94, R99, R100). -/
def Channel.takeDemand (run : Bool) (d : Nat) (c : Channel) : Channel :=
  let c' := { c with demand := d }
  match c.state with
  | .off => if run && decide (0 < d) then c'.start else c'
  | .softstart _ | .on _ =>
    if d = 0 then c'.cut .off
    else
      { c' with
        target := c.profile.targetFor d, lowTime := if d < 1000 then 0 else c.lowTime,
        goodTime := if d < 1000 then 0 else c.goodTime }
  | .tripped _ => c'
  | .locked cycle =>
    if d = 0 then { c' with state := .locked true }
    else if cycle && run && c.profile.kind != .unused then { c' with tripCount := 2 }.start
    else c'

/-- A trip: steps 1 to 5 of R98. -/
def Channel.trip (kind : TripKind) (c : Channel) : Channel :=
  let n := min 3 (c.tripCount + 1)
  let st := if n = 1 then ChanState.tripped 500 else if n = 2 then .tripped 1000 else .locked false
  { c.cut st with tripCount := n, lifetime := min 65535 (c.lifetime + 1), lastTrip := some kind }

/-- The threshold in effect (R95). -/
def tripThreshold (ch : Chan) (c : Channel) : Nat :=
  if c.state.isOn then c.profile.trip else min (3 * c.profile.trip) (3 * Config.rating ch)

/-- Entry into ON from a soft start (R91, R92, R102). -/
def Channel.enterOn (c : Channel) : Channel := { c with state := .on 0, lowTime := 0, goodTime := 0 }

/-! ### Channels in the state -/

/-- A check entry whose channel has left ON, or entered it anew: the time counted is discarded (R75). -/
def CheckEntry.discard : CheckEntry → CheckEntry
  | .pending joined _ => .pending joined 0
  | .pass => .pass
  | .fail => .fail
  | .unjudged => .unjudged

/-- A phase with the check entry of a channel changed, if it has one. -/
def Phase.modifyCheck (ch : Chan) (f : CheckEntry → CheckEntry) : Phase → Phase
  | .lit r n checks => .lit r n (upd checks ch fun e => e.map f)
  | .dark r n => .dark r n
  | .idle => .idle

/-- A channel's record changed; unless it stays in ON, the bulb check's count of its time in ON starts anew (R75). -/
def modifyChannel (ch : Chan) (f : Channel → Channel) (s : State) : State :=
  let c := s.chd.get ch
  let c' := f c
  let s := { s with chd := put s.chd ch c' }
  if c.state.isOn && c'.state.isOn then s
  else { s with fls := { s.fls with phase := s.fls.phase.modifyCheck ch CheckEntry.discard } }

/-- A trip of a channel with its status flags (R98). -/
def tripChannel (ch : Chan) (kind : TripKind) (s : State) : State :=
  let s := modifyChannel ch (Channel.trip kind) s
  setFlag .trip (setFlagIf ((s.chd.get ch).tripCount = 3) .lock s)

/-! ### The Flasher -/

/-- The period in use, in ms, for a rate and the fast flag (R71). -/
def periodInUse (rate : Nat) (fast : Bool) : Nat := if fast then 60000 / rate / 2 else 60000 / rate

/-- The duration of a LIT phase (R71). -/
def litTime (rate : Nat) (fast : Bool) : Nat := periodInUse rate fast / 2

/-- The duration of a DARK phase (R71). -/
def darkTime (rate : Nat) (fast : Bool) : Nat := periodInUse rate fast - litTime rate fast

/-- A ticker pulse, when the ticker is on (R79). -/
def Flasher.pulse (f : Flasher) : Flasher :=
  if f.ticker then { f with tickPulse := some Config.tickTime } else f

/-- A LIT phase begins: the rate set is adopted, the phase timed, a check list formed from the flash set and a ticker
pulse given (R71). -/
def Flasher.beginLit (flashSet : Vector Bool 20) (f : Flasher) : Flasher :=
  let checks := mapTbl (fun b => if b then some (CheckEntry.pending false 0) else none) flashSet
  { f with phase := .lit f.rateSet (litTime f.rateSet f.fast) checks }.pulse

/-- A start: the fast flag is clear and a LIT phase begins (R69). -/
def Flasher.start (flashSet : Vector Bool 20) (f : Flasher) : Flasher :=
  Flasher.beginLit flashSet { f with fast := false, failed := tabulate fun _ => false }

/-- A stop (R70). -/
def Flasher.stop (f : Flasher) : Flasher :=
  { f with phase := .idle, fast := false, failed := tabulate fun _ => false }

/-- The phase is LIT. -/
def Phase.isLit : Phase → Bool
  | .lit _ _ _ => true
  | .idle | .dark _ _ => false

/-- The Flasher runs while the flash-present indication is set and the mode is RUN, and is IDLE otherwise: it is started
or stopped when it stands otherwise (R69, R70). -/
def syncFlasher (s : State) : State :=
  if s.crs.flashPresent && s.mdc.mode == .run then
    if s.fls.phase = .idle then { s with fls := s.fls.start s.crs.flashSet } else s
  else if s.fls.phase = .idle then s
  else { s with fls := s.fls.stop }

/-! ### Resolving circuits -/

/-- The live claims on a circuit, in slot order. -/
def claimsOn (s : State) (c : Circ) : List Claim :=
  (liveSlots s.clt).filterMap fun i => (claimAt s i).filter fun cl => cl.circuit = c

/-- The resolved state of a circuit from its GRANTED claims (R54). -/
def resolve (s : State) (c : Circ) : Resolved :=
  let granted := (claimsOn s c).filter fun cl => !cl.isHeld
  if granted.any fun cl => cl.mode = .flash then .flashing
  else if granted.isEmpty then .off
  else
    let l := (granted.map Claim.granted).foldl max 0
    .steady (l * 1000 / maxLevelOf s c)

/-- The circuits whose list in force names a channel. -/
def circuitsNaming (s : State) (ch : Chan) : List Circ :=
  (List.finRange 16).filter fun c => decide (ch ∈ (s.crs.inForce.get c).channels)

/-- A kind whose demand comes from the circuits that name the channel (R57, R84). -/
def ChanKind.isLamp : ChanKind → Bool
  | .filament | .led | .motor => true
  | .unused | .telltale => false

/-- Whether a channel is in the flash set (R58). -/
def flashes (s : State) (ch : Chan) : Bool :=
  (s.chd.get ch).profile.kind.isLamp
    && (circuitsNaming s ch).any fun c => s.crs.resolved.get c = .flashing

/-- The check list after a change of the flash set during a LIT phase: a channel that joins is PENDING, marked as joined,
and a channel that leaves is removed (R74). -/
def Phase.follow (old new : Vector Bool 20) : Phase → Phase
  | .lit r n checks =>
    .lit r n (tabulate fun ch =>
      if new.get ch && !old.get ch then some (.pending true 0)
      else if old.get ch && !new.get ch then none
      else checks.get ch)
  | .dark r n => .dark r n
  | .idle => .idle

/-- The flash set formed afresh; the Flasher's check list and steady open-load detection follow it (R58, R74, R102). -/
def reformFlashSet (s : State) : State :=
  let new := tabulate fun ch => flashes s ch
  let old := s.crs.flashSet
  { s with
    crs := { s.crs with flashSet := new }
    fls := { s.fls with phase := s.fls.phase.follow old new }
    chd := tabulate fun ch =>
      let c := s.chd.get ch
      if new.get ch && !old.get ch then { c with lowTime := 0, goodTime := 0 } else c }

/-- The flash-present indication set afresh and handed to the Flasher (R56, R69). -/
def indicate (s : State) : State :=
  syncFlasher { s with crs := { s.crs with flashPresent := s.crs.resolved.toList.any fun r => r = .flashing } }

/-! ### Demands -/

/-- A steady demand; 0 for another resolved state. -/
def Resolved.demand : Resolved → Nat
  | .steady d => d
  | .off | .flashing => 0

/-- The demand of a FILAMENT, LED or MOTOR channel in RUN (R57). -/
def lampDemand (s : State) (ch : Chan) : Nat :=
  let rs := (circuitsNaming s ch).map fun c => s.crs.resolved.get c
  if rs.any fun r => r = .flashing then if s.fls.phase.isLit then 1000 else 0
  else (rs.map Resolved.demand).foldl max 0

/-- Whether a tell-tale source is lit in RUN (R60). -/
def sourceLit (s : State) : TellSource → Bool
  | .circuit c =>
    match s.crs.resolved.get c with
    | .off => false
    | .steady _ => true
    | .flashing => s.fls.phase.isLit
  | .flash => s.fls.phase.isLit
  | .charge => ignitionOn s && s.sbu.charging == .notCharging
  | .gaugeHigh g threshold => decide (threshold ≤ (s.gau.get g).filtered)
  | .openLoad =>
    s.chd.toList.any fun c =>
      c.openLoadFlag && !(c.profile.kind == .telltale && c.profile.source == some .openLoad)

/-- The demand of a channel (R57, R59, R60, R62). -/
def channelDemand (s : State) (ch : Chan) : Nat :=
  if s.mdc.mode ≠ .run then 0
  else
    let p := (s.chd.get ch).profile
    match p.kind with
    | .unused => 0
    | .telltale =>
      match p.source with
      | some src => if sourceLit s src then 1000 else 0
      | none => 0
    | .filament | .led | .motor => lampDemand s ch

/-- A channel is handed a demand. -/
def handDemand (ch : Chan) (d : Nat) (s : State) : State :=
  modifyChannel ch (Channel.takeDemand (s.mdc.mode == .run) d) s

/-- The demand of a channel recomputed; a change is handed to the channel (R56, R61, R63). -/
def refreshDemand (s : State) (ch : Chan) : State :=
  let d := channelDemand s ch
  if d = (s.chd.get ch).demand then s else handDemand ch d s

/-- Every demand recomputed. A channel none of whose sources changed sees nothing. -/
def refreshDemands (s : State) : State := (List.finRange 20).foldl refreshDemand s

/-- Every channel is handed its demand afresh, as at an entry to RUN (R62, R101). -/
def handAllDemands (s : State) : State :=
  (List.finRange 20).foldl (fun s ch => handDemand ch (channelDemand s ch) s) s

/-- The re-resolution of one circuit (R55, R56, R58). -/
def resolveCircuit (s : State) (c : Circ) : State :=
  let s := { s with crs := { s.crs with resolved := put s.crs.resolved c (resolve s c) } }
  refreshDemands (indicate (reformFlashSet s))

/-- Every circuit re-resolved and every channel handed its demand, as at an entry to RUN (R62). -/
def resolveAll (s : State) : State :=
  let s := { s with crs := { s.crs with resolved := tabulate fun c => resolve s c } }
  handAllDemands (indicate (reformFlashSet s))

/-- A set of circuits handed to the resolver, each once (R8, R55). -/
def handOver (touched : Vector Bool 16) (s : State) : State :=
  (List.finRange 16).foldl (fun s c => if touched.get c then resolveCircuit s c else s) s

/-- A step on the claims, with the circuits it changed handed over once, after its last change (R8). -/
def withHandOver (f : State → State) (s : State) : State :=
  let s' := f s
  handOver (touchedCircuits s.clt s'.clt) s'

end Sys2Proof.Machine
end

