-- ==== Sys2Proof/Machine/Modes.lean ====
section
/-! DEFINITION. The operations between the device modes: the beginning and the abandonment of a pass (R120, R126), the
gauges' passage to and from OFF (R148, R149), the crank (R45, R46) and host hold (R47), entry to RUN (R182), leaving RUN
(R62, R101, R126, R149, R187), RESUME (R184), the wake (R188), the sleep entry timer (R187) and the reset (R179). -/

namespace Sys2Proof.Machine

/-! ### Passes -/

/-- A pass is requested (R126). In RUN with no pass running it begins within the same event, by `beginRequested`. -/
def requestPass (s : State) : State := { s with bde := { s.bde with passRequested := true } }

/-- A pass that begins now: the accepted codes as they stand, gate NONE, no chain open, B0 first (R120). -/
def freshPass (s : State) : Pass :=
  { next := 0, codes := mapTbl GroupRec.accepted s.sws.recs, gate := .none, chain := none,
    touched := tabulate fun _ => false }

/-- In RUN with no pass running a requested pass begins and the mark is cleared (R126). -/
def beginRequested (s : State) : State :=
  if s.mdc.mode == .run && s.bde.pass.isNone && s.bde.passRequested then
    { s with bde := { s.bde with pass := some (freshPass s), passRequested := false } }
  else s

/-! ### Gauges -/

/-- A gauge becomes OFF (R148). -/
def Gauge.turnOff (g : Gauge) : Gauge :=
  { g with state := .off, target := 0, filtered := 0, duty := 0, applied := 0, undervolt := false }

/-- A gauge that is OFF becomes ACTIVE from rest; another is left as it is (R148). -/
def Gauge.activate (g : Gauge) : Gauge :=
  if g.state = .off then
    { g with
      state := .active, target := 0, lastGood := 0, filtered := 0, duty := 0, undervolt := false }
  else g

/-- Every gauge made OFF, its deflection handed to the resolver (R148, R150). -/
def gaugesOff (s : State) : State := refreshDemands { s with gau := mapTbl Gauge.turnOff s.gau }

/-- Every OFF gauge made ACTIVE (R148, R150). -/
def gaugesActive (s : State) : State := refreshDemands { s with gau := mapTbl Gauge.activate s.gau }

/-! ### Crank and host hold -/

/-- The hold reasons of a claim taken by the crank hold (R45). -/
def crankReasons : HoldReasons := { budgetTimer := none, crank := true, host := false }

/-- The class of the claim in a slot satisfies `p`. -/
def slotClass (s : State) (i : SlotIx) (p : ClaimClass → Bool) : Bool :=
  match claimAt s i with
  | some c => p c.cls
  | none => false

/-- The walk of the crank hold over the grant order list from its head (R45). -/
def crankWalk (s : State) : State :=
  (s.clt.grantList.filter fun i => slotClass s i ClaimClass.crankHeld).foldl (fun s i => makeHeld i crankReasons s) s

/-- A crank begins, unless one runs (R45). -/
def beginCrank (s : State) : State :=
  if s.sbu.crank = .cranking then s
  else
    setFlag .crank (withHandOver (fun s => crankWalk { s with sbu := { s.sbu with crank := .cranking } }) s)

/-- A crank ends: RECOVERY with a count of 6 (R46). -/
def endCrank (s : State) : State :=
  if s.sbu.crank = .cranking then { s with sbu := { s.sbu with crank := .recovery Config.recoveryCount } } else s

/-- The hold reasons of a HELD claim changed. -/
def Claim.mapReasons (f : HoldReasons → HoldReasons) (c : Claim) : Claim :=
  match c.state with
  | .granted _ => c
  | .held r => { c with state := .held (f r) }

/-- The crank recovery ends: NONE, and CRANK leaves every HELD claim (R46). -/
def endRecovery (s : State) : State :=
  mapClaims (Claim.mapReasons fun r => { r with crank := false }) { s with sbu := { s.sbu with crank := .none } }

/-- The host hold becomes absent, and HOST leaves every claim (R47). -/
def endHostHold (s : State) : State :=
  mapClaims (Claim.mapReasons fun r => { r with host := false }) { s with sbu := { s.sbu with hostHold := none } }

/-! ### Entry to RUN -/

/-- A supply sample of inputs, saturating (R25). -/
def saturate (x : Supply) : Supply :=
  { vbat := min 2000 x.vbat, vgen := min 2000 x.vgen, ibat := clampInt (-800) 800 x.ibat }

/-- The entry sample: the first sample, and the filtered values until the first evaluation (R25, R26). -/
def entrySample (s : State) : State :=
  let x := saturate s.pins.supply
  { s with sbu := { s.sbu with samples := [x], vbatF := x.vbat, vgenF := x.vgen, ibatF := 0 } }

/-- The gauges restart at an entry to RUN: the entry sample of each sender, and ACTIVE when IGN's accepted code is 1
(R138, R149). -/
def restartGauges (s : State) : State :=
  let gau := tabulate fun g : GaugeIx =>
    { s.gau.get g with samples := [(s.pins.senders.get g).toNat] }
  { s with gau := if ignitionOn s then mapTbl Gauge.activate gau else gau }

/-- Entry to RUN (R182), with the supply's entry sample from LOADING and SLEEP alone: the gauges restart, the resolver
re-resolves every circuit and hands out the demands, a crank begins when START's accepted code is 1 (R45), and a
requested pass begins. -/
def enterRun (restartSupply : Bool) (s : State) : State :=
  let s := { s with mdc := { s.mdc with mode := .run } }
  let s := if restartSupply then entrySample s else s
  let s := resolveAll (restartGauges s)
  let s := if acceptedCode s start = some 1 then beginCrank s else s
  beginRequested s

/-- A wake from SLEEP (R188). -/
def wake (s : State) : State := enterRun true (setFlag .wake s)

/-! ### Leaving RUN -/

/-- A running pass is abandoned: the circuits it changed are handed over and the pass-requested mark is set (R126). -/
def abandonPass (s : State) : State :=
  match s.bde.pass with
  | none => s
  | some p => handOver p.touched (requestPass { s with bde := { s.bde with pass := none } })

/-- A channel at the mode's leaving RUN: demand 0; TRIPPED becomes OFF (R101). -/
def Channel.standDown (c : Channel) : Channel :=
  let c := c.takeDemand false 0
  match c.state with
  | .tripped _ => { c with state := .off }
  | .off | .softstart _ | .on _ | .locked _ => c

/-- The mode leaves RUN: a running pass is abandoned, the Flasher stops, every channel is forced OFF or stays LOCKED, and
every gauge becomes OFF with its samples discarded (R62, R70, R101, R126, R149). -/
def leaveRun (m : Mode) (s : State) : State :=
  let s := abandonPass { s with mdc := { s.mdc with mode := m } }
  let s := syncFlasher s
  let s := (List.finRange 20).foldl (fun s ch => modifyChannel ch Channel.standDown s) s
  { s with gau := mapTbl (fun g => { g.turnOff with samples := [] }) s.gau }

/-- The budget at entry to SLEEP (R50). -/
def stopBudget (s : State) : State :=
  let s := endRecovery (endHostHold s)
  { s with sbu := { s.sbu with samples := [], deficitRun := 0, surplusRun := 0 } }

/-! ### RESUME -/

/-- Step 1: every pending entry becomes the entry in force (R66, R184). -/
def applyPending (s : State) : State :=
  let table := tabulate fun c : Circ => (s.crs.pendingEntry.get c).getD (s.crs.inForce.get c)
  { s with crs := { s.crs with inForce := table, pendingEntry := tabulate fun _ => none } }

/-- The slots whose claim's circuit has an empty channel list in force (R184). -/
def strandedSlots (s : State) : List SlotIx :=
  (liveSlots s.clt).filter fun i =>
    match claimAt s i with
    | some c => (s.crs.inForce.get c.circuit).channels.isEmpty
    | none => false

/-- A GRANTED claim's level changed by `f`. -/
def ClaimState.mapLevel (f : Nat → Nat) : ClaimState → ClaimState
  | .granted l => .granted (f l)
  | .held r => .held r

/-- Step 3: a claim's levels brought within a maximum level (R184). -/
def Claim.fitLevels (maxLevel : Nat) (c : Claim) : Claim :=
  match c.mode with
  | .flash =>
    { c with requested := maxLevel, floor := maxLevel, state := c.state.mapLevel fun _ => maxLevel }
  | .steady =>
    let req := min c.requested maxLevel
    { c with requested := req, floor := min c.floor req, state := c.state.mapLevel fun l => min l req }

/-- Step 4: the nominal share taken again by a claim whose share source is CIRCUIT (R52, R184). -/
def Claim.retakeShare (s : State) (c : Claim) : Claim :=
  match c.source with
  | .given => c
  | .circuit => { c with shareFull := nominalShare s (s.crs.inForce.get c.circuit).channels }

/-- RESUME (R184), with the number of claims retired at step 2. -/
def resumeRun (s : State) : State × Nat :=
  let s := applyPending s
  let gone := strandedSlots s
  let s := gone.foldl (fun s i => retire i s) s
  let s := mapClaims (fun c => c.fitLevels (maxLevelOf s c.circuit)) s
  let s := mapClaims (fun c => c.retakeShare s) s
  (enterRun false (requestPass s), gone.length)

/-- A load in flight is abandoned (R186). -/
def abandonLoad (s : State) : State :=
  if s.mdc.op = .load then setFlag .storeFail { s with mdc := { s.mdc with op := .none } } else s

/-! ### Sleep -/

/-- The conditions under which the sleep entry timer runs (R187). -/
def mayDoze (s : State) : Bool :=
  s.mdc.mode == .run && acceptedCode s ign == some 0 && noClaims s.clt && !saving s
    && (match s.lif.link with
        | .working _ => false
        | .idle | .replyReady _ => true)

/-- The sleep entry timer started, kept or stopped as its conditions stand (R187). -/
def settleTimer (s : State) : State :=
  { s with mdc := { s.mdc with
      sleepTimer := if mayDoze s then some (s.mdc.sleepTimer.getD Config.sleepTime) else none } }

/-- A running sleep entry timer set back to its full time (R187). -/
def restartTimer (s : State) : State :=
  { s with mdc := { s.mdc with sleepTimer := s.mdc.sleepTimer.map fun _ => Config.sleepTime } }

/-! ### Reset and the frame of a command -/

/-- A save that ends before it is complete leaves in the store an unknown format, with the image's bytes after it in
address order as far as they were written, a free number of them (R185, log 7). -/
def cutSave (s : State) : State :=
  match s.mdc.op with
  | .save image =>
    let written := (image.drop 2).take (Config.freeWritten s.freeCount).val
    { s with
      store := 0 :: 0 :: (written ++ s.store.drop (2 + written.length))
      freeCount := s.freeCount + 1 }
  | .none | .load => s

/-- Every block at its after-reset values, held in reset; the pins, the image store but for a save cut off, the queue and
the model's own counter are not the part's to change (R179, R185). -/
def resetState (cause : ResetCause) (s : State) : State :=
  let s := cutSave s
  { State.reset with
    mdc := { State.reset.mdc with cause := cause, heldInReset := true }
    pins := s.pins
    store := s.store
    freeCount := s.freeCount
    pending := s.pending }

/-- What a command does: nothing while the part is held in reset (R179), and otherwise its effect, after which the sleep
entry timer stands by its conditions (R187). -/
def act (f : State → State) (s : State) : Host.Outcome State Fault Refusal :=
  .next (if s.mdc.heldInReset then s else settleTimer (f s))

end Sys2Proof.Machine
end

