-- ==== Sys2Proof/Machine/Link.lean ====
section
/-! DEFINITION. The Link Interface: frames (R155–R159), the hand-over of a request to its owner and its answer (R156),
and the requests it carries out itself (R163–R168). -/

namespace Sys2Proof.Machine

/-! ### Frames -/

/-- The link state's code (R170). -/
def Link.code : Link → Nat
  | .idle => 0 | .working _ => 1 | .replyReady _ => 2

/-- The link state byte: the link state in bits 0–1, and bit 7 while the pending set is not empty (R170). -/
def linkByte (s : State) : Byte := byte (s.lif.link.code + if attnLow s then 128 else 0)

/-- A reply frame: reply code, length, fields (R170). -/
def replyFrame (r : Reply) : List Byte := r.code.code :: byte r.fields.length :: r.fields

/-- The bytes shifted out after the link state byte in a fetch frame (R157). -/
def fetchReply : Link → List Byte
  | .idle => [markerEmpty, 0]
  | .working _ => [markerNotYet, 0]
  | .replyReady r => replyFrame r

/-- The first `n` bytes of a run that goes on with zeros. -/
def padZeros (n : Nat) (xs : List Byte) : List Byte := xs.take n ++ List.replicate (n - xs.length) 0

/-- The link state set. -/
def setLinkState (l : Link) (s : State) : State := { s with lif := { s.lif with link := l } }

/-- A fetch frame of `n` bytes (R157). A frame in which no byte is shifted has no effect (R155). -/
def takeFetch (n : Nat) (s : State) : State :=
  if n = 0 then s
  else
    let out := padZeros n (linkByte s :: fetchReply s.lif.link)
    let link := match s.lif.link with
      | .replyReady r => if 2 ≤ n then Link.idle else .replyReady r
      | .idle => .idle
      | .working r => .working r
    { s with lif := { s.lif with link := link, dataOut := out } }

/-- The request a frame holds, unless it is malformed (R156). -/
def parseFrame (bytes : List Byte) : Option Request :=
  match bytes with
  | code :: len :: params =>
    if len.toNat ≤ 30 ∧ params.length = len.toNat then
      (Req.ofCode code).map fun r => { req := r, params := params }
    else none
  | _ => none

/-- A reply with no fields, as a refusal carries (R160). -/
def refuse (c : ReplyCode) : Reply := { code := c, fields := [] }

/-- A request frame taken in the link's present state: dropped with OVERRUN unless the link is IDLE (R158); NOT_READY in
LOADING, BAD_REQUEST when malformed, and otherwise handed to its owner (R156). -/
def dealFrame (bytes : List Byte) (s : State) : State :=
  match s.lif.link with
  | .working _ | .replyReady _ => setFlag .overrun s
  | .idle =>
    if s.mdc.mode = .loading then setLinkState (.replyReady (refuse .notReady)) s
    else match parseFrame bytes with
      | none => setLinkState (.replyReady (refuse .badRequest)) s
      | some r => setLinkState (.working r) s

/-- A request frame at the rise of select (R155, R156, R158, R159): the part shifts out the link state byte and zeros, a
part in SLEEP is woken first, and the sleep entry timer is set back (R187). -/
def takeRequest (bytes : List Byte) (s : State) : State :=
  let out := padZeros bytes.length [linkByte s]
  let s := if s.mdc.mode = .sleep then wake s else s
  let s := restartTimer (dealFrame bytes s)
  { s with lif := { s.lif with dataOut := out } }

/-- A frame: its first byte decides its kind, and one in which no byte is shifted has no effect (R155). -/
def takeFrame (bytes : List Byte) (s : State) : State :=
  match bytes with
  | [] => s
  | b :: _ => if b = 255 then takeFetch bytes.length s else takeRequest bytes s

/-! ### A request and its owner -/

/-- The bytes of the frame that carries a request (R170). -/
def frameOf (r : Req) (params : List Byte) : List Byte := r.code :: byte params.length :: params

/-- The state in which a request stands before its owner: as it is when the request is in work at the link, and
otherwise after the request frame that brings it (log 1). -/
def reach (r : Req) (params : List Byte) (s : State) : State :=
  if s.lif.link = .working { req := r, params := params } then s else takeFrame (frameOf r params) s

/-- Whether a request is in work at the link. -/
def inWork (r : Req) (params : List Byte) (s : State) : Bool := s.lif.link = .working { req := r, params := params }

/-- The owner's answer: the link holds the reply and becomes REPLY_READY (R156). -/
def answer (reply : Reply) (s : State) : State := setLinkState (.replyReady reply) s

/-- A request taken by its owner, which carries it out and answers (R156). -/
def serve (r : Req) (body : List Byte → State → State × Reply) (params : List Byte) (s : State) :
    Host.Outcome State Fault Refusal :=
  act (fun s =>
    let s := reach r params s
    if inWork r params s then
      let (s', reply) := body params s
      answer reply s'
    else s) s

/-- A request refused: no state named by it changes (R160). -/
def refused (c : ReplyCode) (s : State) : State × Reply := (s, refuse c)

/-- A request that only reads: the reply's fields, or BAD_REQUEST when it carries parameters. -/
def readAll (fields : State → List Byte) (params : List Byte) (s : State) : State × Reply :=
  match params with
  | [] => (s, { code := .ok, fields := fields s })
  | _ => refused .badRequest s

/-- OK or, when a value was clamped, CLAMPED (R160). -/
def okOr (clamped : Bool) : ReplyCode := if clamped then .clamped else .ok

/-! ### The frame commands -/

/-- REQUEST_FRAME (R156). -/
def execRequestFrame (bytes : List Byte) (s : State) : Host.Outcome State Fault Refusal := act (takeFrame bytes) s

/-- FETCH_FRAME (R157). -/
def execFetchFrame (count : Nat) (s : State) : Host.Outcome State Fault Refusal := act (takeFetch count) s

/-! ### The status requests -/

/-- STATUS.READ (R163). -/
def execStatusRead (params : List Byte) (s : State) : Host.Outcome State Fault Refusal :=
  serve .statusRead (readAll fun s => flagSetBytes s.lif.status) params s

/-- STATUS.CLEAR's effect (R164). -/
def statusClear (params : List Byte) (s : State) : State × Reply :=
  match params with
  | [b2, b1, b0] =>
    let named := flagSetOf b2 b1 b0
    let left := s.lif.status &&& ~~~named
    ({ s with lif := { s.lif with status := left } },
      { code := .ok, fields := flagSetBytes (s.lif.status &&& named) ++ flagSetBytes left })
  | _ => refused .badRequest s

/-- STATUS.CLEAR (R164). -/
def execStatusClear (params : List Byte) (s : State) : Host.Outcome State Fault Refusal :=
  serve .statusClear statusClear params s

/-- ENABLE.READ (R165). -/
def execEnableRead (params : List Byte) (s : State) : Host.Outcome State Fault Refusal :=
  serve .enableRead (readAll fun s => flagSetBytes s.lif.enable) params s

/-- A change of the enable set by the flags named (R166, R167). -/
def enableChange (f : BitVec 17 → BitVec 17 → BitVec 17) (params : List Byte) (s : State) : State × Reply :=
  match params with
  | [b2, b1, b0] =>
    let enable := f s.lif.enable (flagSetOf b2 b1 b0)
    ({ s with lif := { s.lif with enable := enable } }, { code := .ok, fields := flagSetBytes enable })
  | _ => refused .badRequest s

/-- ENABLE.SET (R166). -/
def execEnableSet (params : List Byte) (s : State) : Host.Outcome State Fault Refusal :=
  serve .enableSet (enableChange fun enable named => enable ||| named) params s

/-- ENABLE.CLEAR (R167). -/
def execEnableClear (params : List Byte) (s : State) : Host.Outcome State Fault Refusal :=
  serve .enableClear (enableChange fun enable named => enable &&& ~~~named) params s

/-- PENDING.READ (R168). -/
def execPendingRead (params : List Byte) (s : State) : Host.Outcome State Fault Refusal :=
  serve .pendingRead (readAll fun s => flagSetBytes (pendingSet s)) params s

end Sys2Proof.Machine
end

