-- ==== Sys2Proof/Machine/Flashing.lean ====
section
/-! DEFINITION. The Flasher's events (R72, R73, R75, R76, R79) and requests (R80, R81). -/

namespace Sys2Proof.Machine

/-! ### The bulb check -/

/-- A channel's open-load flag written (R76, R102). -/
def setOpenLoad (ch : Chan) (b : Bool) (s : State) : State :=
  { s with chd := upd s.chd ch fun c => { c with openLoadFlag := b } }

/-- A verdict acting on its channel: PASS clears the open-load flag; FAIL sets it and sets status OPEN_LOAD (R76). -/
def actVerdict (ch : Chan) (e : CheckEntry) (s : State) : State :=
  match e with
  | .pass => setOpenLoad ch false s
  | .fail => setFlag .openLoad (setOpenLoad ch true s)
  | .pending _ _ | .unjudged => s

/-- The check entry of a channel in a phase. -/
def Phase.check (ch : Chan) : Phase → Option CheckEntry
  | .lit _ _ checks => checks.get ch
  | .dark _ _ | .idle => none

/-- The verdict of the current reading (R75). -/
def readingVerdict (c : Channel) : CheckEntry := if c.profile.openLoad ≤ c.measured then .pass else .fail

/-- BULB_CHECK_READING (R75): the channel's 20 ms in ON are complete while its entry is PENDING. -/
def execBulbCheckReading (ch : Chan) (s : State) : Host.Outcome State Fault Refusal :=
  act (fun s =>
    let c := s.chd.get ch
    match s.fls.phase.check ch with
    | some (.pending _ _) =>
      if c.state.isOn then
        let v := readingVerdict c
        refreshDemands
          (actVerdict ch v { s with fls := { s.fls with phase := s.fls.phase.modifyCheck ch fun _ => v } })
      else s
    | _ => s) s

/-! ### Phase expiries -/

/-- An entry at the end of the LIT phase: PENDING becomes FAIL, or UNJUDGED when it joined during the phase (R75). -/
def CheckEntry.final : CheckEntry → CheckEntry
  | .pending false _ => .fail
  | .pending true _ => .unjudged
  | .pass => .pass
  | .fail => .fail
  | .unjudged => .unjudged

/-- A verdict given at the expiry acts; one given before has acted already (R76). -/
def actFinal (checks : Vector (Option CheckEntry) 20) (s : State) (ch : Chan) : State :=
  match checks.get ch with
  | some (.pending joined t) => actVerdict ch (CheckEntry.pending joined t).final s
  | _ => s

/-- The channels whose entry is FAIL once the bulb check has ended (R72). -/
def failedSet (checks : Vector (Option CheckEntry) 20) : Vector Bool 20 :=
  mapTbl (fun e => e.map CheckEntry.final == some .fail) checks

/-- The expiry of a LIT phase (R72). -/
def endLit (s : State) : State :=
  match s.fls.phase with
  | .lit rate _ checks =>
    let s := (List.finRange 20).foldl (actFinal checks) s
    let failed := failedSet checks
    let fast := failed.toList.any id
    refreshDemands
      { s with fls := { s.fls with
          phase := .dark rate (darkTime rate fast), failed := failed, fast := fast }.pulse }
  | .dark _ _ | .idle => s

/-- LIT_EXPIRY (R72). -/
def execLitExpiry (s : State) : Host.Outcome State Fault Refusal := act endLit s

/-- The expiry of a DARK phase: a new LIT phase at the rate set (R73). -/
def endDark (s : State) : State :=
  match s.fls.phase with
  | .dark _ _ => refreshDemands { s with fls := s.fls.beginLit s.crs.flashSet }
  | .lit _ _ _ | .idle => s

/-- DARK_EXPIRY (R73). -/
def execDarkExpiry (s : State) : Host.Outcome State Fault Refusal := act endDark s

/-- TICK_PULSE_END (R79). -/
def execTickPulseEnd (s : State) : Host.Outcome State Fault Refusal :=
  act (fun s => { s with fls := { s.fls with tickPulse := none } }) s

/-! ### The flasher requests -/

/-- The phase time remaining, or 0 when IDLE (R80). -/
def Phase.remaining : Phase → Nat
  | .lit _ n _ => n
  | .dark _ n => n
  | .idle => 0

/-- The rate in force, or 0 when IDLE (R80). -/
def Phase.rate : Phase → Nat
  | .lit r _ _ => r
  | .dark r _ => r
  | .idle => 0

/-- The channels in the check list of the phase in progress. -/
def Phase.checkSet (p : Phase) : Vector Bool 20 := tabulate fun ch => (p.check ch).isSome

/-- The check entries, two bits a channel, CH0 lowest (R172). -/
def Phase.checkBits (p : Phase) : Nat :=
  (List.finRange 20).foldl (fun n ch => n + ((p.check ch).map CheckEntry.code).getD 0 * 4 ^ ch.val) 0

/-- The seventeen fields of FLASHER.READ (R80, R172). -/
def flasherFields (s : State) : List Byte :=
  let f := s.fls
  let bits := f.phase.checkBits
  [f.phase.code] ++ be16 f.phase.remaining
    ++ [byte f.rateSet, byte f.phase.rate, byte ((if f.fast then 1 else 0) + (if f.ticker then 2 else 0))]
    ++ chanSetBytes f.failed ++ chanSetBytes f.phase.checkSet
    ++ [byte (bits / 4294967296)] ++ be16 (bits / 65536) ++ be16 bits

/-- FLASHER.READ (R80). -/
def execFlasherRead (params : List Byte) (s : State) : Host.Outcome State Fault Refusal :=
  serve .flasherRead (readAll flasherFields) params s

/-- FLASHER.SET's effect (R81). -/
def flasherSet (params : List Byte) (s : State) : State × Reply :=
  if storeBusy s then refused .storeBusy s
  else match judgeFlasher params with
    | .error e => refused e s
    | .ok ((rate, ticker), clamped) =>
      ({ s with fls := { s.fls with rateSet := rate, ticker := ticker } },
        { code := okOr clamped, fields := [byte rate, boolByte ticker, byte s.fls.phase.rate] })

/-- FLASHER.SET (R81). -/
def execFlasherSet (params : List Byte) (s : State) : Host.Outcome State Fault Refusal :=
  serve .flasherSet flasherSet params s

end Sys2Proof.Machine
end

