-- ==== Sys2Proof/Machine/Channels.lean ====
section
/-! DEFINITION. The channels' events (R87–R102) and requests (R106–R109). -/

namespace Sys2Proof.Machine

/-! ### Current samples and trips -/

/-- A sample entered in the history and in the over-threshold run, and the counts of stall and steady open-load detection
that its measured current ends set to 0 (R87, R95, R97, R102). -/
def Channel.record (threshold reading : Nat) (c : Channel) : Channel :=
  let c :=
    { c with
      samples := (reading :: c.samples).take Config.historyLength
      overRun := if threshold < reading then c.overRun + 1 else 0 }
  { c with
    stallTime := if c.measured < c.profile.stall then 0 else c.stallTime
    lowTime := if c.profile.openLoad ≤ c.measured then 0 else c.lowTime
    goodTime := if c.measured < c.profile.openLoad then 0 else c.goodTime }

/-- The output conducts for part of each period: the channel is driven at a duty above 0 (R87). -/
def Channel.conducts (c : Channel) : Bool := c.state.driven && decide (0 < c.applied)

/-- CURRENT_SAMPLE (R87): a sample of a conducting channel is recorded and judged, at or above three times the rating a
hard trip, the fortieth of an over-threshold run an ordinary one (R95, R96). -/
def execCurrentSample (ch : Chan) (reading : Nat) (s : State) : Host.Outcome State Fault Refusal :=
  act (fun s =>
    let c := s.chd.get ch
    if c.conducts then
      let x := min 500 reading
      let s := modifyChannel ch (Channel.record (tripThreshold ch c) x) s
      if 3 * Config.rating ch ≤ x then tripChannel ch .hard s
      else if Config.tripRun ≤ (s.chd.get ch).overRun then tripChannel ch .ordinary s
      else s
    else s) s

/-- Whether stall detection counts on a channel: a MOTOR channel in ON whose stall threshold is above 0 and is reached
by the measured current (R97). -/
def Channel.stalling (c : Channel) : Bool :=
  c.profile.kind == .motor && c.state.isOn && decide (0 < c.profile.stall) && decide (c.profile.stall ≤ c.measured)

/-- STALL_TRIP (R97): the stall time reaches 1000 ms. -/
def execStallTrip (ch : Chan) (s : State) : Host.Outcome State Fault Refusal :=
  act (fun s => if (s.chd.get ch).stalling then tripChannel ch .stall s else s) s

/-! ### Duty -/

/-- The duty a driven channel applies from the end of its PWM period: the target, or for a MOTOR channel the ramp value
where that is below it; a MOTOR channel in SOFTSTART that so reaches its target enters ON (R88, R89, R92). -/
def Channel.endPeriod (c : Channel) : Channel :=
  if c.state.driven then
    match c.profile.kind with
    | .motor =>
      let d := min c.ramp c.target
      let c' := { c with applied := d, ramp := d }
      if !c.state.isOn && d = c.target then c'.enterOn else c'
    | .filament | .led | .telltale | .unused => { c with applied := c.target, ramp := c.target }
  else c

/-- CHANNEL_PERIOD_END (R88). -/
def execChannelPeriodEnd (ch : Chan) (s : State) : Host.Outcome State Fault Refusal :=
  act (modifyChannel ch Channel.endPeriod) s

/-- A step of the ramp: 10 ‰ toward a target above it, entering ON from SOFTSTART when it is reached (R89, R92). -/
def Channel.rampStep (c : Channel) : Channel :=
  if c.profile.kind = .motor ∧ c.state.driven = true ∧ c.ramp < c.target then
    let d := min (c.ramp + 10) c.target
    let c' := { c with ramp := d }
    if !c.state.isOn && d = c.target then c'.enterOn else c'
  else c

/-- MOTOR_RAMP_STEP (R89). -/
def execMotorRampStep (ch : Chan) (s : State) : Host.Outcome State Fault Refusal :=
  act (modifyChannel ch Channel.rampStep) s

/-! ### Times that end -/

/-- The end of an inrush window: a FILAMENT channel in SOFTSTART enters ON (R91). -/
def Channel.endInrush (c : Channel) : Channel :=
  match c.state with
  | .softstart _ => if c.profile.kind = .filament then c.enterOn else c
  | .off | .on _ | .tripped _ | .locked _ => c

/-- INRUSH_WINDOW_END (R91). -/
def execInrushWindowEnd (ch : Chan) (s : State) : Host.Outcome State Fault Refusal :=
  act (modifyChannel ch Channel.endInrush) s

/-- Ten seconds of continuous ON: the trip count is 0 (R93). -/
def Channel.forgive (c : Channel) : Channel :=
  match c.state with
  | .on _ => { c with state := .on Config.forgiveTime, tripCount := 0 }
  | .off | .softstart _ | .tripped _ | .locked _ => c

/-- CONTINUOUS_ON_FORGIVE (R93). -/
def execContinuousOnForgive (ch : Chan) (s : State) : Host.Outcome State Fault Refusal :=
  act (modifyChannel ch Channel.forgive) s

/-- The expiry of a back-off: a start with demand above 0, and OFF with demand 0 (R99). -/
def Channel.endBackOff (run : Bool) (c : Channel) : Channel :=
  match c.state with
  | .tripped _ =>
    let c' := { c with state := .off }
    if run && decide (0 < c.demand) then c'.start else c'
  | .off | .softstart _ | .on _ | .locked _ => c

/-- BACK_OFF_EXPIRY (R99). -/
def execBackOffExpiry (ch : Chan) (s : State) : Host.Outcome State Fault Refusal :=
  act (fun s => modifyChannel ch (Channel.endBackOff (s.mdc.mode == .run)) s) s

/-! ### Steady open load -/

/-- Whether steady open-load detection watches a channel: in RUN, ON at demand 1000 and not in the flash set (R102). -/
def watched (s : State) (ch : Chan) : Bool :=
  let c := s.chd.get ch
  s.mdc.mode == .run && c.state.isOn && c.demand == 1000 && !s.crs.flashSet.get ch

/-- OPEN_LOAD_DETECTED (R102, R103): the low time reaches 500 ms. -/
def execOpenLoadDetected (ch : Chan) (s : State) : Host.Outcome State Fault Refusal :=
  act (fun s =>
    let c := s.chd.get ch
    if watched s ch && decide (c.measured < c.profile.openLoad) then
      let s := { s with chd := put s.chd ch { c with lowTime := Config.openLoadTime, goodTime := 0 } }
      refreshDemands (setFlagIf (!c.openLoadFlag) .openLoad (setOpenLoad ch true s))
    else s) s

/-- OPEN_LOAD_CLEARED (R102, R103): the good time reaches 500 ms. -/
def execOpenLoadCleared (ch : Chan) (s : State) : Host.Outcome State Fault Refusal :=
  act (fun s =>
    let c := s.chd.get ch
    if watched s ch && decide (c.profile.openLoad ≤ c.measured) then
      let s := { s with chd := put s.chd ch { c with goodTime := Config.openLoadTime, lowTime := 0 } }
      refreshDemands (setOpenLoad ch false s)
    else s) s

/-! ### The channel requests -/

/-- A channel index of a request. -/
def chanOf (b : Byte) : Option Chan := if h : b.toNat < 20 then some ⟨b.toNat, h⟩ else none

/-- The back-off remaining, or 0 when absent (R106). -/
def ChanState.backOff : ChanState → Nat
  | .tripped b => b
  | .off | .softstart _ | .on _ | .locked _ => 0

/-- The softstart time, or 0 when absent (R106). -/
def ChanState.softTime : ChanState → Nat
  | .softstart t => t.getD 0
  | .off | .on _ | .tripped _ | .locked _ => 0

/-- The continuous-ON time, or 0 when absent (R106). -/
def ChanState.onTime : ChanState → Nat
  | .on t => t
  | .off | .softstart _ | .tripped _ | .locked _ => 0

/-- The cycle flag, or clear when not LOCKED (R106). -/
def ChanState.cycleFlag : ChanState → Bool
  | .locked b => b
  | .off | .softstart _ | .on _ | .tripped _ => false

/-- The nineteen fields of CHANNEL.READ (R106, R172). -/
def channelFields (s : State) (ch : Chan) : List Byte :=
  let c := s.chd.get ch
  [c.state.code] ++ be16 c.demand ++ be16 c.target ++ be16 c.applied ++ be16 c.measured
    ++ [byte c.tripCount, tripKindCode c.lastTrip] ++ be16 c.state.backOff ++ [byte c.state.softTime]
    ++ be16 c.state.onTime
    ++ [byte ((if c.openLoadFlag then 1 else 0) + (if c.state.cycleFlag then 2 else 0)
        + (if s.crs.flashSet.get ch then 4 else 0))]
    ++ be16 c.lifetime

/-- CHANNEL.READ's effect (R106). An undefined clear code draws BAD_REQUEST before the index is looked at: R106 lists no order
of checks (DESIGN CHOICE, log 36). -/
def channelRead (params : List Byte) (s : State) : State × Reply :=
  match params with
  | [channel, clear] =>
    if 1 < clear.toNat then refused .badRequest s
    else match chanOf channel with
      | none => refused .badIndex s
      | some ch =>
        let s' := if clear = 1 then { s with chd := upd s.chd ch fun c => { c with lifetime := 0 } } else s
        (s', { code := .ok, fields := channelFields s ch })
  | _ => refused .badRequest s

/-- CHANNEL.READ (R106). -/
def execChannelRead (params : List Byte) (s : State) : Host.Outcome State Fault Refusal :=
  serve .channelRead channelRead params s

/-- A channel restored: its trip count is 0, and a LOCKED one becomes OFF and, in RUN with demand above 0, starts
(R107). -/
def Channel.restore (run : Bool) (c : Channel) : Channel :=
  let c' := { c with tripCount := 0 }
  match c.state with
  | .locked _ =>
    let c' := { c' with state := .off }
    if run && decide (0 < c.demand) then c'.start else c'
  | .off | .softstart _ | .on _ | .tripped _ => c'

/-- CHANNEL.RESTORE's effect (R107). -/
def channelRestore (params : List Byte) (s : State) : State × Reply :=
  match params with
  | [channel] =>
    match chanOf channel with
    | none => refused .badIndex s
    | some ch =>
      let s' := modifyChannel ch (Channel.restore (s.mdc.mode == .run)) s
      (s', { code := .ok, fields := [(s'.chd.get ch).state.code] })
  | _ => refused .badRequest s

/-- CHANNEL.RESTORE (R107). -/
def execChannelRestore (params : List Byte) (s : State) : Host.Outcome State Fault Refusal :=
  serve .channelRestore channelRestore params s

/-- PROFILE.READ's effect (R108). -/
def profileRead (params : List Byte) (s : State) : State × Reply :=
  match params with
  | [channel] =>
    match chanOf channel with
    | none => refused .badIndex s
    | some ch =>
      (s, { code := .ok, fields := byte (Config.rating ch) :: profileBytes (s.chd.get ch).profile })
  | _ => refused .badRequest s

/-- PROFILE.READ (R108). -/
def execProfileRead (params : List Byte) (s : State) : Host.Outcome State Fault Refusal :=
  serve .profileRead profileRead params s

/-- A new profile acting on its channel: the open-load flag is cleared and the rest of the record kept (R110). -/
def Channel.takeProfile (p : Profile) (c : Channel) : Channel := { c with profile := p, openLoadFlag := false }

/-- PROFILE.WRITE's effect (R109). -/
def profileWrite (params : List Byte) (s : State) : State × Reply :=
  if s.mdc.mode ≠ .quiesced then refused .wrongMode s
  else if storeBusy s then refused .storeBusy s
  else match params with
    | channel :: bytes =>
      if bytes.length ≠ 12 then refused .badRequest s
      else match chanOf channel with
        | none => refused .badIndex s
        | some ch =>
          match judgeProfile ch bytes with
          | .error e => refused e s
          | .ok (p, clamped) =>
            ({ s with chd := upd s.chd ch (Channel.takeProfile p) },
              { code := okOr clamped, fields := profileBytes p })
    | [] => refused .badRequest s

/-- PROFILE.WRITE (R109). -/
def execProfileWrite (params : List Byte) (s : State) : Host.Outcome State Fault Refusal :=
  serve .profileWrite profileWrite params s

end Sys2Proof.Machine
end

