-- ==== Sys2Proof/Machine/Switches.lean ====
section
/-! DEFINITION. The Switch Scanner: the scan and the acceptance (R111–R116), and the group requests (R128, R129). -/

namespace Sys2Proof.Machine

/-! ### Codes -/

/-- The fixed definitions of IGN and START: their own inputs, at bits 24 and 25 of the levels, width 1, ACTIVE_HIGH,
debounce count 4 (R112). -/
def fixedGroup (g : GroupIx) : GroupDef :=
  { first := if g = ign then 24 else 25, width := 1, polarity := .activeHigh, debounce := 4 }

/-- The definition a group is read under (R112). -/
def groupDef (s : State) (g : GroupIx) : GroupDef :=
  if h : g.val < 16 then s.sws.defs.get ⟨g.val, h⟩ else fixedGroup g

/-- Whether an input is active under a polarity (R112). -/
def activeInput (p : Polarity) (level : Bool) : Bool :=
  match p with
  | .activeLow => !level
  | .activeHigh => level

/-- The raw code of a group at given levels: its inputs from bit 0 up (R112). -/
def rawCode (d : GroupDef) (levels : BitVec 26) : BitVec 4 :=
  BitVec.ofNat 4
    ((List.range d.width).map fun i => if activeInput d.polarity (levels.getLsbD (d.first + i)) then 2 ^ i else 0).sum

/-! ### The record -/

/-- A group's record brought up to date from a raw code, with whether it accepts (R114). -/
def GroupRec.scan (debounce : Nat) (raw : BitVec 4) (r : GroupRec) : GroupRec × Bool :=
  let r := { r with raw := some raw }
  if r.accepted = some raw then ({ r with candidate := none, run := 0 }, false)
  else
    let run := if r.candidate = some raw then r.run + 1 else 1
    if debounce ≤ run then ({ r with accepted := some raw, candidate := none, run := 0 }, true)
    else ({ r with candidate := some raw, run := run }, false)

/-- The records after a scan of given levels, each with whether its group accepts. -/
def scanRecs (s : State) (levels : BitVec 26) : Vector (GroupRec × Bool) 18 :=
  tabulate fun g =>
    let d := groupDef s g
    (s.sws.recs.get g).scan d.debounce (rawCode d levels)

/-! ### Acceptances -/

/-- What an acceptance of IGN brings, the mode's change aside: the CHARGE tell-tales recomputed, the gauges made ACTIVE
at 1 in RUN and OFF at 0 (R61, R148). -/
def acceptIgnition (s : State) : State :=
  if ignitionOn s then
    if s.mdc.mode = .run then gaugesActive s else refreshDemands s
  else gaugesOff s

/-- What an acceptance of START brings: a crank begun at 1 in RUN, and ended at 0 (R45, R46). -/
def acceptStart (s : State) : State :=
  if acceptedCode s start = some 1 then if s.mdc.mode = .run then beginCrank s else s
  else endCrank s

/-- An acceptance handed to its readers, the Binding Engine aside: it sets the sleep entry timer back, wakes a part in
SLEEP, forces RESUME at IGN = 1 in QUIESCED after abandoning a load, and reaches the readers of IGN and START (R115,
R184, R186, R187, R188). -/
def handAcceptance (s : State) (g : GroupIx) : State :=
  let s := restartTimer s
  let s := if s.mdc.mode = .sleep then wake s else s
  let s :=
    if g = ign ∧ ignitionOn s = true ∧ s.mdc.mode = .quiesced then (resumeRun (abandonLoad s)).1 else s
  if g = ign then acceptIgnition s
  else if g = start then acceptStart s
  else s

/-- A scan (R111, R114, R115): every record is brought up to date; the acceptances request a pass, which judges every
code of the scan; then each acceptance is handed on, in group order (log 11). -/
def scanInputs (levels : BitVec 26) (s : State) : State :=
  let recs := scanRecs s levels
  let accepting := (List.finRange 18).filter fun g => (recs.get g).2
  let s := { s with sws := { s.sws with recs := mapTbl Prod.fst recs, levels := levels } }
  let s := if accepting.isEmpty then s else requestPass s
  beginRequested (accepting.foldl handAcceptance s)

/-- SWITCH_SCAN (R114): the inputs show these levels; outside LOADING a scan reads them. -/
def execSwitchScan (levels : BitVec 26) (s : State) : Host.Outcome State Fault Refusal :=
  act (fun s =>
    let s := { s with pins := { s.pins with levels := levels } }
    if s.mdc.mode = .loading then s else scanInputs levels s) s

/-! ### The group requests -/

/-- A group's definition as GROUP.READ returns it. The manual gives IGN and START no input number, so their first byte
is a free value (log 10). -/
def groupDefBytes (s : State) (g : GroupIx) : List Byte :=
  if g.val < 16 then groupBytes (groupDef s g)
  else Config.fixedFirstInput g :: (groupBytes (groupDef s g)).tail

/-- The levels in four bytes: SW0–SW23 at bits 0–23, IGN and START at bits 24 and 25 (R172). -/
def levelBytes (levels : BitVec 26) : List Byte := be16 (levels.toNat / 65536) ++ be16 levels.toNat

/-- The twelve fields of GROUP.READ (R128, R172). -/
def groupFields (s : State) (g : GroupIx) : List Byte :=
  let r := s.sws.recs.get g
  groupDefBytes s g ++ [groupCodeByte r.accepted, groupCodeByte r.raw, groupCodeByte r.candidate, byte r.run]
    ++ levelBytes s.sws.levels

/-- GROUP.READ's effect (R128). -/
def groupRead (params : List Byte) (s : State) : State × Reply :=
  match params with
  | [group] =>
    if h : group.toNat < 18 then (s, { code := .ok, fields := groupFields s ⟨group.toNat, h⟩ })
    else refused .badIndex s
  | _ => refused .badRequest s

/-- GROUP.READ (R128). -/
def execGroupRead (params : List Byte) (s : State) : Host.Outcome State Fault Refusal :=
  serve .groupRead groupRead params s

/-- A group's definition replaced and its record set as after reset (R130). -/
def defineGroup (g : Fin 16) (d : GroupDef) (s : State) : State :=
  { s with sws := { s.sws with
      defs := put s.sws.defs g d, recs := put s.sws.recs (g.castLE (by decide)) resetGroupRec } }

/-- GROUP.WRITE's effect (R129, R130). -/
def groupWrite (params : List Byte) (s : State) : State × Reply :=
  if s.mdc.mode ≠ .quiesced then refused .wrongMode s
  else if storeBusy s then refused .storeBusy s
  else match params with
    | group :: bytes =>
      if bytes.length ≠ 4 then refused .badRequest s
      else if h : group.toNat < 16 then
        match judgeGroup bytes with
        | .error e => refused e s
        | .ok (d, clamped) =>
          (defineGroup ⟨group.toNat, h⟩ d s, { code := okOr clamped, fields := groupBytes d })
      else refused .badIndex s
    | [] => refused .badRequest s

/-- GROUP.WRITE (R129). -/
def execGroupWrite (params : List Byte) (s : State) : Host.Outcome State Fault Refusal :=
  serve .groupWrite groupWrite params s

end Sys2Proof.Machine
end

