-- ==== Sys2Proof/Machine/Device.lean ====
section
/-! DEFINITION. Mode Control: DEVICE.READ (R189), QUIESCE and RESUME (R183, R184), the image store (R180, R185, R186),
sleep entry (R187), the reset and its end (R179). -/

namespace Sys2Proof.Machine

/-! ### Requests -/

/-- The four fields of DEVICE.READ (R189, R172). -/
def deviceFields (s : State) : List Byte :=
  [s.mdc.mode.code, ResetCause.toByte s.mdc.cause, s.mdc.source.code, byte Config.revision]

/-- DEVICE.READ (R189). -/
def execDeviceRead (params : List Byte) (s : State) : Host.Outcome State Fault Refusal :=
  serve .deviceRead (readAll deviceFields) params s

/-- QUIESCE's effect (R183). Parameters while IGN is accepted at 1 draw BAD_REQUEST: neither R160 nor R183 orders that
check against IGNITION_ON (DESIGN CHOICE, log 35). -/
def quiesce (params : List Byte) (s : State) : State × Reply :=
  if s.mdc.mode ≠ .run then refused .wrongMode s
  else if saving s then refused .storeBusy s
  else if params ≠ [] then refused .badRequest s
  else if ignitionOn s then refused .ignitionOn s
  else (leaveRun .quiesced s, { code := .ok, fields := [Mode.code .quiesced] })

/-- QUIESCE (R183). -/
def execQuiesce (params : List Byte) (s : State) : Host.Outcome State Fault Refusal :=
  serve .quiesce quiesce params s

/-- RESUME's effect by request (R184). -/
def resume (params : List Byte) (s : State) : State × Reply :=
  if s.mdc.mode ≠ .quiesced then refused .wrongMode s
  else if s.mdc.op = .load then refused .storeBusy s
  else if params ≠ [] then refused .badRequest s
  else ((resumeRun s).1, { code := .ok, fields := [Mode.code .run, byte (resumeRun s).2] })

/-- RESUME (R184). -/
def execResume (params : List Byte) (s : State) : Host.Outcome State Fault Refusal :=
  serve .resume resume params s

/-! ### The configuration -/

/-- The configuration as it stands, a circuit's pending entry before its entry in force (R66, R185). -/
def currentConfiguration (s : State) : Configuration :=
  { profiles := mapTbl Channel.profile s.chd
    circuits := tabulate fun c => (s.crs.pendingEntry.get c).getD (s.crs.inForce.get c)
    groups := s.sws.defs
    bindings := s.bde.entries
    gauges := mapTbl Gauge.settings s.gau
    rate := s.fls.rateSet
    ticker := s.fls.ticker }

/-- The records of an image that LOADING and STORE.LOAD take alike: profiles, groups with their records as after reset,
bindings with no link, result or verdict, gauge settings and flasher settings (R82, R110, R135, R154). -/
def takeConfiguration (c : Configuration) (s : State) : State :=
  { s with
    chd := tabulate fun ch => (s.chd.get ch).takeProfile (c.profiles.get ch)
    sws := { s.sws with
      defs := c.groups
      recs := tabulate fun g => if g.val < 16 then resetGroupRec else s.sws.recs.get g }
    bde := { s.bde with entries := c.bindings, recs := tabulate fun _ => resetBindRec }
    gau := tabulate fun g => { s.gau.get g with settings := c.gauges.get g }
    fls := { s.fls with rateSet := c.rate, ticker := c.ticker } }

/-! ### The image store -/

/-- STORE.SAVE's effect (R185): the image is formed at once and the format number in the store becomes 0. -/
def storeSave (params : List Byte) (s : State) : State × Reply :=
  if storeBusy s then refused .storeBusy s
  else if params ≠ [] then refused .badRequest s
  else
    ({ s with
        mdc := { s.mdc with op := .save (formImage (currentConfiguration s)) }
        store := 0 :: 0 :: s.store.drop 2 }, { code := .accepted, fields := [] })

/-- STORE.SAVE (R185). -/
def execStoreSave (params : List Byte) (s : State) : Host.Outcome State Fault Refusal :=
  serve .storeSave storeSave params s

/-- STORE.LOAD's effect (R186). -/
def storeLoad (params : List Byte) (s : State) : State × Reply :=
  if s.mdc.mode ≠ .quiesced then refused .wrongMode s
  else if storeBusy s then refused .storeBusy s
  else if params ≠ [] then refused .badRequest s
  else ({ s with mdc := { s.mdc with op := .load } }, { code := .accepted, fields := [] })

/-- STORE.LOAD (R186). -/
def execStoreLoad (params : List Byte) (s : State) : Host.Outcome State Fault Refusal :=
  serve .storeLoad storeLoad params s

/-- The image operation ends with a status flag (R185, R186). -/
def endOperation (f : Flag) (s : State) : State := setFlag f { s with mdc := { s.mdc with op := .none } }

/-- STORE_SAVE_COMPLETE (R185): the image stands in the store, its format number written last. -/
def execStoreSaveComplete (s : State) : Host.Outcome State Fault Refusal :=
  act (fun s =>
    match s.mdc.op with
    | .save image => endOperation .storeDone { s with store := image ++ s.store.drop image.length }
    | .none | .load => s) s

/-- STORE_SAVE_FAIL (R185): the store is left with an unknown format. -/
def execStoreSaveFail (s : State) : Host.Outcome State Fault Refusal :=
  act (fun s => if saving s then endOperation .storeFail (cutSave s) else s) s

/-- What a read of the image store leaves in it, and the configuration that it finds, if the image is valid (R180). -/
def readStore (read : StoreRead) (s : State) : List Byte × Option Configuration :=
  match read with
  | .noAck => (s.store, none)
  | .held => (s.store, readImage s.store)
  | .given bytes => (bytes, readImage bytes)

/-- The live slots whose claims are of BINDING origin. -/
def bindingSlots (s : State) : List SlotIx :=
  (liveSlots s.clt).filter fun i =>
    match claimAt s i with
    | some c => c.origin != .link
    | none => false

/-- A valid image taken by a load (R66, R82, R110, R135, R154, R186): every binding claim is retired, the circuit
section becomes the pending entry of every circuit, the rest is replaced, and a pass is requested. The claims are
retired and their circuits handed over before the profiles are replaced: R186 gives no order (DESIGN CHOICE, log 37). -/
def loadImage (c : Configuration) (s : State) : State :=
  let s := withHandOver (fun s => (bindingSlots s).foldl (fun s i => retire i s) s) s
  let s := requestPass (takeConfiguration c s)
  let s := { s with crs := { s.crs with pendingEntry := mapTbl some c.circuits } }
  endOperation .storeDone { s with mdc := { s.mdc with source := .stored } }

/-- STORE_LOAD_COMPLETE (R186). -/
def execStoreLoadComplete (read : StoreRead) (s : State) : Host.Outcome State Fault Refusal :=
  act (fun s =>
    if s.mdc.op = .load then
      let (store, found) := readStore read s
      let s := { s with store := store }
      match found with
      | some c => beginRequested (loadImage c s)
      | none => endOperation .storeFail s
    else s) s

/-! ### Loading -/

/-- The configuration that LOADING takes: a valid image's, or the built-in default's with LOAD_DEFAULT (R180). -/
def loadConfiguration (found : Option Configuration) (s : State) : State :=
  let c := found.getD defaultConfiguration
  let s := takeConfiguration c s
  let s := { s with
    crs := { s.crs with inForce := c.circuits }
    mdc := { s.mdc with source := if found.isSome then .stored else .builtIn } }
  setFlagIf found.isNone .loadDefault s

/-- LOADING_COMPLETE (R180, R182): the configuration comes into force, the part enters RUN, and the first scan is made at
that moment (R111). -/
def execLoadingComplete (read : StoreRead) (s : State) : Host.Outcome State Fault Refusal :=
  act (fun s =>
    if s.mdc.mode = .loading then
      let (store, found) := readStore read s
      let s := enterRun true (loadConfiguration found { s with store := store })
      scanInputs s.pins.levels s
    else s) s

/-! ### Sleep and reset -/

/-- The link at entry to SLEEP: any reply waiting is discarded (R159). -/
def dropReply (s : State) : State := setLinkState .idle s

/-- SLEEP_ENTRY (R187): the timer runs out; the channels, the budget and the link take the change of mode. -/
def execSleepEntry (s : State) : Host.Outcome State Fault Refusal :=
  act (fun s =>
    if mayDoze s && s.mdc.sleepTimer.isSome then dropReply (stopBudget (leaveRun .sleep s)) else s) s

/-- RESET (R179): a cause that arrives while the part is held changes nothing. -/
def execReset (cause : ResetCause) (s : State) : Host.Outcome State Fault Refusal :=
  .next (if s.mdc.heldInReset then s else resetState cause s)

/-- LEAVE_RESET (R179): both conditions have ended, and LOADING begins. -/
def execLeaveReset (s : State) : Host.Outcome State Fault Refusal :=
  .next (if s.mdc.heldInReset then { s with mdc := { s.mdc with heldInReset := false } } else s)

end Sys2Proof.Machine
end

