-- ==== Sys2Proof/Machine/Clock.lean ====
section
/-! DEFINITION. The tick: one millisecond in which no command is given (log 4). The times that a record shows run; the
event at a time's end is a command of the table and never falls at a tick, so a time stands at its last value until
that command. -/

namespace Sys2Proof.Machine

/-- A time remaining, one millisecond later: it stands at 1 until the command of its end. -/
def runDown (n : Nat) : Nat := if n ≤ 1 then n else n - 1

/-- A time elapsed, one millisecond later: it stands at `limit` until the command of its end. -/
def runUp (limit n : Nat) : Nat := if n < limit then n + 1 else n

/-- A PENDING entry's time in ON toward 20 ms, while its channel is in ON (R75). -/
def CheckEntry.tick (on : Bool) : CheckEntry → CheckEntry
  | .pending joined t => .pending joined (if on then runUp Config.bulbTime t else t)
  | .pass => .pass
  | .fail => .fail
  | .unjudged => .unjudged

/-- The phase time remaining and the PENDING entries (R68, R75). -/
def Phase.tick (on : Vector Bool 20) : Phase → Phase
  | .lit rate n checks =>
    .lit rate (runDown n) (tabulate fun ch => (checks.get ch).map (CheckEntry.tick (on.get ch)))
  | .dark rate n => .dark rate (runDown n)
  | .idle => .idle

/-- The softstart time of a FILAMENT channel, the continuous-ON time and the back-off remaining (R86). -/
def ChanState.tick (inrush : Nat) : ChanState → ChanState
  | .softstart t => .softstart (t.map (runUp inrush))
  | .on t => .on (runUp Config.forgiveTime t)
  | .tripped n => .tripped (runDown n)
  | .off => .off
  | .locked cycle => .locked cycle

/-- A channel's times: those of its state, the stall time while it stalls (R97), and the low and good times while steady
open-load detection watches it (R102). -/
def Channel.tick (watching : Bool) (c : Channel) : Channel :=
  { c with
    state := c.state.tick c.profile.inrush
    stallTime := if c.stalling then runUp Config.stallLimit c.stallTime else c.stallTime
    lowTime := if watching && decide (c.measured < c.profile.openLoad) then runUp Config.openLoadTime c.lowTime
      else c.lowTime
    goodTime := if watching && decide (c.profile.openLoad ≤ c.measured) then runUp Config.openLoadTime c.goodTime
      else c.goodTime }

/-- One millisecond without a command; nothing runs while the part is held in reset. -/
def tick (s : State) : State :=
  if s.mdc.heldInReset then s
  else
    { s with
      fls := { s.fls with
        phase := s.fls.phase.tick (mapTbl (fun c => c.state.isOn) s.chd), tickPulse := s.fls.tickPulse.map runDown }
      chd := tabulate fun ch => (s.chd.get ch).tick (watched s ch)
      mdc := { s.mdc with sleepTimer := s.mdc.sleepTimer.map runDown } }

end Sys2Proof.Machine
end

