-- ==== Sys2Proof/Machine/Bindings.lean ====
section
/-! DEFINITION. The Binding Engine: the pass with its steps (R118–R127), and the binding requests (R131–R133). -/

namespace Sys2Proof.Machine

/-! ### Tests -/

/-- Whether a test passes on the codes a pass judges; UNKNOWN fails every test (R118). -/
def Test.passes (codes : Vector (Option (BitVec 4)) 18) (t : Test) : Bool :=
  match codes.get t.group with
  | none => false
  | some code =>
    let m := code &&& t.mask
    match t.op with
    | .eq => m == t.value
    | .ne => m != t.value
    | .any => m != 0
    | .none => m == 0

/-! ### Reconcile -/

/-- A raise for a binding (R10): no claim on a circuit with an empty channel list, WANTING with TABLE_FULL when no slot
is free, and otherwise a claim whose handle becomes the binding's claim link (R119, R124). The empty list is looked at
before the slots: no rule gives the order of the two (DESIGN CHOICE, log 39). -/
def bindingRaise (b : BindIx) (a : Action) (s : State) : State :=
  if (s.crs.inForce.get a.circuit).channels.isEmpty then setLink b .none s
  else match freeSlot s.clt with
    | none => setFlag .tableFull (setLink b .wanting s)
    | some i =>
      let h := handleAt s i
      setLink b (.claim h)
        (raiseInto i
          { origin := .binding b, circuit := a.circuit, mode := a.mode, cls := a.cls, level := a.level
            floor := a.floor, share := a.share, expiry := 0 } s)

/-- The binding's claim brought into agreement with the chain's verdict (R123, R124). -/
def reconcile (b : BindIx) (a : Action) (matched : Bool) (s : State) : State :=
  match (s.bde.recs.get b).link, matched with
  | .none, true => bindingRaise b a s
  | .wanting, true => bindingRaise b a s
  | .claim h, true => modifyClaim h.slot (fun c => { c with expiry := none }) s
  | .claim h, false =>
    if a.offDelay = 0 then retire h.slot s
    else modifyClaim h.slot (fun c => if c.expiry.isNone then { c with expiry := some a.offDelay } else c) s
  | .wanting, false => setLink b .none s
  | .none, false => s

/-! ### Steps -/

/-- A test result recorded (R119). -/
def recordResult (b : BindIx) (passed : Bool) (s : State) : State :=
  { s with bde := { s.bde with recs := upd s.bde.recs b fun r => { r with result := some passed } } }

/-- A verdict recorded (R119). -/
def recordVerdict (b : BindIx) (matched : Bool) (s : State) : State :=
  { s with bde := { s.bde with recs := upd s.bde.recs b fun r => { r with verdict := some matched } } }

/-- The binding `b` taken by a running pass: the test judged and recorded, the gate and the chain advanced, and the
binding's claim reconciled at an action binding that carries an action (R120–R122). -/
def takeBinding (p : Pass) (b : BindIx) (s : State) : Pass × State :=
  match s.bde.entries.get b with
  | .unused => (p, s)
  | .gateEnd => ({ p with gate := .none, chain := none }, s)
  | .gate t =>
    let passed := t.passes p.codes
    ({ p with gate := if passed then .opened else .closed, chain := none }, recordResult b passed s)
  | .test t chained action =>
    let passed := t.passes p.codes
    let s := recordResult b passed s
    let all := p.chain.getD true && passed
    if chained then ({ p with chain := some all }, s)
    else
      let matched := all && p.gate != .closed
      let s := recordVerdict b matched s
      ({ p with chain := none }, match action with
        | some a => reconcile b a matched s
        | none => s)

/-- A pass with a further set of circuits it has changed. -/
def Pass.touch (p : Pass) (t : Vector Bool 16) : Pass :=
  { p with touched := tabulate fun c => p.touched.get c || t.get c }

/-! ### BIND.WRITE -/

/-- The fourteen bytes' effect on a binding: its claim retired, its WANTING mark removed, its entry replaced with test
result and verdict none, and a pass requested, which begins at once in RUN with no pass running (R133). -/
def replaceBinding (b : BindIx) (e : BindEntry) (s : State) : State :=
  let s := match (s.bde.recs.get b).link with
    | .claim h => withHandOver (retire h.slot) s
    | .wanting | .none => s
  beginRequested
    (requestPass
      { s with bde := { s.bde with entries := put s.bde.entries b e, recs := put s.bde.recs b resetBindRec } })

/-- The handle a claim link holds, as a reply field: 65535 for none (R172). -/
def retiredHandle : BindLink → Nat
  | .claim h => h.toNat
  | .wanting | .none => 65535

/-- BIND.WRITE's effect, between passes (R132, R133). -/
def bindWrite (params : List Byte) (s : State) : State × Reply :=
  if storeBusy s then refused .storeBusy s
  else match params with
    | binding :: bytes =>
      if bytes.length ≠ 14 then refused .badRequest s
      else if h : binding.toNat < 64 then
        let b : BindIx := ⟨binding.toNat, h⟩
        match judgeBind bytes with
        | .error e => refused e s
        | .ok (e, clamped) =>
          (replaceBinding b e s,
            { code := okOr clamped, fields := bindBytes e ++ be16 (retiredHandle (s.bde.recs.get b).link) })
      else refused .badIndex s
    | [] => refused .badRequest s

/-- A BIND.WRITE that waits is carried out, and its reply held, now that no pass runs (R127). -/
def serveWaiting (s : State) : State :=
  match s.bde.waiting with
  | none => s
  | some params =>
    let s := { s with bde := { s.bde with waiting := none } }
    if inWork .bindWrite params s then
      let (s', reply) := bindWrite params s
      answer reply s'
    else s

/-- BIND_WRITE (R132): the write is carried out between passes, and one that arrives while a pass runs waits until that
pass ends, the link WORKING meanwhile (R127). -/
def execBindWrite (params : List Byte) (s : State) : Host.Outcome State Fault Refusal :=
  act (fun s =>
    let s := reach .bindWrite params s
    if inWork .bindWrite params s then
      if s.bde.pass.isSome then { s with bde := { s.bde with waiting := some params } }
      else
        let (s', reply) := bindWrite params s
        answer reply s'
    else s) s

/-! ### PASS_STEP -/

/-- The end of a pass after B63: the circuits it changed are handed over once, a waiting BIND.WRITE is carried out, and
a requested pass begins (R125, R126, R127). -/
def endPass (p : Pass) (s : State) : State :=
  beginRequested (serveWaiting (handOver p.touched { s with bde := { s.bde with pass := none } }))

/-- One step of a running pass (R120). -/
def passStep (s : State) : State :=
  match s.bde.pass with
  | none => s
  | some p =>
    let (p', s') := takeBinding p p.next s
    let p' := p'.touch (touchedCircuits s.clt s'.clt)
    if h : p.next.val + 1 < 64 then
      { s' with bde := { s'.bde with pass := some { p' with next := ⟨p.next.val + 1, h⟩ } } }
    else endPass p' s'

/-- PASS_STEP (R120). A pass runs in RUN alone (R126). -/
def execPassStep (s : State) : Host.Outcome State Fault Refusal :=
  act (fun s => if s.mdc.mode = .run then passStep s else s) s

/-! ### BIND.READ -/

/-- A claim link as a reply field: a handle, 65534 for WANTING or 65535 for none (R172). -/
def linkField : BindLink → Nat
  | .claim h => h.toNat
  | .wanting => 65534
  | .none => 65535

/-- The eighteen fields of BIND.READ (R131, R172). -/
def bindFields (s : State) (b : BindIx) : List Byte :=
  let r := s.bde.recs.get b
  bindBytes (s.bde.entries.get b) ++ be16 (linkField r.link) ++ [resultCode r.result, resultCode r.verdict]

/-- BIND.READ's effect (R131). -/
def bindRead (params : List Byte) (s : State) : State × Reply :=
  match params with
  | [binding] =>
    if h : binding.toNat < 64 then (s, { code := .ok, fields := bindFields s ⟨binding.toNat, h⟩ })
    else refused .badIndex s
  | _ => refused .badRequest s

/-- BIND.READ (R131). -/
def execBindRead (params : List Byte) (s : State) : Host.Outcome State Fault Refusal :=
  serve .bindRead bindRead params s

end Sys2Proof.Machine
end

