-- ==== Sys2Proof/Machine/Circuits.lean ====
section
/-! DEFINITION. The circuit requests (R64, R65). -/

namespace Sys2Proof.Machine

/-- A channel list with its count: five bytes, unused positions 0. -/
def listBytes (channels : List Chan) : List Byte :=
  byte channels.length :: fourPositions (channels.map fun c => byte c.val)

/-- The slots with live claims on a circuit. -/
def slotsOn (s : State) (c : Circ) : List SlotIx :=
  (liveSlots s.clt).filter fun i =>
    match claimAt s i with
    | some cl => cl.circuit = c
    | none => false

/-- The 28 fields of CIRCUIT.READ with view IN_FORCE (R64, R172). Handle positions beyond the live claims read 0: neither
rule gives their value (DESIGN CHOICE, log 38). -/
def inForceFields (s : State) (c : Circ) : List Byte :=
  let e := s.crs.inForce.get c
  let r := s.crs.resolved.get c
  let slots := slotsOn s c
  let handles := (slots.take 8).flatMap fun i => be16 (handleAt s i).toNat
  listBytes e.channels ++ [byte e.maxLevel, byte (nominalShare s e.channels), r.code] ++ be16 r.demand
    ++ [boolByte (s.crs.pendingEntry.get c).isSome, byte slots.length] ++ padZeros 16 handles

/-- The eight fields of CIRCUIT.READ with view PENDING (R64, R172). -/
def pendingFields (s : State) (c : Circ) : List Byte :=
  let p := s.crs.pendingEntry.get c
  let e := p.getD (s.crs.inForce.get c)
  listBytes e.channels ++ [byte e.maxLevel, byte (nominalShare s e.channels), boolByte p.isSome]

/-- CIRCUIT.READ's effect (R64). An undefined view code draws BAD_REQUEST before the index is looked at: R64 lists no order
of checks (DESIGN CHOICE, log 36). -/
def circuitRead (params : List Byte) (s : State) : State × Reply :=
  match params with
  | [circuit, view] =>
    if 1 < view.toNat then refused .badRequest s
    else if h : circuit.toNat < 16 then
      let c : Circ := ⟨circuit.toNat, h⟩
      (s, { code := .ok, fields := if view = 0 then inForceFields s c else pendingFields s c })
    else refused .badIndex s
  | _ => refused .badRequest s

/-- CIRCUIT.READ (R64). -/
def execCircuitRead (params : List Byte) (s : State) : Host.Outcome State Fault Refusal :=
  serve .circuitRead circuitRead params s

/-- CIRCUIT.WRITE's effect (R65). A channel count above 4 is refused at the list check, whatever the length; with a count
of 0–4 the length is 3 + the count (R172). Step 3 of R65 then looks at the first bytes carried, up to the count: which
bytes are the list when their number differs from a count above 4 is not stated (DESIGN CHOICE, log 40). -/
def circuitWrite (params : List Byte) (s : State) : State × Reply :=
  if s.mdc.mode ≠ .quiesced then refused .wrongMode s
  else if storeBusy s then refused .storeBusy s
  else match params with
    | circuit :: maxLevel :: count :: channels =>
      if count.toNat ≤ 4 ∧ channels.length ≠ count.toNat then refused .badRequest s
      else if h : circuit.toNat < 16 then
        match judgeCircuit (channels.take count.toNat) maxLevel with
        | .error .badIndex => refused .badIndex s
        | .error e => refused e s
        | .ok (e, clamped) =>
          if 4 < count.toNat then refused .badTable s
          else
            let c : Circ := ⟨circuit.toNat, h⟩
            ({ s with crs := { s.crs with pendingEntry := put s.crs.pendingEntry c (some e) } },
              { code := okOr clamped, fields := circuitBytes e ++ [circuit] })
      else refused .badIndex s
    | _ => refused .badRequest s

/-- CIRCUIT.WRITE (R65). -/
def execCircuitWrite (params : List Byte) (s : State) : Host.Outcome State Fault Refusal :=
  serve .circuitWrite circuitWrite params s

end Sys2Proof.Machine
end

