-- ==== Sys2Proof/Machine/Claims.lean ====
section
/-! DEFINITION. The five claim requests (R16–R23). -/

namespace Sys2Proof.Machine

/-- The reply code of a claim outcome (R16). -/
def outcomeCode (clamped : Bool) (c : Claim) : ReplyCode :=
  if clamped then .clamped
  else if c.isHeld then .held
  else if c.granted < c.requested then .degraded else .granted

/-- The reply with the claim outcome of the claim in a slot (R16). -/
def outcomeReply (clamped : Bool) (i : SlotIx) (s : State) : Reply :=
  match claimAt s i with
  | some c => { code := outcomeCode clamped c, fields := claimOutcome (handleAt s i) c }
  | none => refuse .noSuchClaim

/-- The claim a handle names, or the refusal of R4. -/
def namedClaim (s : State) (hi lo : Byte) : Except ReplyCode (SlotIx × Claim) :=
  match Handle.ofNat (word16 hi lo) with
  | none => .error .badIndex
  | some h =>
    match claimAt s h.slot with
    | none => .error .noSuchClaim
    | some c => if (s.clt.slots.get h.slot).gen = h.gen then .ok (h.slot, c) else .error .staleHandle

/-- As `namedClaim`, with the owner check of R4. -/
def ownedClaim (s : State) (hi lo : Byte) : Except ReplyCode (SlotIx × Claim) :=
  match namedClaim s hi lo with
  | .error e => .error e
  | .ok (i, c) => if c.origin = .link then .ok (i, c) else .error .notOwner

/-- The slot of the live LINK claim on a circuit (R5). -/
def linkClaimOn (s : State) (c : Circ) : Option SlotIx :=
  (liveSlots s.clt).find? fun i =>
    match claimAt s i with
    | some cl => cl.circuit = c && cl.origin = .link
    | none => false

/-! ### CLAIM.RAISE -/

/-- Whether a link raise has a value clamped (R17). -/
def raiseClamped (maxLevel : Nat) (r : Raise) : Bool :=
  (r.mode = .steady
    && (raiseLevel maxLevel r.level != r.level
      || (match r.floor with
          | some f => raiseFloor (raiseLevel maxLevel r.level) (some f) != f
          | none => false)))
  || decide (Config.maxShare < r.share.getD 0) || decide (Config.maxExpiry < r.expiry)

/-- CLAIM.RAISE once its codes and its circuit are known (R17). -/
def raiseOnLink (r : Raise) (s : State) : State × Reply :=
  if (s.crs.inForce.get r.circuit).channels.isEmpty then refused .badCircuit s
  else match linkClaimOn s r.circuit with
    | some i => (s, { code := .duplicate, fields := be16 (handleAt s i).toNat })
    | none =>
      match freeSlot s.clt with
      | none => refused .tableFull s
      | some i =>
        let s' := withHandOver (raiseInto i r) s
        (s', outcomeReply (raiseClamped (maxLevelOf s r.circuit) r) i s')

/-- CLAIM.RAISE's effect (R17). -/
def claimRaise (params : List Byte) (s : State) : State × Reply :=
  if s.mdc.mode ≠ .run then refused .wrongMode s
  else match params with
    | [circuit, mode, cls, level, floor, flags, share, e1, e0] =>
      match ClaimMode.ofCode mode, ClaimClass.ofCode cls with
      | some m, some k =>
        if h : circuit.toNat < 16 then
          raiseOnLink
            { origin := .link, circuit := ⟨circuit.toNat, h⟩, mode := m, cls := k, level := level.toNat
              floor := if floor = 0 then none else some floor.toNat
              share := if flags.getLsbD 0 then some share.toNat else none
              expiry := word16 e1 e0 } s
        else refused .badIndex s
      | _, _ => refused .badRequest s
    | _ => refused .badRequest s

/-- CLAIM.RAISE (R17). -/
def execClaimRaise (params : List Byte) (s : State) : Host.Outcome State Fault Refusal :=
  serve .claimRaise claimRaise params s

/-! ### CLAIM.ALTER -/

/-- What CLAIM.ALTER gives to change (R18). -/
structure Alteration where
  level : Option Nat
  floor : Option Nat
  expiry : Option Nat
  mode : Option ClaimMode
deriving DecidableEq, Repr

/-- Whether an alteration changes a claim's mode (R20). -/
def Alteration.switches (a : Alteration) (c : Claim) : Bool :=
  match a.mode with
  | some m => m != c.mode
  | none => false

/-- The mode a claim has after an alteration. -/
def Alteration.modeOf (a : Alteration) (c : Claim) : ClaimMode := a.mode.getD c.mode

/-- Whether an alteration's level and floor are used: the claim is STEADY after it (R18, R20). -/
def Alteration.usesLevels (a : Alteration) (c : Claim) : Bool := a.modeOf c = .steady

/-- The requested level after an alteration (R18, R20). -/
def Alteration.requestedOf (a : Alteration) (maxLevel : Nat) (c : Claim) : Nat :=
  if a.usesLevels c then
    match a.level with
    | some l => clampNat 1 maxLevel l
    | none => if a.switches c then maxLevel else c.requested
  else if a.switches c then maxLevel else c.requested

/-- The floor level after an alteration (R2, R18, R20). -/
def Alteration.floorOf (a : Alteration) (maxLevel : Nat) (c : Claim) : Nat :=
  let req := a.requestedOf maxLevel c
  if a.usesLevels c then
    match a.floor with
    | some f => clampNat 1 req f
    | none => if a.switches c then req else min c.floor req
  else if a.switches c then maxLevel else c.floor

/-- Whether an alteration has a value clamped (R18). -/
def Alteration.clamps (a : Alteration) (maxLevel : Nat) (c : Claim) : Bool :=
  (a.usesLevels c
    && ((a.level.map fun l => a.requestedOf maxLevel c != l).getD false
      || (a.floor.map fun f => a.floorOf maxLevel c != f).getD false))
  || decide (Config.maxExpiry < a.expiry.getD 0)

/-- The record after an alteration, its state aside (R18, R20). -/
def Alteration.record (a : Alteration) (maxLevel : Nat) (c : Claim) : Claim :=
  { c with
    mode := a.modeOf c, requested := a.requestedOf maxLevel c, floor := a.floorOf maxLevel c
    expiry := match a.expiry with
      | some e => if e = 0 then none else some (min e Config.maxExpiry)
      | none => c.expiry }

/-- Whether an alteration asks for the granted level to be brought into agreement with the levels it gives: a level or
a floor is given, but a floor alone, lowered below the granted level, is stored and changes nothing else (R19, log 23). -/
def Alteration.realigns (a : Alteration) (maxLevel : Nat) (c : Claim) : Bool :=
  a.level.isSome || (a.floor.isSome && !decide (a.floorOf maxLevel c < min c.floor c.granted))

/-- The granted level of a STEADY claim brought into agreement with its requested and floor levels (R19). -/
def alignLevel (i : SlotIx) (s : State) : State :=
  match claimAt s i with
  | none => s
  | some c =>
    let g := c.granted
    if c.requested < g then stepLevel i c.requested 0 s
    else if g = c.requested then s
    else
      let toRequested := claimShare s c c.requested - claimShare s c g
      let toFloor := claimShare s c c.floor - claimShare s c g
      if addedFits s c toRequested then stepLevel i c.requested toRequested s
      else if c.floor ≤ g then s
      else if addedFits s c toFloor then stepLevel i c.floor toFloor s
      else makeHeld i budgetHold s

/-- An alteration carried out on the claim in a slot (R18, R19, R20). -/
def alter (i : SlotIx) (c : Claim) (a : Alteration) (s : State) : State :=
  let maxLevel := maxLevelOf s c.circuit
  let s := modifyClaim i (a.record maxLevel) s
  if c.isHeld then s
  else if a.switches c then admitSlot i { s with clt := s.clt.leave i }
  else if c.mode = .steady && a.realigns maxLevel c then alignLevel i s
  else s

/-- CLAIM.ALTER's effect (R18). -/
def claimAlter (params : List Byte) (s : State) : State × Reply :=
  if s.mdc.mode ≠ .run then refused .wrongMode s
  else match params with
    | [h1, h0, changes, level, floor, e1, e0, mode] =>
      let newMode := if changes.getLsbD 3 then ClaimMode.ofCode mode else none
      if changes.getLsbD 3 ∧ newMode = none then refused .badRequest s
      else match ownedClaim s h1 h0 with
        | .error e => refused e s
        | .ok (i, c) =>
          let a : Alteration :=
            { level := if changes.getLsbD 0 then some level.toNat else none
              floor := if changes.getLsbD 1 then some floor.toNat else none
              expiry := if changes.getLsbD 2 then some (word16 e1 e0) else none
              mode := newMode }
          let s' := withHandOver (alter i c a) s
          (s', outcomeReply (a.clamps (maxLevelOf s c.circuit) c) i s')
    | _ => refused .badRequest s

/-- CLAIM.ALTER (R18). -/
def execClaimAlter (params : List Byte) (s : State) : Host.Outcome State Fault Refusal :=
  serve .claimAlter claimAlter params s

/-! ### CLAIM.RETIRE, CLAIM.LOOKUP, CLAIM.SCAN -/

/-- CLAIM.RETIRE's effect (R21). -/
def claimRetire (params : List Byte) (s : State) : State × Reply :=
  match params with
  | [h1, h0] =>
    match ownedClaim s h1 h0 with
    | .error e => refused e s
    | .ok (i, _) => (beginRequested (withHandOver (retire i) s), { code := .ok, fields := [h1, h0] })
  | _ => refused .badRequest s

/-- CLAIM.RETIRE (R21). -/
def execClaimRetire (params : List Byte) (s : State) : Host.Outcome State Fault Refusal :=
  serve .claimRetire claimRetire params s

/-- CLAIM.LOOKUP's effect (R22). -/
def claimLookup (params : List Byte) (s : State) : State × Reply :=
  match params with
  | [h1, h0] =>
    match namedClaim s h1 h0 with
    | .error e => refused e s
    | .ok (i, c) => (s, { code := .ok, fields := claimRecord (handleAt s i) c })
  | _ => refused .badRequest s

/-- CLAIM.LOOKUP (R22). -/
def execClaimLookup (params : List Byte) (s : State) : Host.Outcome State Fault Refusal :=
  serve .claimLookup claimLookup params s

/-- The live slots from a start slot upward whose circuit is the one named, or all of them (R23). -/
def scanSlots (s : State) (circuit : Option Circ) (first : Nat) : List SlotIx :=
  (liveSlots s.clt).filter fun i =>
    decide (first ≤ i.val) &&
      match circuit, claimAt s i with
      | some c, some cl => cl.circuit = c
      | none, some _ => true
      | _, none => false

/-- The resume slot after the handles returned: the slot after the last of them when a further claim matches, or 32
(R23). -/
def resumeSlot (slots : List SlotIx) : Nat :=
  if 14 < slots.length then
    match (slots.take 14).getLast? with
    | some i => i.val + 1
    | none => 32
  else 32

/-- CLAIM.SCAN's effect (R23). -/
def claimScan (params : List Byte) (s : State) : State × Reply :=
  match params with
  | [circuit, first] =>
    if (15 < circuit.toNat ∧ circuit ≠ 255) ∨ 31 < first.toNat then refused .badIndex s
    else
      let named := if h : circuit.toNat < 16 then some (⟨circuit.toNat, h⟩ : Circ) else none
      let slots := scanSlots s named first.toNat
      let shown := slots.take 14
      (s, { code := .ok
            fields := byte (resumeSlot slots) :: byte shown.length
              :: shown.flatMap fun i => be16 (handleAt s i).toNat })
  | _ => refused .badRequest s

/-- CLAIM.SCAN (R23). -/
def execClaimScan (params : List Byte) (s : State) : Host.Outcome State Fault Refusal :=
  serve .claimScan claimScan params s

end Sys2Proof.Machine
end

