-- ==== Sys2Proof/Machine/Gauges.lean ====
section
/-! DEFINITION. The Gauge Unit: samples (R138), the update with its stages (R139–R143) and the sender-fault judgement
(R145–R147), the heater period (R144), and the gauge requests (R152, R153). -/

namespace Sys2Proof.Machine

/-! ### Stages 1 to 3 -/

/-- The class of a reading, with Rs when it is in range (R140). -/
def classOf (a : Nat) : ReadingClass :=
  if 4080 ≤ a then .openSender
  else if a ≤ 15 then .short
  else .inRange (min 9999 (roundDiv (2200 * (a : Int)) (4095 - (a : Int))).toNat)

/-- The deflection at a sender resistance, from a calibration table (R141). -/
def calibrate : List (Nat × Nat) → Nat → Nat
  | [], _ => 0
  | [(_, d)], _ => d
  | (r0, d0) :: (r1, d1) :: rest, rs =>
    if rs < r0 then d0
    else if rs < r1 then
      ((d0 : Int) + roundDiv (((d1 : Int) - d0) * ((rs : Int) - r0)) ((r1 : Int) - r0)).toNat
    else calibrate ((r1, d1) :: rest) rs

/-! ### The sender-fault judgement -/

/-- An accepted in-range reading: ACTIVE, with the reading's deflection as target and last good target (R145, R147). -/
def Gauge.accept (d : Nat) (g : Gauge) : Gauge := { g with state := .active, target := d, lastGood := d }

/-- The updates that a fault hold lasts (R146). -/
def faultHoldLimit : Nat := 80

/-- A gauge still in FAULT_HOLD after the judgement for recovery: the hold count advances, and at 80 the gauge is at
FAULT_REST with target 0 (R146). -/
def Gauge.advanceHold (kind : FaultKind) (hold recovery : Nat) (g : Gauge) : Gauge :=
  if faultHoldLimit ≤ hold + 1 then { g with state := .faultRest kind recovery, target := 0 }
  else { g with state := .faultHold kind (hold + 1) recovery }

/-- The judgement of an in-range reading with deflection `d` (R145, R146, R147). -/
def Gauge.judgeGood (d : Nat) (g : Gauge) : Gauge :=
  match g.state with
  | .off => g
  | .active => g.accept d
  | .suspect _ => g.accept d
  | .faultHold kind hold recovery =>
    if 4 ≤ recovery + 1 then g.accept d else g.advanceHold kind hold (recovery + 1)
  | .faultRest kind recovery =>
    if 4 ≤ recovery + 1 then g.accept d else { g with state := .faultRest kind (recovery + 1) }

/-- The judgement of an out-of-range reading (R145, R146, R147). -/
def Gauge.judgeBad (kind : FaultKind) (g : Gauge) : Gauge :=
  match g.state with
  | .off => g
  | .active => { g with state := .suspect 1 }
  | .suspect n => { g with state := if 4 ≤ n + 1 then .faultHold kind 0 0 else .suspect (n + 1) }
  | .faultHold _ hold _ => g.advanceHold kind hold 0
  | .faultRest _ _ => { g with state := .faultRest kind 0 }

/-- The judgement of a reading by its class (R145, R146, R147). -/
def Gauge.judge (cls : ReadingClass) (g : Gauge) : Gauge :=
  match cls with
  | .inRange rs => g.judgeGood (calibrate g.settings.points rs)
  | .openSender => g.judgeBad .openSender
  | .short => g.judgeBad .short

/-- Whether a reading's judgement confirms a sender fault: the fourth out-of-range reading in a row (R146). -/
def Gauge.confirms (cls : ReadingClass) (g : Gauge) : Bool :=
  match g.state, cls with
  | .suspect n, .openSender => decide (4 ≤ n + 1)
  | .suspect n, .short => decide (4 ≤ n + 1)
  | _, _ => false

/-! ### Stages 4 and 5 -/

/-- The step of the damping (R142). -/
def dampStep (k target filtered : Nat) : Int :=
  let gap : Int := (target : Int) - filtered
  let step := (gap * k).tdiv 256
  if step ≠ 0 then step else if filtered < target then 1 else if target < filtered then -1 else 0

/-- Stage 4: the filtered deflection moved toward the target (R142). -/
def Gauge.damp (g : Gauge) : Gauge :=
  { g with filtered := ((g.filtered : Int) + dampStep g.settings.k g.target g.filtered).toNat }

/-- The raw duty for a filtered deflection, compensated for a battery voltage (R143). -/
def rawDuty (filtered vstab vbatF : Nat) : Nat :=
  let vb := max 600 vbatF
  (roundDiv ((filtered * vstab ^ 2 : Nat) : Int) ((vb ^ 2 : Nat) : Int)).toNat

/-- Stage 5: the heater duty and the UNDERVOLT flag (R143). -/
def Gauge.formDuty (vbatF : Nat) (g : Gauge) : Gauge :=
  let raw := rawDuty g.filtered g.settings.vstab vbatF
  { g with duty := min 1000 raw, undervolt := decide (1000 < raw) }

/-! ### The update -/

/-- The reading of a gauge at an update: the mean of its samples (R139), or the free value `free` when there is none
(log 9). -/
def Gauge.reads (free : Nat) (g : Gauge) : Nat :=
  match g.samples with
  | [] => free
  | xs => meanNat xs

/-- A gauge at an update, with its reading: recorded in every state, and in every state but OFF judged, damped and turned
into a duty (R138–R147). -/
def Gauge.update (vbatF a : Nat) (g : Gauge) : Gauge :=
  let cls := classOf a
  let g' := { g with samples := [], reading := some { a := a, cls := cls } }
  if g.state = .off then g' else ((g'.judge cls).damp).formDuty vbatF

/-- The reading each gauge forms at an update (R139). -/
def updateReadings (s : State) : Vector Nat 3 :=
  tabulate fun g => (s.gau.get g).reads (Config.freeReading (s.freeCount + g.val)).val

/-- An update of all three gauges, with status SENDER for a fault confirmed (R138, R146). -/
def updateGauges (s : State) : State :=
  let readings := updateReadings s
  let confirmed := (List.finRange 3).any fun g => (s.gau.get g).confirms (classOf (readings.get g))
  let short := (List.finRange 3).any fun g => (s.gau.get g).samples.isEmpty
  setFlagIf confirmed .sender
    { s with
      gau := tabulate fun g => (s.gau.get g).update s.sbu.vbatF (readings.get g)
      freeCount := if short then s.freeCount + 3 else s.freeCount }

/-- GAUGE_UPDATE (R138): in RUN alone; each gauge's deflection is handed to the resolver (R150). -/
def execGaugeUpdate (s : State) : Host.Outcome State Fault Refusal :=
  act (fun s => if s.mdc.mode = .run then refreshDemands (updateGauges s) else s) s

/-! ### Samples and the other events -/

/-- SENDER_SAMPLE (R138): the sender inputs show these readings; in RUN a sample of each is taken. -/
def execSenderSample (a0 a1 a2 : BitVec 12) (s : State) : Host.Outcome State Fault Refusal :=
  act (fun s =>
    let inputs : Vector (BitVec 12) 3 := #v[a0, a1, a2]
    let s := { s with pins := { s.pins with senders := inputs } }
    if s.mdc.mode = .run then
      { s with gau := tabulate fun g : GaugeIx =>
          { s.gau.get g with samples := (s.gau.get g).samples ++ [(inputs.get g).toNat] } }
    else s) s

/-- The end of a fault hold, taken by itself (R146): the hold count stands at its last, 79, and at
another value the event does not fall (log 3). -/
def Gauge.endHold (g : Gauge) : Gauge :=
  match g.state with
  | .faultHold kind hold recovery =>
    if hold + 1 = faultHoldLimit then { g with state := .faultRest kind recovery, target := 0 } else g
  | .off | .active | .suspect _ | .faultRest _ _ => g

/-- FAULT_HOLD_END (R146, R150). -/
def execFaultHoldEnd (g : GaugeIx) (s : State) : Host.Outcome State Fault Refusal :=
  act (fun s =>
    if s.mdc.mode = .run then refreshDemands { s with gau := upd s.gau g Gauge.endHold } else s) s

/-- HEATER_PERIOD_END (R144): in RUN the applied duty takes the duty computed at the latest update. -/
def execHeaterPeriodEnd (g : GaugeIx) (s : State) : Host.Outcome State Fault Refusal :=
  act (fun s =>
    if s.mdc.mode = .run then { s with gau := upd s.gau g fun x => { x with applied := x.duty } } else s) s

/-! ### The gauge requests -/

/-- The reading's three bytes: its value and class, 65535 and 255 when there is none (R152, R169, R171). -/
def readingBytes : Option Reading → List Byte
  | none => be16 65535 ++ [255]
  | some r =>
    be16 r.a ++ [match r.cls with
      | .inRange _ => 0
      | .openSender => 1
      | .short => 2]

/-- The sender resistance, absent unless the reading is in range (R137). -/
def Reading.rs (r : Reading) : Option Nat :=
  match r.cls with
  | .inRange rs => some rs
  | .openSender | .short => none

/-- The out-of-range count, 0 when absent (R152). -/
def GaugeState.outCount : GaugeState → Nat
  | .suspect n => n
  | .off | .active | .faultHold _ _ _ | .faultRest _ _ => 0

/-- The fault hold count, 0 when absent (R152). -/
def GaugeState.holdCount : GaugeState → Nat
  | .faultHold _ h _ => h
  | .off | .active | .suspect _ | .faultRest _ _ => 0

/-- The recovery count, 0 when absent (R152). -/
def GaugeState.recoveryCount : GaugeState → Nat
  | .faultHold _ _ r => r
  | .faultRest _ r => r
  | .off | .active | .suspect _ => 0

/-- The fault kind's code, 0 when absent (R171). -/
def GaugeState.faultByte : GaugeState → Byte
  | .faultHold k _ _ => k.code
  | .faultRest k _ => k.code
  | .off | .active | .suspect _ => 0

/-- The 21 fields of GAUGE.READ with view STATE (R152, R172). -/
def gaugeFields (g : Gauge) : List Byte :=
  readingBytes g.reading ++ be16 ((g.reading.bind Reading.rs).getD 65535) ++ be16 g.target ++ be16 g.lastGood
    ++ be16 g.filtered ++ be16 g.duty ++ be16 g.applied
    ++ [g.state.code, byte g.state.outCount, byte g.state.holdCount, byte g.state.recoveryCount, g.state.faultByte,
        boolByte g.undervolt]

/-- GAUGE.READ's effect (R152). An undefined view code draws BAD_REQUEST before the index is looked at: R152 lists no order
of checks (DESIGN CHOICE, log 36). -/
def gaugeRead (params : List Byte) (s : State) : State × Reply :=
  match params with
  | [gauge, view] =>
    if 1 < view.toNat then refused .badRequest s
    else if h : gauge.toNat < 3 then
      let g := s.gau.get ⟨gauge.toNat, h⟩
      (s, { code := .ok, fields := if view = 0 then gaugeFields g else gaugeBytes g.settings })
    else refused .badIndex s
  | _ => refused .badRequest s

/-- GAUGE.READ (R152). -/
def execGaugeRead (params : List Byte) (s : State) : Host.Outcome State Fault Refusal :=
  serve .gaugeRead gaugeRead params s

/-- A point count for which the length is checked (R172). -/
def pointCountFits (n : Byte) : Bool := decide (2 ≤ n.toNat) && decide (n.toNat ≤ 8)

/-- The four bytes k and Vstab that follow `n` points. -/
def afterPoints (n : Nat) (bytes : List Byte) : Nat × Nat :=
  match bytes.drop (3 * n) with
  | k1 :: k0 :: v1 :: v0 :: _ => (word16 k1 k0, word16 v1 v0)
  | _ => (0, 0)

/-- GAUGE.SET's effect (R153). A point count outside 2–8 is refused at the table check, whatever the length; with a count
of 2–8 the length is 6 + 3 × the count (R172). -/
def gaugeSet (params : List Byte) (s : State) : State × Reply :=
  if s.mdc.mode ≠ .run then refused .wrongMode s
  else if storeBusy s then refused .storeBusy s
  else match params with
    | gauge :: n :: bytes =>
      if pointCountFits n ∧ bytes.length ≠ 4 + 3 * n.toNat then refused .badRequest s
      else if h : gauge.toNat < 3 then
        if pointCountFits n then
          let kv := afterPoints n.toNat bytes
          match judgeGauge (pointsOf n.toNat bytes) kv.1 kv.2 with
          | .error e => refused e s
          | .ok (settings, clamped) =>
            ({ s with gau := upd s.gau ⟨gauge.toNat, h⟩ fun g => { g with settings := settings } },
              { code := okOr clamped, fields := gaugeBytes settings })
        else refused .badTable s
      else refused .badIndex s
    | _ => refused .badRequest s

/-- GAUGE.SET (R153). -/
def execGaugeSet (params : List Byte) (s : State) : Host.Outcome State Fault Refusal :=
  serve .gaugeSet gaugeSet params s

end Sys2Proof.Machine
end

