-- ==== Sys2Proof/Machine/Supply.lean ====
section
/-! DEFINITION. The Supply Budget Unit: its samples (R25), the evaluation with its stages (R26–R44), the ends of its
counts (R11, R32, R37, R46, R47), HOLD.SET (R48) and SUPPLY.READ (R49). -/

namespace Sys2Proof.Machine

/-- Whether the budget runs: samples and evaluations fall in RUN and in QUIESCED (R25, R27). -/
def budgetRuns (s : State) : Bool := s.mdc.mode == .run || s.mdc.mode == .quiesced

/-! ### Samples -/

/-- SUPPLY_SAMPLE (R25): the inputs show these values; in RUN and QUIESCED a sample of them is taken. -/
def execSupplySample (vbat vgen : Nat) (ibat : Int) (s : State) : Host.Outcome State Fault Refusal :=
  act (fun s =>
    let x : Supply := { vbat := vbat, vgen := vgen, ibat := ibat }
    let s := { s with pins := { s.pins with supply := x } }
    if budgetRuns s then { s with sbu := { s.sbu with samples := s.sbu.samples ++ [saturate x] } } else s) s

/-! ### Stage 1 -/

/-- The filtered values formed from the samples since the previous evaluation, truncated toward zero (R26). With no
sample they are free values (log 8). -/
def formFiltered (s : State) : State :=
  match s.sbu.samples with
  | [] =>
    let n := s.freeCount
    { s with
      freeCount := n + 1
      sbu := { s.sbu with
        vbatF := (Config.freeVbat n).val, vgenF := (Config.freeVgen n).val, ibatF := (Config.freeIbat n).val - 800 } }
  | xs =>
    { s with sbu := { s.sbu with
        samples := [], vbatF := meanNat (xs.map (·.vbat)), vgenF := meanNat (xs.map (·.vgen))
        ibatF := meanInt (xs.map (·.ibat)) } }

/-- The band after an evaluation with a filtered battery voltage, at most one step away (R29). -/
def Band.after (vbatF : Nat) : Band → Band
  | .normal => if vbatF < 1180 then .low else .normal
  | .low => if 1220 ≤ vbatF then .normal else if vbatF < 1100 then .critical else .low
  | .critical => if 1140 ≤ vbatF then .low else .critical

/-- The band set in stage 1, unless a crank or its recovery freezes it; a change sets BAND (R29). -/
def setBand (s : State) : State :=
  if s.sbu.crank = .none then
    let b := s.sbu.band.after s.sbu.vbatF
    setFlagIf (b != s.sbu.band) .band { s with sbu := { s.sbu with band := b } }
  else s

/-- The charging state after an evaluation (R30). -/
def Charging.after (vgenF vbatF : Nat) (c : Charging) : Charging :=
  if vbatF + 30 ≤ vgenF then .charging else if vgenF < vbatF + 10 then .notCharging else c

/-- The charging state set in stage 1; a change sets CHARGE (R30). -/
def setCharging (s : State) : State :=
  let c := s.sbu.charging.after s.sbu.vgenF s.sbu.vbatF
  setFlagIf (c != s.sbu.charging) .charge { s with sbu := { s.sbu with charging := c } }

/-! ### Stages 2 to 5 -/

/-- A settle part counted down, and removed when its count reaches 0 (R32). -/
def SettlePart.countDown (p : SettlePart) : Option SettlePart :=
  if p.left ≤ 1 then none else some { p with left := p.left - 1 }

/-- A claim's settle part counted down (R32). -/
def Claim.countSettle (c : Claim) : Claim := { c with settle := c.settle.bind SettlePart.countDown }

/-- A hold timer counted down, and removed with BUDGET_TIMER when it reaches 0 (R37). -/
def HoldReasons.countTimer (r : HoldReasons) : HoldReasons :=
  { r with budgetTimer := r.budgetTimer.bind fun n => if n ≤ 1 then none else some (n - 1) }

/-- Stage 4: the crank recovery counted down (R46). -/
def countRecovery (s : State) : State :=
  match s.sbu.crank with
  | .recovery n =>
    if n ≤ 1 then endRecovery s else { s with sbu := { s.sbu with crank := .recovery (n - 1) } }
  | .none | .cranking => s

/-- Stage 4: the host hold counted down (R47). -/
def countHostHold (s : State) : State :=
  match s.sbu.hostHold with
  | some h =>
    if h.count ≤ 1 then endHostHold s
    else { s with sbu := { s.sbu with hostHold := some { h with count := h.count - 1 } } }
  | none => s

/-- The expiry of the claim in a slot counted down; one that reaches 0 retires the claim with CLAIM_EXPIRED (R11). -/
def countExpiry (s : State) (i : SlotIx) : State :=
  match claimAt s i with
  | none => s
  | some c =>
    match c.expiry with
    | none => s
    | some n =>
      if n ≤ 1 then setFlag .claimExpired (retire i s)
      else modifyClaim i (fun c => { c with expiry := some (n - 1) }) s

/-- Stage 5: every expiry counted down, in slot order (R11). -/
def countExpiries (s : State) : State := (List.finRange 32).foldl countExpiry s

/-! ### Stage 7 -/

/-- Whether the claim in a slot is GRANTED, of a class, and satisfies `p`. -/
def grantedIn (s : State) (cls : ClaimClass) (p : Claim → Bool) (i : SlotIx) : Bool :=
  match claimAt s i with
  | some c => !c.isHeld && c.cls = cls && p c
  | none => false

/-- The first hit of `find` over a list of classes. -/
def firstClass (classes : List ClaimClass) (find : ClaimClass → Option SlotIx) : Option SlotIx :=
  classes.findSome? find

/-- The shed victim (R39). -/
def shedVictim (s : State) : Option SlotIx :=
  firstClass [.auxiliary, .comfort, .lighting] fun cls =>
    s.clt.grantList.reverse.find? (grantedIn s cls fun _ => true)

/-- A shed of the claim in a slot: a degrade step above its floor, a hold at it (R40). -/
def shed (i : SlotIx) (s : State) : State :=
  match claimAt s i with
  | none => s
  | some c =>
    if c.floor < c.granted then
      modifyClaim i (fun c => { c with state := .granted (c.granted - 1) }) s
    else setFlag .claimHeld (makeHeld i budgetHold s)

/-- Whether the claim in a slot is HELD with an empty reason set. -/
def reasonFree (s : State) (i : SlotIx) : Bool :=
  match claimAt s i with
  | some c =>
    match c.reasons with
    | some r => r.isEmpty
    | none => false
  | none => false

/-- Whether a claim is DEGRADED (R2). -/
def Claim.degraded (c : Claim) : Bool := !c.isHeld && decide (c.granted < c.requested)

/-- The candidate for a restore or an upgrade step (R41). -/
def candidate (s : State) : Option SlotIx :=
  match s.clt.heldQueue.find? (reasonFree s) with
  | some i => some i
  | none =>
    firstClass [.lighting, .comfort, .auxiliary] fun cls => s.clt.grantList.find? (grantedIn s cls Claim.degraded)

/-- A candidate's need, in dA (R41). -/
def need (s : State) (c : Claim) : Int :=
  if c.isHeld then (claimShare s c c.floor : Int) + 10
  else (claimShare s c (c.granted + 1) : Int) - (claimShare s c c.granted : Int) + 10

/-- The restore of a HELD candidate or the upgrade step of a DEGRADED one, with headroom `h` (R43, R44). -/
def takeBack (h : Int) (i : SlotIx) (s : State) : State :=
  match claimAt s i with
  | none => s
  | some c =>
    if c.isHeld then
      let level := match c.mode with
        | .flash => c.requested
        | .steady => (fittingLevel s c (h - 10)).getD c.floor
      setFlag .claimRestored (makeGranted i level (claimShare s c level) s)
    else
      let g := c.granted
      stepLevel i (g + 1) (claimShare s c (g + 1) - claimShare s c g) s

/-- The two runs set (R38, R42). -/
def setRuns (deficit surplus : Nat) (s : State) : State :=
  { s with sbu := { s.sbu with deficitRun := deficit, surplusRun := surplus } }

/-- Stage 7 at an evaluation with negative headroom (R38). -/
def deficitStage (s : State) : State :=
  let d := min 2 (s.sbu.deficitRun + 1)
  if d = 2 then
    match shedVictim s with
    | some i => shed i (setRuns 0 0 s)
    | none => setRuns 2 0 s
  else setRuns d 0 s

/-- Stage 7 at an evaluation with headroom `h` of 0 or more (R41, R42). -/
def surplusStage (h : Int) (s : State) : State :=
  match candidate s with
  | none => setRuns 0 0 s
  | some i =>
    match claimAt s i with
    | none => setRuns 0 0 s
    | some c =>
      if need s c ≤ h then
        let r := s.sbu.surplusRun + 1
        if 2 ≤ r then takeBack h i (setRuns 0 0 s) else setRuns 0 r s
      else setRuns 0 0 s

/-- Stages 6 and 7: the headroom, and at most one budget action; none in QUIESCED and while CRANKING (R28). -/
def actionStage (s : State) : State :=
  if s.mdc.mode = .run ∧ s.sbu.crank ≠ .cranking then
    let h := headroom s
    if h < 0 then deficitStage s else surplusStage h s
  else setRuns 0 0 s

/-- Stage 1: the filtered values, then the band, then the charging state (R28). -/
def measureStage (s : State) : State := setCharging (setBand (formFiltered s))

/-- Stages 2 to 5: the settle parts, the hold timers, the crank recovery and the host hold, and the expiries (R28). -/
def countStages (s : State) : State :=
  let s := mapClaims Claim.countSettle s
  let s := mapClaims (Claim.mapReasons HoldReasons.countTimer) s
  countExpiries (countHostHold (countRecovery s))

/-- The stages of an evaluation on the budget and the claims, in order (R28). -/
def evaluationStages (s : State) : State := actionStage (countStages (measureStage s))

/-- BUDGET_EVALUATION (R28): the stages, the changed circuits handed over once after the last change (R8), the CHARGE
tell-tales recomputed (R61), and a pass that a slot-freed notice requested begun (R13). -/
def execBudgetEvaluation (s : State) : Host.Outcome State Fault Refusal :=
  act (fun s =>
    if budgetRuns s then beginRequested (refreshDemands (withHandOver evaluationStages s)) else s) s

/-! ### Counts that end

Each of these is the end of one count, taken by itself. The count stands at its last evaluation; at another value the
event does not fall (log 3). -/

/-- SETTLE_PART_EXPIRY (R32). -/
def execSettlePartExpiry (slot : SlotIx) (s : State) : Host.Outcome State Fault Refusal :=
  act (fun s =>
    if budgetRuns s then
      modifyClaim slot
        (fun c => if (c.settle.map (·.left)) = some 1 then { c with settle := none } else c) s
    else s) s

/-- HOLD_TIMER_EXPIRY (R37). -/
def execHoldTimerExpiry (slot : SlotIx) (s : State) : Host.Outcome State Fault Refusal :=
  act (fun s =>
    if budgetRuns s then
      modifyClaim slot
        (Claim.mapReasons fun r => if r.budgetTimer = some 1 then { r with budgetTimer := none } else r) s
    else s) s

/-- CRANK_RECOVERY_END (R46). -/
def execCrankRecoveryEnd (s : State) : Host.Outcome State Fault Refusal :=
  act (fun s => if budgetRuns s ∧ s.sbu.crank = .recovery 1 then endRecovery s else s) s

/-- HOST_HOLD_END (R47). -/
def execHostHoldEnd (s : State) : Host.Outcome State Fault Refusal :=
  act (fun s => if budgetRuns s ∧ s.sbu.hostHold.map (·.count) = some 1 then endHostHold s else s) s

/-- CLAIM_EXPIRY (R11). -/
def execClaimExpiry (slot : SlotIx) (s : State) : Host.Outcome State Fault Refusal :=
  act (fun s =>
    if budgetRuns s ∧ (claimAt s slot).bind (·.expiry) = some 1 then
      beginRequested (withHandOver (fun s => setFlag .claimExpired (retire slot s)) s)
    else s) s

/-! ### HOLD.SET -/

/-- The host hold reason added to a claim of a class in force, a GRANTED one made HELD (R48). -/
def hostHeldReasons : HoldReasons := { budgetTimer := none, crank := false, host := true }

/-- HOST set on every HELD claim of a class in the set and taken from every other claim (R48). -/
def markHost (h : HostHold) (s : State) : State :=
  mapClaims (fun c => c.mapReasons fun r => { r with host := h.covers c.cls }) s

/-- A host hold placed or replaced, with the number of claims it makes HELD (R48). -/
def placeHostHold (h : HostHold) (s : State) : State × Nat :=
  let s := markHost h { s with sbu := { s.sbu with hostHold := some h } }
  let taken := s.clt.grantList.filter fun i => slotClass s i h.covers
  (taken.foldl (fun s i => makeHeld i hostHeldReasons s) s, taken.length)

/-- The class set's byte (R171). -/
def HostHold.code (h : HostHold) : Byte :=
  byte ((if h.lighting then 2 else 0) + (if h.comfort then 4 else 0) + (if h.auxiliary then 8 else 0))

/-- HOLD.SET's effect (R48). -/
def holdSet (params : List Byte) (s : State) : State × Reply :=
  if s.mdc.mode ≠ .run then refused .wrongMode s
  else match params with
    | [classes, count] =>
      if 15 < classes.toNat then refused .badRequest s
      else
        let h : HostHold :=
          { lighting := classes.getLsbD 1, comfort := classes.getLsbD 2, auxiliary := classes.getLsbD 3
            count := min count.toNat 240 }
        if count = 0 ∨ (!h.lighting && !h.comfort && !h.auxiliary) then
          (endHostHold s, { code := .ok, fields := [0, 0, 0] })
        else
          let s' := withHandOver (fun s => (placeHostHold h s).1) s
          (s', { code := okOr (decide (240 < count.toNat))
                 fields := [h.code, byte h.count, byte (placeHostHold h s).2] })
    | _ => refused .badRequest s

/-- HOLD.SET (R48). -/
def execHoldSet (params : List Byte) (s : State) : Host.Outcome State Fault Refusal :=
  serve .holdSet holdSet params s

/-! ### SUPPLY.READ -/

/-- The recovery count, or 0 (R172). -/
def Crank.count : Crank → Nat
  | .recovery n => n
  | .none | .cranking => 0

/-- The seventeen fields of SUPPLY.READ (R49, R172). -/
def supplyFields (s : State) : List Byte :=
  be16 s.sbu.vbatF ++ be16 s.sbu.vgenF ++ signed16 s.sbu.ibatF ++ [s.sbu.band.code, s.sbu.charging.code]
    ++ signed16 (headroom s) ++ be16 (unsettled s)
    ++ [byte s.clt.heldQueue.length, s.sbu.crank.code, byte s.sbu.crank.count,
        (s.sbu.hostHold.map HostHold.code).getD 0, byte ((s.sbu.hostHold.map (·.count)).getD 0)]

/-- SUPPLY.READ (R49). -/
def execSupplyRead (params : List Byte) (s : State) : Host.Outcome State Fault Refusal :=
  serve .supplyRead (readAll supplyFields) params s

end Sys2Proof.Machine
end

