-- ==== Sys2Proof/Machine/Dispatch.lean ====
section
/-! DEFINITION. The meaning of each command, one arm per constructor of `Instr`. -/

namespace Sys2Proof.Machine

def exec (i : Instr) (s : State) : Host.Outcome State Fault Refusal :=
  match i with
  | .claimRaise params => Sys2Proof.Machine.execClaimRaise params s
  | .claimAlter params => Sys2Proof.Machine.execClaimAlter params s
  | .claimRetire params => Sys2Proof.Machine.execClaimRetire params s
  | .claimLookup params => Sys2Proof.Machine.execClaimLookup params s
  | .claimScan params => Sys2Proof.Machine.execClaimScan params s
  | .supplyRead params => Sys2Proof.Machine.execSupplyRead params s
  | .holdSet params => Sys2Proof.Machine.execHoldSet params s
  | .circuitRead params => Sys2Proof.Machine.execCircuitRead params s
  | .circuitWrite params => Sys2Proof.Machine.execCircuitWrite params s
  | .flasherRead params => Sys2Proof.Machine.execFlasherRead params s
  | .flasherSet params => Sys2Proof.Machine.execFlasherSet params s
  | .channelRead params => Sys2Proof.Machine.execChannelRead params s
  | .channelRestore params => Sys2Proof.Machine.execChannelRestore params s
  | .profileRead params => Sys2Proof.Machine.execProfileRead params s
  | .profileWrite params => Sys2Proof.Machine.execProfileWrite params s
  | .groupRead params => Sys2Proof.Machine.execGroupRead params s
  | .groupWrite params => Sys2Proof.Machine.execGroupWrite params s
  | .bindRead params => Sys2Proof.Machine.execBindRead params s
  | .bindWrite params => Sys2Proof.Machine.execBindWrite params s
  | .gaugeRead params => Sys2Proof.Machine.execGaugeRead params s
  | .gaugeSet params => Sys2Proof.Machine.execGaugeSet params s
  | .statusRead params => Sys2Proof.Machine.execStatusRead params s
  | .statusClear params => Sys2Proof.Machine.execStatusClear params s
  | .enableRead params => Sys2Proof.Machine.execEnableRead params s
  | .enableSet params => Sys2Proof.Machine.execEnableSet params s
  | .enableClear params => Sys2Proof.Machine.execEnableClear params s
  | .pendingRead params => Sys2Proof.Machine.execPendingRead params s
  | .deviceRead params => Sys2Proof.Machine.execDeviceRead params s
  | .quiesce params => Sys2Proof.Machine.execQuiesce params s
  | .resume params => Sys2Proof.Machine.execResume params s
  | .storeSave params => Sys2Proof.Machine.execStoreSave params s
  | .storeLoad params => Sys2Proof.Machine.execStoreLoad params s
  | .requestFrame bytes => Sys2Proof.Machine.execRequestFrame bytes s
  | .fetchFrame count => Sys2Proof.Machine.execFetchFrame count s
  | .switchScan levels => Sys2Proof.Machine.execSwitchScan levels s
  | .passStep => Sys2Proof.Machine.execPassStep s
  | .supplySample vbat vgen ibat => Sys2Proof.Machine.execSupplySample vbat vgen ibat s
  | .budgetEvaluation => Sys2Proof.Machine.execBudgetEvaluation s
  | .settlePartExpiry slot => Sys2Proof.Machine.execSettlePartExpiry slot s
  | .holdTimerExpiry slot => Sys2Proof.Machine.execHoldTimerExpiry slot s
  | .crankRecoveryEnd => Sys2Proof.Machine.execCrankRecoveryEnd s
  | .hostHoldEnd => Sys2Proof.Machine.execHostHoldEnd s
  | .claimExpiry slot => Sys2Proof.Machine.execClaimExpiry slot s
  | .litExpiry => Sys2Proof.Machine.execLitExpiry s
  | .darkExpiry => Sys2Proof.Machine.execDarkExpiry s
  | .bulbCheckReading ch => Sys2Proof.Machine.execBulbCheckReading ch s
  | .tickPulseEnd => Sys2Proof.Machine.execTickPulseEnd s
  | .currentSample ch reading => Sys2Proof.Machine.execCurrentSample ch reading s
  | .stallTrip ch => Sys2Proof.Machine.execStallTrip ch s
  | .channelPeriodEnd ch => Sys2Proof.Machine.execChannelPeriodEnd ch s
  | .motorRampStep ch => Sys2Proof.Machine.execMotorRampStep ch s
  | .inrushWindowEnd ch => Sys2Proof.Machine.execInrushWindowEnd ch s
  | .continuousOnForgive ch => Sys2Proof.Machine.execContinuousOnForgive ch s
  | .backOffExpiry ch => Sys2Proof.Machine.execBackOffExpiry ch s
  | .openLoadDetected ch => Sys2Proof.Machine.execOpenLoadDetected ch s
  | .openLoadCleared ch => Sys2Proof.Machine.execOpenLoadCleared ch s
  | .senderSample a0 a1 a2 => Sys2Proof.Machine.execSenderSample a0 a1 a2 s
  | .gaugeUpdate => Sys2Proof.Machine.execGaugeUpdate s
  | .faultHoldEnd g => Sys2Proof.Machine.execFaultHoldEnd g s
  | .heaterPeriodEnd g => Sys2Proof.Machine.execHeaterPeriodEnd g s
  | .reset cause => Sys2Proof.Machine.execReset cause s
  | .loadingComplete read => Sys2Proof.Machine.execLoadingComplete read s
  | .storeSaveComplete => Sys2Proof.Machine.execStoreSaveComplete s
  | .storeSaveFail => Sys2Proof.Machine.execStoreSaveFail s
  | .storeLoadComplete read => Sys2Proof.Machine.execStoreLoadComplete read s
  | .sleepEntry => Sys2Proof.Machine.execSleepEntry s
  | .leaveReset => Sys2Proof.Machine.execLeaveReset s

end Sys2Proof.Machine
end

