-- ==== Sys2Proof/Safety.lean ====
section
/-! DEFINITION. What a safe state is: the properties that the manual states of the machine at every moment, in the terms
the obligations use. Each is decidable on a concrete state. -/

namespace Sys2Proof.Machine

/-! ### The two collections (R6) and the held queue's order (R7) -/

/-- A slot's claim is live and GRANTED. -/
def slotGranted (s : State) (i : SlotIx) : Bool := ((claimAt s i).map fun c => !c.isHeld).getD false

/-- A slot's claim is live and HELD. -/
def slotHeld (s : State) (i : SlotIx) : Bool := ((claimAt s i).map Claim.isHeld).getD false

/-- The grant order list holds exactly the GRANTED claims and the held queue exactly the HELD claims, each once (R6), and
the held queue is ordered by class (R7). -/
abbrev CollectionsExact (s : State) : Prop :=
  s.clt.grantList.Nodup ∧ s.clt.heldQueue.Nodup
    ∧ (∀ i : SlotIx, i ∈ s.clt.grantList ↔ slotGranted s i = true)
    ∧ (∀ i : SlotIx, i ∈ s.clt.heldQueue ↔ slotHeld s i = true)
    ∧ s.clt.heldQueue.Pairwise fun i j => slotRank s.clt i ≤ slotRank s.clt j

/-- No SAFETY claim is HELD (R7: a SAFETY claim is always GRANTED). -/
abbrev SafetyGranted (s : State) : Prop :=
  ∀ i : SlotIx, ((claimAt s i).map fun c => decide (c.cls = .safety) && c.isHeld) ≠ some true

/-! ### Settle parts (R32) -/

/-- A settle part has a share of 1 to 250 dA and 1 to 4 evaluations remaining (R32). -/
def SettlePart.inRange (p : SettlePart) : Bool :=
  decide (1 ≤ p.share) && decide (p.share ≤ 250) && decide (1 ≤ p.left) && decide (p.left ≤ 4)

/-- Every settle part of a live claim is in range (R32). -/
abbrev SettlesInRange (s : State) : Prop :=
  ∀ i : SlotIx, (((claimAt s i).bind (·.settle)).map SettlePart.inRange).getD true = true

/-! ### Channels (R88, R98) -/

/-- A channel is LOCKED. -/
def ChanState.isLocked : ChanState → Bool
  | .locked _ => true
  | .off | .softstart _ | .on _ | .tripped _ => false

/-- A trip count is at most 3, and 3 exactly when the channel is LOCKED (R98). -/
abbrev LockedAtThree (s : State) : Prop :=
  ∀ ch : Chan, (s.chd.get ch).tripCount ≤ 3
    ∧ ((s.chd.get ch).state.isLocked = true ↔ (s.chd.get ch).tripCount = 3)

/-- A channel is driven only in RUN, and applies duty only while it is driven (R88). -/
abbrev DrivenInRun (s : State) : Prop :=
  ∀ ch : Chan, ((s.chd.get ch).state.driven = true → s.mdc.mode = .run)
    ∧ ((s.chd.get ch).state.driven = false → (s.chd.get ch).applied = 0 ∧ (s.chd.get ch).target = 0
        ∧ (s.chd.get ch).samples = [])

/-! ### Gauges (R144) -/

/-- A gauge's duty lies within 0–1000 ‰ and is 0, as is its applied duty, while IGN's accepted code is not 1 or the mode
is not RUN; a gauge is ACTIVE or in a fault state only then (R144, R148, R149). -/
abbrev HeatersSafe (s : State) : Prop :=
  ∀ g : GaugeIx, (s.gau.get g).duty ≤ 1000 ∧ (s.gau.get g).applied ≤ 1000
    ∧ ((s.mdc.mode ≠ .run ∨ acceptedCode s ign ≠ some 1) →
        (s.gau.get g).state = .off ∧ (s.gau.get g).duty = 0 ∧ (s.gau.get g).applied = 0)

/-! ### Modes (R69, R159, R187) -/

/-- The Flasher is LIT or DARK exactly while the flash-present indication is set and the mode is RUN (R69, R70). -/
abbrev FlasherFollows (s : State) : Prop :=
  s.fls.phase ≠ .idle ↔ (s.crs.flashPresent = true ∧ s.mdc.mode = .run)

/-- The sleep entry timer runs exactly while its four conditions hold in RUN (R187). -/
abbrev TimerFollows (s : State) : Prop := s.mdc.sleepTimer.isSome = mayDoze s

/-- In SLEEP no claim is live and the link is IDLE (R159, R187); in LOADING no claim is live. -/
abbrev SleepQuiet (s : State) : Prop :=
  (s.mdc.mode = .sleep → noClaims s.clt = true ∧ s.lif.link = .idle)
    ∧ (s.mdc.mode = .loading → noClaims s.clt = true)

/-- In RUN every channel's demand is the one the resolver forms for it, and outside RUN it is 0 (R57, R59, R60, R62). -/
abbrev DemandsFollow (s : State) : Prop := ∀ ch : Chan, (s.chd.get ch).demand = channelDemand s ch

/-- In RUN every circuit stands resolved as R54 gives, but for those a running pass has changed and not yet handed over
(R8), and the flash-present indication and the flash set follow the resolved states (R56, R58). -/
abbrev ResolutionFollows (s : State) : Prop :=
  s.mdc.mode = .run →
    (∀ c : Circ, (s.bde.pass.any fun p => p.touched.get c) = false → s.crs.resolved.get c = resolve s c)
      ∧ (s.crs.flashPresent = s.crs.resolved.toList.any fun r => r = .flashing)
      ∧ ∀ ch : Chan, s.crs.flashSet.get ch = flashes s ch

/-- In RUN every channel acts on its demand: none is OFF at a demand above 0 but an UNUSED one (R59, R90), none is driven
at a demand of 0 (R94), a LOCKED one at 0 has its cycle flag set (R100), and a driven one drives toward the target that
its demand gives its kind (R84, R88). -/
abbrev DrivesFollow (s : State) : Prop :=
  s.mdc.mode = .run → ∀ ch : Chan, let c := s.chd.get ch
    (c.state = .off → c.profile.kind ≠ .unused → c.demand = 0)
      ∧ (c.state = .locked false → 0 < c.demand)
      ∧ (c.state.driven = true → 0 < c.demand
          ∧ c.target = match c.profile.kind with
            | .filament | .led | .telltale => c.demand
            | .motor => c.profile.minDuty + (1000 - c.profile.minDuty) * c.demand / 1000
            | .unused => c.target)

/-- A pass runs in RUN alone, none that is requested waits there for a pass to end that does not run (R126), and a
BIND.WRITE waits only for a running pass, the link WORKING with it (R127). -/
abbrev PassesSound (s : State) : Prop :=
  (s.bde.pass.isSome = true → s.mdc.mode = .run)
    ∧ (s.mdc.mode = .run → s.bde.passRequested = true → s.bde.pass.isSome = true)
    ∧ (∀ p : List Byte, s.bde.waiting = some p →
        s.bde.pass.isSome = true ∧ s.lif.link = .working { req := .bindWrite, params := p })

/-- A load is in flight in QUIESCED alone (R186). -/
abbrev LoadsQuiesced (s : State) : Prop := s.mdc.op = .load → s.mdc.mode = .quiesced

/-! ### Owners (R5) -/

/-- A binding's claim link and the claim's origin name each other (R5, R119). -/
abbrev LinksAgree (s : State) : Prop :=
  (∀ b : BindIx, ∀ h : Handle, (s.bde.recs.get b).link = .claim h →
      (s.clt.slots.get h.slot).gen = h.gen ∧ (claimAt s h.slot).map (·.origin) = some (.binding b))
    ∧ (∀ i : SlotIx, ∀ b : BindIx, (claimAt s i).map (·.origin) = some (.binding b) →
        (s.bde.recs.get b).link = .claim (handleAt s i))

/-- The link holds at most one live claim per circuit (R5). -/
abbrev OneLinkClaim (s : State) : Prop :=
  ∀ i j : SlotIx, (claimAt s i).map (·.origin) = some .link → (claimAt s j).map (·.origin) = some .link →
    (claimAt s i).map (·.circuit) = (claimAt s j).map (·.circuit) → i = j

/-! ### Levels (R2) -/

/-- A claim's levels stand in the order of R2 within a maximum level. -/
def Claim.levelsInOrder (maxLevel : Nat) (c : Claim) : Bool :=
  decide (1 ≤ c.floor) && decide (c.floor ≤ c.requested) && decide (c.requested ≤ maxLevel)
    && (match c.state with
        | .granted l => decide (c.floor ≤ l) && decide (l ≤ c.requested)
        | .held _ => true)
    && (match c.mode with
        | .flash => decide (c.requested = maxLevel) && decide (c.floor = maxLevel)
        | .steady => true)

/-- Every live claim's levels stand in order (R2), over circuits whose maximum levels, in force and pending, are 1–15
(R51). -/
abbrev LevelsInOrder (s : State) : Prop :=
  (∀ c : Circ, 1 ≤ maxLevelOf s c ∧ maxLevelOf s c ≤ 15)
    ∧ (∀ c : Circ, (s.crs.pendingEntry.get c).all fun e => decide (1 ≤ e.maxLevel) && decide (e.maxLevel ≤ 15))
    ∧ ∀ i : SlotIx, ((claimAt s i).map fun c => c.levelsInOrder (maxLevelOf s c.circuit)).getD true = true

/-- Every live claim's share_full is at most 250 dA (R1). -/
abbrev SharesInRange (s : State) : Prop := ∀ i : SlotIx, (claimAt s i).all fun c => decide (c.shareFull ≤ 250)

/-- The records of the live claims are as R1, R2 and R32 have them; no claim is live in LOADING (R24), where a circuit
table comes into force. -/
abbrev ClaimsSound (s : State) : Prop :=
  LevelsInOrder s ∧ SharesInRange s ∧ SettlesInRange s ∧ (s.mdc.mode = .loading → noClaims s.clt = true)

/-- The channels are as R88 and R98 have them. -/
abbrev ChannelsSound (s : State) : Prop := LockedAtThree s ∧ DrivenInRun s

/-- The owners of the claims are as R5 has them; no claim is live in LOADING (R24), where the bindings are replaced. -/
abbrev OwnersSound (s : State) : Prop :=
  LinksAgree s ∧ OneLinkClaim s ∧ (s.mdc.mode = .loading → noClaims s.clt = true)

/-! ### The configuration (R51, R68, R83, R112, R117, R136) -/

/-- A profile within the bounds of R83 for its channel, with the fields its kind does not use at 0 or absent. -/
def Profile.sound (ch : Chan) (p : Profile) : Bool :=
  decide (p.nominal ≤ Config.rating ch) && decide (10 ≤ p.trip) && decide (p.trip ≤ Config.rating ch)
    && decide (p.openLoad ≤ p.trip)
    && match p.kind with
      | .unused | .led => p.inrush == 0 && p.minDuty == 0 && p.stall == 0 && p.source.isNone
      | .filament => decide (p.inrush ≤ 250) && p.minDuty == 0 && p.stall == 0 && p.source.isNone
      | .motor => decide (16 ≤ ch.val) && p.inrush == 0 && decide (p.minDuty ≤ 900)
          && decide (p.stall ≤ Config.rating ch) && p.source.isNone
      | .telltale => p.inrush == 0 && p.minDuty == 0 && p.stall == 0
          && (match p.source with
            | some (.gaugeHigh _ t) => decide (1 ≤ t) && decide (t ≤ 1000)
            | some (.circuit _) | some .flash | some .charge | some .openLoad => true
            | none => false)

/-- A circuit entry within the bounds of R51. -/
def CircuitEntry.sound (e : CircuitEntry) : Bool :=
  decide (e.channels.length ≤ 4) && decide e.channels.Nodup && decide (1 ≤ e.maxLevel) && decide (e.maxLevel ≤ 15)

/-- A group definition within the bounds of R112. -/
def GroupDef.sound (d : GroupDef) : Bool :=
  decide (d.first ≤ 23) && decide (1 ≤ d.width) && decide (d.width ≤ 4) && decide (d.first + d.width ≤ 24)
    && decide (2 ≤ d.debounce) && decide (d.debounce ≤ 16)

/-- An action within the bounds of R117, its floor at most its level (R132). -/
def Action.sound (a : Action) : Bool :=
  decide (1 ≤ a.level) && decide (a.level ≤ 15) && a.floor.all (fun f => decide (1 ≤ f) && decide (f ≤ a.level))
    && a.share.all (fun x => decide (x ≤ 250)) && decide (a.offDelay ≤ 14400)

/-- A binding entry within the bounds of R117. -/
def BindEntry.sound : BindEntry → Bool
  | .test _ _ (some a) => a.sound
  | .test _ _ none | .unused | .gate _ | .gateEnd => true

/-- Gauge settings within the bounds of R136. -/
def GaugeSettings.sound (g : GaugeSettings) : Bool :=
  decide (2 ≤ g.points.length) && decide (g.points.length ≤ 8) && increasing (g.points.map (·.1))
    && g.points.all (fun p => decide (p.1 ≤ 9999) && decide (p.2 ≤ 1000))
    && decide (1 ≤ g.k) && decide (g.k ≤ 256) && decide (800 ≤ g.vstab) && decide (g.vstab ≤ 1200)

/-- A configuration whose every record is within its bounds. -/
abbrev Configuration.Sound (c : Configuration) : Prop :=
  (∀ ch, (c.profiles.get ch).sound ch = true) ∧ (∀ i, (c.circuits.get i).sound = true)
    ∧ (∀ i, (c.groups.get i).sound = true) ∧ (∀ b, (c.bindings.get b).sound = true)
    ∧ (∀ g, (c.gauges.get g).sound = true) ∧ 60 ≤ c.rate ∧ c.rate ≤ 120

/-- The configuration in force, and the one a save would write, are within their bounds. -/
abbrev ConfigurationSound (s : State) : Prop :=
  (currentConfiguration s).Sound ∧ ∀ c : Circ, (s.crs.inForce.get c).sound = true

/-! ### The words of the statements -/

/-- The command of a request with its parameters. -/
def Req.command (p : List Byte) : Req → Instr
  | .claimRaise => .claimRaise p | .claimAlter => .claimAlter p | .claimRetire => .claimRetire p
  | .claimLookup => .claimLookup p | .claimScan => .claimScan p | .supplyRead => .supplyRead p
  | .holdSet => .holdSet p | .circuitRead => .circuitRead p | .circuitWrite => .circuitWrite p
  | .flasherRead => .flasherRead p | .flasherSet => .flasherSet p | .channelRead => .channelRead p
  | .channelRestore => .channelRestore p | .profileRead => .profileRead p | .profileWrite => .profileWrite p
  | .groupRead => .groupRead p | .groupWrite => .groupWrite p | .bindRead => .bindRead p | .bindWrite => .bindWrite p
  | .gaugeRead => .gaugeRead p | .gaugeSet => .gaugeSet p | .statusRead => .statusRead p
  | .statusClear => .statusClear p | .enableRead => .enableRead p | .enableSet => .enableSet p
  | .enableClear => .enableClear p | .pendingRead => .pendingRead p | .deviceRead => .deviceRead p
  | .quiesce => .quiesce p | .resume => .resume p | .storeSave => .storeSave p | .storeLoad => .storeLoad p

/-- A part that is not held in reset (R179). -/
abbrev Awake (s : State) : Prop := s.mdc.heldInReset = false

/-- A request stands in work at the link of a part not held in reset. -/
abbrev Handed (r : Req) (p : List Byte) (s : State) : Prop :=
  Awake s ∧ s.lif.link = .working { req := r, params := p }

/-- The next state of an event whose effect gives `t`: there the sleep entry timer stands by its conditions (R187). -/
def after (t : State) : Host.Outcome State Fault Refusal := .next (settleTimer t)

/-- The next state of a request whose effect gives `t` and whose owner answers with this reply. -/
def replied (code : ReplyCode) (fields : List Byte) (t : State) : Host.Outcome State Fault Refusal :=
  after { t with lif := { t.lif with link := .replyReady { code := code, fields := fields } } }

/-- The outputs, and the results of resolution that they follow, are all that may differ between two states: everything
but the resolved states, the flash-present indication, the flash set, the Flasher and the channels is the same. -/
abbrev OutputsAside (s t : State) : Prop :=
  t.clt = s.clt ∧ t.sbu = s.sbu ∧ t.crs.inForce = s.crs.inForce ∧ t.crs.pendingEntry = s.crs.pendingEntry
    ∧ t.sws = s.sws ∧ t.bde = s.bde ∧ t.gau = s.gau ∧ t.lif = s.lif ∧ t.mdc = s.mdc ∧ t.pins = s.pins
    ∧ t.store = s.store ∧ t.freeCount = s.freeCount ∧ t.pending = s.pending

/-- The gauges at an entry to RUN, with IGN accepted at 1 or not: the entry sample of its sender is each one's only
sample, and with the ignition on an OFF gauge is ACTIVE from rest; they stand otherwise (R138, R148, R149). -/
abbrev GaugesEnter (on : Bool) (s t : State) : Prop :=
  ∀ g : GaugeIx, let x : Gauge := { s.gau.get g with samples := [(s.pins.senders.get g).toNat] }
    t.gau.get g = if on = true ∧ x.state = .off then
        { x with state := .active, target := 0, lastGood := 0, filtered := 0, duty := 0, undervolt := false }
      else x

/-- The budget at an entry to RUN from LOADING or SLEEP, the crank aside: the entry sample is its only sample and gives
the filtered values, Ibat_f being 0 (R25, R26). -/
abbrev SupplyEnters (s t : State) : Prop :=
  let vbat := min 2000 s.pins.supply.vbat
  let vgen := min 2000 s.pins.supply.vgen
  t.sbu = { s.sbu with
    samples := [{ vbat := vbat, vgen := vgen, ibat := max (-800) (min 800 s.pins.supply.ibat) }]
    vbatF := vbat, vgenF := vgen, ibatF := 0, crank := t.sbu.crank }

/-- A Flasher with the time that a channel has counted in ON toward its bulb check discarded, if its entry is PENDING
(R75). -/
def Flasher.uncounted (ch : Chan) (f : Flasher) : Flasher :=
  match f.phase with
  | .lit rate n checks =>
    match checks.get ch with
    | some (.pending joined _) => { f with phase := .lit rate n (put checks ch (some (.pending joined 0))) }
    | some .pass | some .fail | some .unjudged | none => f
  | .dark _ _ | .idle => f

/-- Nothing but the record of one channel changes, and at most the time that it has counted in ON toward its bulb check
starts anew (R75). -/
abbrev OneChannel (s t : State) (ch : Chan) (x : Channel) : Prop :=
  t.chd.get ch = x ∧ (∀ k, k ≠ ch → t.chd.get k = s.chd.get k) ∧ t = { s with chd := t.chd, fls := t.fls }
    ∧ (t.fls = s.fls ∨ t.fls = s.fls.uncounted ch)

/-- The record of a claim that admission has placed (R34): GRANTED at the level admission gives, with a settle part of the
share of that level, or HELD with the reasons admission gives. -/
def Claim.placed (s : State) (c : Claim) : Claim :=
  match admissionOf s c with
  | .grant l => { c with state := .granted l, settle := addSettle (claimShare s c l) c.settle }
  | .hold r => { c with state := .held r, settle := none }

/-- The live claims in a slot are those of two tables but for one slot, which holds this record in `t`; every slot's
generation is the same. -/
abbrev OneRecord (s t : State) (i : SlotIx) (c : Claim) : Prop :=
  claimAt t i = some c ∧ (∀ j : SlotIx, j ≠ i → claimAt t j = claimAt s j)
    ∧ ∀ j : SlotIx, (t.clt.slots.get j).gen = (s.clt.slots.get j).gen

/-- A slot joins the tail of the grant order list, out of whichever collection it stood in (R6). -/
abbrev JoinsGranted (s t : State) (i : SlotIx) : Prop :=
  t.clt.grantList = s.clt.grantList.filter (· ≠ i) ++ [i] ∧ t.clt.heldQueue = s.clt.heldQueue.filter (· ≠ i)

/-- A slot enters the held queue after the last entry of its class and ahead of every entry of a lower class, out of
whichever collection it stood in (R7). -/
abbrev JoinsHeld (s t : State) (i : SlotIx) : Prop :=
  t.clt.grantList = s.clt.grantList.filter (· ≠ i)
    ∧ ∃ front back : List SlotIx, s.clt.heldQueue.filter (· ≠ i) = front ++ back ∧ t.clt.heldQueue = front ++ i :: back
        ∧ (∀ j ∈ front, slotRank t.clt j ≤ slotRank t.clt i) ∧ ∀ j ∈ back, slotRank t.clt i < slotRank t.clt j

/-- The two collections are the same. -/
abbrev SamePlaces (s t : State) : Prop := t.clt.grantList = s.clt.grantList ∧ t.clt.heldQueue = s.clt.heldQueue

/-- A claim just admitted stands in the collection of its state (R6, R7). -/
abbrev Placed (s t : State) (i : SlotIx) (c : Claim) : Prop :=
  if c.isHeld then JoinsHeld s t i else JoinsGranted s t i

/-- A record of an image is taken as `x`, a value of it clamped or none (R181). -/
abbrev Takes {α : Type} (judged : Judged α) (x : α) : Prop := ∃ clamped, judged = .ok (x, clamped)

/-- What a save of `image` that does not complete makes of the store's content: an unknown format, so that no valid image
stands there, and after it the image's bytes in address order as far as they were written (R185). -/
abbrev HalfSaved (image store store' : List Byte) : Prop :=
  readImage store' = none
    ∧ ∃ n ≤ 1389, store' = 0 :: 0 :: ((image.drop 2).take n ++ store.drop (2 + ((image.drop 2).take n).length))

end Sys2Proof.Machine
end

