-- ==== Sys2Proof/Certificates/Slice0/Obligations.lean ====
section
/-! DEFINITION. The statements for the provers, by chapter of the manual. A statement of what a request does starts from
the request in work at the link of a part not held in reset (`Handed`); `replied code fields t` is the next state in which
the request's effect is `t` and the link holds that reply, `after t` the next state of an event whose effect is `t`. In
both, the sleep entry timer stands by its conditions (R187). -/

open Sys2Proof Sys2Proof.Machine

/-! ### The step and the reset -/

/-- A step carries out the command at the front of the queue on the state with the queue's rest. -/
def Obligations.StepRunsTheFront : Prop :=
  ∀ (c : Instr) (rest : List Instr) (s : State),
    step { s with pending := c :: rest } = exec c { s with pending := rest }

/-- The model's choice (log 4): on an empty queue a millisecond passes, in which only times move: the sleep entry timer,
the ticker pulse, the phase time, the times in ON of PENDING check entries, and the channels' softstart, continuous-ON,
back-off, stall, low and good times. A phase, a verdict, a joined mark, a channel's state and a cycle flag stand. A time
remaining stops at its last millisecond, and an elapsed one at its limit. The stall time counts on a MOTOR channel in ON
that draws its stall threshold (R97), the low and the good time on a channel that steady open-load detection watches, by
the side of the open-load threshold its current is on (R102). A part held in reset stands still. -/
def Obligations.QuietStep : Prop :=
  ∀ s : State, s.pending = [] →
    ∃ t, step s = .next t
      ∧ (s.mdc.heldInReset = true → t = s)
      ∧ t.clt = s.clt ∧ t.sbu = s.sbu ∧ t.crs = s.crs ∧ t.sws = s.sws ∧ t.bde = s.bde ∧ t.gau = s.gau ∧ t.lif = s.lif
      ∧ t.pins = s.pins ∧ t.store = s.store ∧ t.freeCount = s.freeCount ∧ t.pending = []
      ∧ t.mdc = { s.mdc with sleepTimer := t.mdc.sleepTimer }
      ∧ t.fls = { s.fls with phase := t.fls.phase, tickPulse := t.fls.tickPulse }
      ∧ (∀ ch : Chan, t.chd.get ch =
          { s.chd.get ch with
            state := (t.chd.get ch).state, stallTime := (t.chd.get ch).stallTime, lowTime := (t.chd.get ch).lowTime
            goodTime := (t.chd.get ch).goodTime })
      ∧ (Awake s →
          let down (n : Nat) : Nat := if n ≤ 1 then n else n - 1
          let up (limit n : Nat) : Nat := if n < limit then n + 1 else n
          t.mdc.sleepTimer = s.mdc.sleepTimer.map down ∧ t.fls.tickPulse = s.fls.tickPulse.map down
          ∧ (s.fls.phase = .idle → t.fls.phase = .idle)
          ∧ (∀ rate n, s.fls.phase = .dark rate n → t.fls.phase = .dark rate (down n))
          ∧ (∀ rate n checks, s.fls.phase = .lit rate n checks →
              t.fls.phase = .lit rate (down n) (tabulate fun ch => match checks.get ch with
                | some (.pending joined time) =>
                  some (.pending joined (if (s.chd.get ch).state.isOn then up 20 time else time))
                | some .pass => some .pass
                | some .fail => some .fail
                | some .unjudged => some .unjudged
                | none => none))
          ∧ ∀ ch : Chan, let c := s.chd.get ch
              (t.chd.get ch).state = (match c.state with
                | .off => .off
                | .softstart n => .softstart (n.map (up c.profile.inrush))
                | .on n => .on (up 10000 n)
                | .tripped n => .tripped (down n)
                | .locked cycle => .locked cycle)
              ∧ let reading := min 400 (c.samples.sum / c.samples.length)
                let stalls := c.profile.kind = .motor ∧ c.state.isOn = true ∧ 0 < c.profile.stall
                  ∧ c.profile.stall ≤ reading
                let watches := s.mdc.mode = .run ∧ c.state.isOn = true ∧ c.demand = 1000
                  ∧ s.crs.flashSet.get ch = false
                (t.chd.get ch).stallTime = (if stalls then up 1000 c.stallTime else c.stallTime)
                  ∧ (t.chd.get ch).lowTime
                      = (if watches ∧ reading < c.profile.openLoad then up 500 c.lowTime else c.lowTime)
                  ∧ (t.chd.get ch).goodTime
                      = (if watches ∧ c.profile.openLoad ≤ reading then up 500 c.goodTime else c.goodTime))

/-- A reset, whatever its cause, leaves every block at its after-reset values and holds the part; a further cause
changes nothing while the part is held, nor does any command but the leaving of reset, at which LOADING begins; the
pins, the store and the queue pass through: the model's reading of 'held' and of what lies outside the part (logs 6 and
14). A reset during a save leaves an unknown format in the store (R24, R50, R53, R113, R119, R156, R162, R178, R179,
R185). -/
def Obligations.ResetAndRelease : Prop :=
  (∀ (cause : ResetCause) (s : State), Awake s →
    ∃ t, exec (.reset cause) s = .next t
      ∧ (∀ i : SlotIx, claimAt t i = none ∧ (t.clt.slots.get i).gen = 0) ∧ t.clt.grantList = [] ∧ t.clt.heldQueue = []
      ∧ t.sbu.samples = [] ∧ t.sbu.band = .normal ∧ t.sbu.charging = .notCharging ∧ t.sbu.deficitRun = 0
      ∧ t.sbu.surplusRun = 0 ∧ t.sbu.crank = .none ∧ t.sbu.hostHold = none ∧ unsettled t = 0
      ∧ (∀ c : Circ, t.crs.resolved.get c = .off ∧ t.crs.pendingEntry.get c = none) ∧ t.crs.flashPresent = false
      ∧ (∀ ch : Chan, t.crs.flashSet.get ch = false)
      ∧ t.fls.phase = .idle ∧ t.fls.fast = false ∧ t.fls.tickPulse = none ∧ (∀ ch : Chan, t.fls.failed.get ch = false)
      ∧ (∀ ch : Chan, let c := t.chd.get ch
          c.state = .off ∧ c.demand = 0 ∧ c.target = 0 ∧ c.applied = 0 ∧ c.ramp = 0 ∧ c.samples = []
            ∧ c.tripCount = 0 ∧ c.lastTrip = none ∧ c.openLoadFlag = false ∧ c.lifetime = 0
            ∧ c.overRun = 0 ∧ c.stallTime = 0 ∧ c.lowTime = 0 ∧ c.goodTime = 0)
      ∧ (∀ g : GroupIx, t.sws.recs.get g = { accepted := none, raw := none, candidate := none, run := 0 })
      ∧ (∀ b : BindIx, t.bde.recs.get b = { link := .none, result := none, verdict := none })
      ∧ t.bde.pass = none ∧ t.bde.passRequested = false ∧ t.bde.waiting = none
      ∧ (∀ g : GaugeIx, let x := t.gau.get g
          x.state = .off ∧ x.samples = [] ∧ x.reading = none ∧ x.target = 0 ∧ x.lastGood = 0 ∧ x.filtered = 0
            ∧ x.duty = 0 ∧ x.applied = 0 ∧ x.undervolt = false)
      ∧ t.lif.link = .idle ∧ t.lif.status = 1 ∧ t.lif.enable = 0
      ∧ t.mdc = { mode := .loading, cause := cause, source := t.mdc.source, op := .none, sleepTimer := none,
                  heldInReset := true }
      ∧ ((∀ image, s.mdc.op ≠ .save image) → t.store = s.store ∧ t.freeCount = s.freeCount)
      ∧ (∀ image, s.mdc.op = .save image → HalfSaved image s.store t.store)
      ∧ t.pins = s.pins ∧ t.pending = s.pending)
    ∧ (∀ (c : Instr) (s : State), s.mdc.heldInReset = true → c ≠ .leaveReset → exec c s = .next s)
    ∧ (∀ s : State, s.mdc.heldInReset = true →
        exec .leaveReset s = .next { s with mdc := { s.mdc with heldInReset := false } })
    ∧ ∀ s : State, Awake s → exec .leaveReset s = .next s

/-- The state after reset meets every property that the statements below show kept. -/
def Obligations.ResetMeetsInvariants : Prop :=
  let s := State.reset
  CollectionsExact s ∧ SafetyGranted s ∧ ClaimsSound s ∧ OwnersSound s ∧ ChannelsSound s ∧ HeatersSafe s
    ∧ FlasherFollows s ∧ TimerFollows s ∧ SleepQuiet s ∧ LoadsQuiesced s ∧ DemandsFollow s ∧ ResolutionFollows s
    ∧ PassesSound s ∧ ConfigurationSound s ∧ DrivesFollow s

/-! ### Link and status (08_link_status_and_formats.md) -/

/-- STATUS.READ, ENABLE.READ and PENDING.READ return their sets and change nothing (R163, R165, R168). STATUS.CLEAR
takes the named flags from the status set and returns those it took and those that stand; ENABLE.SET adds the named
flags to the enable set, ENABLE.CLEAR removes them, and both return the set; positions beyond the seventeen flags count
for nothing (R164, R166, R167). Other parameters are refused BAD_REQUEST. ATTN is low while a flag stands in both sets
(R162). -/
def Obligations.StatusRequests : Prop :=
  (∀ s : State,
     (Handed .statusRead [] s → exec (.statusRead []) s = replied .ok (be24 s.lif.status.toNat) s)
       ∧ (Handed .enableRead [] s → exec (.enableRead []) s = replied .ok (be24 s.lif.enable.toNat) s)
       ∧ (Handed .pendingRead [] s →
           exec (.pendingRead []) s = replied .ok (be24 (s.lif.status &&& s.lif.enable).toNat) s)
       ∧ ∀ r ∈ [Req.statusRead, .enableRead, .pendingRead], ∀ p : List Byte, p ≠ [] → Handed r p s →
           exec (r.command p) s = replied .badRequest [] s)
  ∧ ((∀ (s : State) (b2 b1 b0 : Byte), let named := BitVec.ofNat 17 (b2.toNat * 65536 + b1.toNat * 256 + b0.toNat)
       (Handed .statusClear [b2, b1, b0] s →
         exec (.statusClear [b2, b1, b0]) s
           = replied .ok (be24 (s.lif.status &&& named).toNat ++ be24 (s.lif.status &&& ~~~named).toNat)
               { s with lif := { s.lif with status := s.lif.status &&& ~~~named } })
       ∧ (Handed .enableSet [b2, b1, b0] s →
           exec (.enableSet [b2, b1, b0]) s
             = replied .ok (be24 (s.lif.enable ||| named).toNat)
                 { s with lif := { s.lif with enable := s.lif.enable ||| named } })
       ∧ (Handed .enableClear [b2, b1, b0] s →
           exec (.enableClear [b2, b1, b0]) s
             = replied .ok (be24 (s.lif.enable &&& ~~~named).toNat)
                 { s with lif := { s.lif with enable := s.lif.enable &&& ~~~named } }))
       ∧ (∀ r ∈ [Req.statusClear, .enableSet, .enableClear], ∀ (s : State) (p : List Byte), p.length ≠ 3 → Handed r p s →
           exec (r.command p) s = replied .badRequest [] s)
       ∧ ∀ s : State, attnLow s = true ↔ ∃ f : Flag, hasFlag f s = true ∧ s.lif.enable.getLsbD f.pos = true)

/-- SUPPLY.READ, FLASHER.READ and DEVICE.READ return their fields and change nothing (R49, R80, R189, with the layout of
R172): of the Flasher's sets of channels CHn is bit n, and bits 2n and 2n + 1 of the check entries hold CHn's code of
R171, 0 for a channel not in the check list being the model's choice (log 25). With parameters they are refused
BAD_REQUEST. -/
def Obligations.BlockReads : Prop :=
  (∀ s : State, Handed .supplyRead [] s →
    exec (.supplyRead []) s
      = replied .ok
          (be16 s.sbu.vbatF ++ be16 s.sbu.vgenF ++ signed16 s.sbu.ibatF ++ [s.sbu.band.code, s.sbu.charging.code]
            ++ signed16 (headroom s) ++ be16 (unsettled s)
            ++ [byte s.clt.heldQueue.length, s.sbu.crank.code,
                match s.sbu.crank with | .recovery n => byte n | _ => 0,
                match s.sbu.hostHold with
                | some h => byte ((if h.lighting then 2 else 0) + (if h.comfort then 4 else 0)
                    + (if h.auxiliary then 8 else 0))
                | none => 0,
                match s.sbu.hostHold with | some h => byte h.count | none => 0]) s)
    ∧ (∀ s : State, Handed .deviceRead [] s →
        exec (.deviceRead []) s
          = replied .ok [s.mdc.mode.code, ResetCause.toByte s.mdc.cause, s.mdc.source.code, 1] s)
    ∧ (∀ s : State, Handed .flasherRead [] s →
        ∃ fields : List Byte, exec (.flasherRead []) s = replied .ok fields s ∧ fields.length = 17
          ∧ fields.take 6
              = [s.fls.phase.code] ++ be16 s.fls.phase.remaining
                ++ [byte s.fls.rateSet, byte s.fls.phase.rate, byte ((if s.fls.fast then 1 else 0)
                    + (if s.fls.ticker then 2 else 0))]
          ∧ ∃ failed checked codes : Nat, failed < 2 ^ 20 ∧ checked < 2 ^ 20 ∧ codes < 2 ^ 40
              ∧ fields.drop 6 = be24 failed ++ be24 checked ++ [byte (codes / 2 ^ 32)] ++ be16 (codes / 2 ^ 16) ++ be16 codes
              ∧ ∀ ch : Chan, let entry := s.fls.phase.check ch
                  let code := codes / 2 ^ (2 * ch.val) % 4
                  failed.testBit ch.val = s.fls.failed.get ch ∧ checked.testBit ch.val = entry.isSome
                    ∧ (entry = none → code = 0) ∧ (∀ n, entry = some (.pending false n) → code = 0)
                    ∧ (entry = some .pass → code = 1) ∧ (entry = some .fail → code = 2)
                    ∧ ∀ n, entry = some (.pending true n) → code = 3)
    ∧ ∀ r ∈ [Req.supplyRead, .flasherRead, .deviceRead], ∀ (s : State) (p : List Byte), p ≠ [] → Handed r p s →
        exec (r.command p) s = replied .badRequest [] s

/-- A request frame at an IDLE link (R156): in LOADING it is answered NOT_READY; a malformed one is answered
BAD_REQUEST; another is handed to its owner, the link WORKING. At another link it is dropped with OVERRUN, in every mode
(R158). The part shifts out the link state byte, the link state in bits 0 and 1 and bit 7 while the pending set is not
empty (R155, R170), and zeros, and a running sleep entry timer is set back (R187). A fetch frame of `n` bytes (R157):
REPLY_READY gives the reply frame and, when the frame had two bytes, becomes IDLE; WORKING gives NOT_YET and length 0;
IDLE gives EMPTY and length 0; zeros follow. It wakes nothing. A frame in which no byte is shifted has no effect
(R155). -/
def Obligations.LinkFrames : Prop :=
  (∀ s : State, linkByte s
     = byte ((match s.lif.link with | .idle => 0 | .working _ => 1 | .replyReady _ => 2)
         + if s.lif.status &&& s.lif.enable = 0 then 0 else 128))
  ∧ (∀ s : State, Awake s → exec (.requestFrame []) s = after s ∧ exec (.fetchFrame 0) s = after s)
  ∧ (∀ (b : Byte) (bytes : List Byte) (s : State), b ≠ 255 → Awake s → s.lif.link = .idle → s.mdc.mode ≠ .sleep →
     ∃ link, exec (.requestFrame (b :: bytes)) s
         = after { s with
             lif := { s.lif with link := link, dataOut := linkByte s :: List.replicate bytes.length 0 }
             mdc := { s.mdc with sleepTimer := s.mdc.sleepTimer.map fun _ => 30000 } }
       ∧ (s.mdc.mode = .loading → link = .replyReady { code := .notReady, fields := [] })
       ∧ (s.mdc.mode ≠ .loading →
           (bytes = [] → link = .replyReady { code := .badRequest, fields := [] })
           ∧ ∀ (n : Byte) (params : List Byte), bytes = n :: params →
               ((30 < n.toNat ∨ params.length ≠ n.toNat ∨ ∀ r : Req, r.code ≠ b) →
                 link = .replyReady { code := .badRequest, fields := [] })
               ∧ ∀ r : Req, r.code = b → params.length = n.toNat → n.toNat ≤ 30 →
                   link = .working { req := r, params := params }))
  ∧ (∀ (b : Byte) (bytes : List Byte) (s : State), b ≠ 255 → Awake s → s.lif.link ≠ .idle → s.mdc.mode ≠ .sleep →
       exec (.requestFrame (b :: bytes)) s
         = after { s with
             lif := { s.lif with
               status := s.lif.status ||| 0x10000, dataOut := linkByte s :: List.replicate bytes.length 0 }
             mdc := { s.mdc with sleepTimer := s.mdc.sleepTimer.map fun _ => 30000 } })
  ∧ (∀ (n : Nat) (s : State), Awake s →
       ∃ tail : List Byte, ∃ link : Link,
         exec (.fetchFrame (n + 1)) s
           = after { s with lif := { s.lif with link := link, dataOut := linkByte s :: tail } }
         ∧ tail.length = n
         ∧ (∀ reply, s.lif.link = .replyReady reply →
             tail = (reply.code.code :: byte reply.fields.length :: reply.fields ++ List.replicate n 0).take n
               ∧ link = if n = 0 then .replyReady reply else .idle)
         ∧ (∀ r, s.lif.link = .working r → tail = (240 :: List.replicate n 0).take n ∧ link = .working r)
         ∧ (s.lif.link = .idle → tail = (241 :: List.replicate n 0).take n ∧ link = .idle))

/-- A request frame taken in SLEEP wakes the part first, to RUN with status WAKE, and is then taken as in IDLE in RUN
(R159, R188): a well-formed one stands in work at the link, a malformed one is answered BAD_REQUEST. The supply and the
gauges take their entry samples, and with IGN accepted at 1 every OFF gauge is ACTIVE from rest (R25, R26, R138, R149).
The entry samples are of the values the inputs last presented: the model's choice (log 12). A crank begins at the entry
to RUN, with CRANK, when START stands accepted at 1 (R45). -/
def Obligations.RequestWakes : Prop :=
  ∀ (b : Byte) (bytes : List Byte) (s : State), b ≠ 255 → Awake s → s.mdc.mode = .sleep → s.lif.link = .idle →
    noClaims s.clt = true →
    ∃ t, exec (.requestFrame (b :: bytes)) s = after t ∧ t.mdc.mode = .run ∧ hasFlag .wake t = true
      ∧ t.clt.slots = s.clt.slots
      ∧ t.sbu.samples = [{ vbat := min 2000 s.pins.supply.vbat, vgen := min 2000 s.pins.supply.vgen
                           ibat := max (-800) (min 800 s.pins.supply.ibat) }]
      ∧ t.sbu.vbatF = min 2000 s.pins.supply.vbat ∧ t.sbu.vgenF = min 2000 s.pins.supply.vgen ∧ t.sbu.ibatF = 0
      ∧ SupplyEnters s t ∧ GaugesEnter (decide (acceptedCode s ign = some 1)) s t
      ∧ (acceptedCode s start = some 1 → t.sbu.crank = .cranking ∧ (s.sbu.crank ≠ .cranking → hasFlag .crank t = true))
      ∧ (acceptedCode s start ≠ some 1 → t.sbu.crank = s.sbu.crank)
      ∧ (∀ r params, bytes = byte params.length :: params → b = Req.code r → params.length ≤ 30 →
          t.lif.link = .working { req := r, params := params })
      ∧ ((∀ r params, params.length ≤ 30 → b :: bytes ≠ frameOf r params) →
          t.lif.link = .replyReady { code := .badRequest, fields := [] })

/-- The model's choice (log 1): a request's row, given to a part whose link is IDLE, is the frame that carries it
together with the owner's answer. At an IDLE link in LOADING it is answered NOT_READY, and at a link that holds another
request or a reply it is dropped with OVERRUN. -/
def Obligations.RowIsWholeTransaction : Prop :=
  ∀ (r : Req) (p : List Byte) (s : State), Awake s → p.length ≤ 30 →
    (s.lif.link = .idle → s.mdc.mode ≠ .loading →
      Handed r p (takeFrame (frameOf r p) s)
        ∧ exec (r.command p) s = exec (r.command p) (takeFrame (frameOf r p) s))
    ∧ (s.lif.link = .idle → s.mdc.mode = .loading →
        exec (r.command p) s = exec (.requestFrame (frameOf r p)) s)
    ∧ (s.lif.link ≠ .idle → s.lif.link ≠ .working { req := r, params := p } →
        exec (r.command p) s = exec (.requestFrame (frameOf r p)) s)

/-- A refused request changes no state but the link's, and its reply has length 0, except that DUPLICATE carries a
handle (R160); the other replies have the lengths of R172. Parameters whose number does not fit the request are refused
BAD_REQUEST, after the checks of mode and of an image operation and before those of index (R160, R172); that a QUIESCE
with parameters is so refused before its ignition check is the model's choice (log 35). -/
def Obligations.RepliesHoldTheirForm : Prop :=
  (∀ (r : Req) (p : List Byte) (s t : State) (reply : Reply), Handed r p s → exec (r.command p) s = .next t →
     t.lif.link = .replyReady reply → 128 ≤ reply.code.code.toNat →
     exec (r.command p) s = replied reply.code reply.fields s
       ∧ (reply.code ≠ .duplicate → reply.fields = []) ∧ (reply.code = .duplicate → reply.fields.length = 2))
  ∧ (∀ (r : Req) (p : List Byte) (s t : State) (reply : Reply), Handed r p s → exec (r.command p) s = .next t →
       t.lif.link = .replyReady reply → reply.code.code.toNat < 128 →
       let n := reply.fields.length
       n ≤ 30 ∧ match r with
         | .claimRaise | .claimAlter => n = 7
         | .claimRetire => n = 2
         | .claimLookup | .supplyRead | .flasherRead => n = 17
         | .claimScan => ∃ k, k ≤ 14 ∧ n = 2 + 2 * k
         | .holdSet | .flasherSet | .statusRead | .enableRead | .enableSet | .enableClear | .pendingRead => n = 3
         | .circuitRead => n = 28 ∨ n = 8
         | .circuitWrite => n = 7
         | .channelRead => n = 19
         | .channelRestore | .quiesce => n = 1
         | .profileRead => n = 13
         | .profileWrite | .groupRead => n = 12
         | .groupWrite | .deviceRead => n = 4
         | .bindRead => n = 18
         | .bindWrite => n = 16
         | .gaugeRead => n = 21 ∨ n = 29
         | .gaugeSet => n = 29
         | .statusClear => n = 6
         | .resume => n = 2
         | .storeSave | .storeLoad => n = 0)
  ∧ ∀ (r : Req) (p : List Byte) (s : State), Handed r p s →
      let ready : Prop := match r with
        | .claimRaise | .claimAlter | .holdSet => s.mdc.mode = .run
        | .quiesce => s.mdc.mode = .run ∧ ∀ image, s.mdc.op ≠ .save image
        | .gaugeSet => s.mdc.mode = .run ∧ s.mdc.op = .none
        | .circuitWrite | .profileWrite | .groupWrite | .storeLoad => s.mdc.mode = .quiesced ∧ s.mdc.op = .none
        | .resume => s.mdc.mode = .quiesced ∧ s.mdc.op ≠ .load
        | .flasherSet | .storeSave => s.mdc.op = .none
        | .bindWrite => s.mdc.op = .none ∧ s.bde.pass = none
        | .claimRetire | .claimLookup | .claimScan | .supplyRead | .circuitRead | .flasherRead | .channelRead
        | .channelRestore | .profileRead | .groupRead | .bindRead | .gaugeRead | .statusRead | .statusClear | .enableRead
        | .enableSet | .enableClear | .pendingRead | .deviceRead => True
      let fits : Prop := match r with
        | .claimRaise => p.length = 9
        | .claimAlter => p.length = 8
        | .claimRetire | .claimLookup | .claimScan | .holdSet | .circuitRead | .flasherSet | .channelRead | .gaugeRead =>
          p.length = 2
        | .statusClear | .enableSet | .enableClear => p.length = 3
        | .channelRestore | .profileRead | .groupRead | .bindRead => p.length = 1
        | .profileWrite => p.length = 13
        | .groupWrite => p.length = 5
        | .bindWrite => p.length = 15
        | .circuitWrite => ∃ (c m n : Byte) (channels : List Byte), p = c :: m :: n :: channels
            ∧ (4 < n.toNat ∨ channels.length = n.toNat)
        | .gaugeSet => ∃ (g n : Byte) (rest : List Byte), p = g :: n :: rest
            ∧ (n.toNat < 2 ∨ 8 < n.toNat ∨ rest.length = 3 * n.toNat + 4)
        | .supplyRead | .flasherRead | .statusRead | .enableRead | .pendingRead | .deviceRead | .quiesce | .resume
        | .storeSave | .storeLoad => p = []
      ready → ¬fits → exec (r.command p) s = replied .badRequest [] s

/-! ### Load claims (01_load_claims.md) -/

/-- The steady share is the ceiling of share_full × l ÷ maximum level, the flash share the ceiling of share_full ÷ 2,
and shares run from 0 to share_full, which is at most 250 (R31, R1). A share granted brings a settle part of that share
with 4 evaluations remaining; to one already carried it is added, to at most 250 dA, with the count at 4 again; a share
of 0 brings none (R32). The headroom is Ibat_f plus the band's allowance minus the settle parts' sum (R33, R29). -/
def Obligations.SharesAndHeadroom : Prop :=
  (∀ f m l : Nat, 0 < m → l ≤ m →
    f * l ≤ steadyShare f m l * m ∧ steadyShare f m l * m < f * l + m ∧ steadyShare f m l ≤ f
      ∧ steadyShare f m 0 = 0 ∧ steadyShare f m m = f)
    ∧ (∀ f : Nat, f ≤ 2 * flashShare f ∧ 2 * flashShare f ≤ f + 1)
    ∧ (∀ (s : State) (c : Claim) (l : Nat), let m := (s.crs.inForce.get c.circuit).maxLevel
        (c.mode = .steady → claimShare s c l = steadyShare c.shareFull m l)
          ∧ (c.mode = .flash → claimShare s c l = flashShare c.shareFull)
          ∧ (c.shareFull ≤ 250 → 0 < m → l ≤ m → claimShare s c l ≤ 250))
    ∧ (∀ (added : Nat) (carried : Option SettlePart), addSettle added carried = match added, carried with
        | 0, q => q
        | n + 1, none => some { share := n + 1, left := 4 }
        | n + 1, some q => some { share := min 250 (q.share + (n + 1)), left := 4 })
    ∧ ∀ s : State,
        headroom s
            = s.sbu.ibatF + (match s.sbu.band with | .normal => 40 | .low => 0 | .critical => -10)
              - ((∑ i : SlotIx, match (claimAt s i).bind (·.settle) with | some p => p.share | none => 0 : Nat) : Int)

/-- The handle checks of CLAIM.ALTER, CLAIM.RETIRE and CLAIM.LOOKUP, in their order, with the owner check of the first
two (R4). CLAIM.ALTER is refused WRONG_MODE outside RUN, and BAD_REQUEST for an undefined mode given (R16, R18).
CLAIM.RAISE is taken in RUN and refused in this order: WRONG_MODE, BAD_REQUEST for a length other than nine or an
undefined mode or class, BAD_INDEX, BAD_CIRCUIT, DUPLICATE with the live claim's handle, TABLE_FULL (R16, R17). The
model's choices: undefined bits of the flags and changes bytes are ignored (log 22), and a mode byte that the changes
byte does not select is not read (log 23). -/
def Obligations.ClaimRequestChecks : Prop :=
  (∀ (r : Req) (s : State) (h1 h0 : Byte) (rest : List Byte), let p := h1 :: h0 :: rest
     Handed r p s →
     (r = .claimRetire ∧ rest = [] ∨ r = .claimLookup ∧ rest = []
       ∨ r = .claimAlter ∧ s.mdc.mode = .run
         ∧ ∃ changes level floor e1 e0 mode : Byte, rest = [changes, level, floor, e1, e0, mode]
           ∧ (changes.getLsbD 3 = true → mode.toNat ≤ 1)) →
     let n := h1.toNat * 256 + h0.toNat
     (511 < n → exec (r.command p) s = replied .badIndex [] s)
       ∧ ∀ i : SlotIx, n / 16 = i.val →
           (claimAt s i = none → exec (r.command p) s = replied .noSuchClaim [] s)
           ∧ ∀ c, claimAt s i = some c →
               (n % 16 ≠ (s.clt.slots.get i).gen.val → exec (r.command p) s = replied .staleHandle [] s)
               ∧ (n % 16 = (s.clt.slots.get i).gen.val →
                   (r ≠ .claimLookup → c.origin ≠ .link → exec (r.command p) s = replied .notOwner [] s)
                   ∧ (r = .claimLookup ∨ c.origin = .link →
                       ∃ code fields t, exec (r.command p) s = replied code fields t ∧ code.code.toNat < 128)))
  ∧ (∀ (p : List Byte) (s : State), Handed .claimAlter p s →
       (s.mdc.mode ≠ .run → exec (.claimAlter p) s = replied .wrongMode [] s)
       ∧ ∀ h1 h0 changes level floor e1 e0 mode : Byte, p = [h1, h0, changes, level, floor, e1, e0, mode] →
           s.mdc.mode = .run → changes.getLsbD 3 = true → 1 < mode.toNat →
           exec (.claimAlter p) s = replied .badRequest [] s)
  ∧ (∀ (p : List Byte) (s : State), Handed .claimRaise p s →
       (s.mdc.mode ≠ .run → exec (.claimRaise p) s = replied .wrongMode [] s)
       ∧ (s.mdc.mode = .run →
           (p.length ≠ 9 → exec (.claimRaise p) s = replied .badRequest [] s)
           ∧ ∀ circuit mode cls level floor flags share e1 e0 : Byte,
               p = [circuit, mode, cls, level, floor, flags, share, e1, e0] →
               (1 < mode.toNat ∨ 3 < cls.toNat → exec (.claimRaise p) s = replied .badRequest [] s)
               ∧ (mode.toNat ≤ 1 → cls.toNat ≤ 3 →
                   (15 < circuit.toNat → exec (.claimRaise p) s = replied .badIndex [] s)
                   ∧ ∀ c : Circ, circuit.toNat = c.val →
                       ((s.crs.inForce.get c).channels = [] → exec (.claimRaise p) s = replied .badCircuit [] s)
                       ∧ ((s.crs.inForce.get c).channels ≠ [] →
                           (∀ i cl, OneLinkClaim s → claimAt s i = some cl → cl.circuit = c → cl.origin = .link →
                             exec (.claimRaise p) s = replied .duplicate (be16 (handleAt s i).toNat) s)
                           ∧ ((∀ i cl, claimAt s i = some cl → ¬(cl.circuit = c ∧ cl.origin = .link)) →
                               (∀ i, (claimAt s i).isSome = true) →
                               exec (.claimRaise p) s = replied .tableFull [] s)))))

/-- CLAIM.RAISE that passes its checks takes the lowest-numbered free slot, fills the record as R9 gives, with the
clamps of R17, puts it to admission and answers with the claim outcome (R16); the claim stands in the collection of its
state (R6, R7), no status flag is set, and beside the claim table only the outputs move. The model's choices: undefined
bits of the flags byte are ignored (log 22), and a GRANTED claim's hold reasons read 0 in the outcome (log 25). -/
def Obligations.RaiseFillsRecord : Prop :=
  ∀ (c : Circ) (m : ClaimMode) (k : ClaimClass) (level floor flags share e1 e0 : Byte) (s : State) (i : SlotIx),
    let p := [byte c.val, m.code, k.code, level, floor, flags, share, e1, e0]
    let max := maxLevelOf s c
    let expiry := e1.toNat * 256 + e0.toNat
    let req := if m = .flash then max else if level.toNat = 0 then 1 else min max level.toNat
    let asked : Claim :=
      { origin := .link, circuit := c, mode := m, cls := k, requested := req
        floor := if m = .flash then max else if floor = 0 then req else min req floor.toNat
        shareFull := if flags.getLsbD 0 then min 250 share.toNat
          else min 250 ((s.crs.inForce.get c).channels.map fun ch => (s.chd.get ch).profile.nominal).sum
        source := if flags.getLsbD 0 then .given else .circuit
        state := .held { budgetTimer := none, crank := false, host := false }
        expiry := if expiry = 0 then none else some (min 14400 expiry), settle := none }
    let cl := asked.placed s
    let clamped : Bool :=
      (m = .steady && (decide (level.toNat = 0) || decide (max < level.toNat) || decide (req < floor.toNat)))
        || (flags.getLsbD 0 && decide (250 < share.toNat)) || decide (14400 < expiry)
    Handed .claimRaise p s → s.mdc.mode = .run → (s.crs.inForce.get c).channels ≠ [] → 1 ≤ max → CollectionsExact s →
    (∀ j x, claimAt s j = some x → ¬(x.circuit = c ∧ x.origin = .link)) →
    claimAt s i = none → (∀ j, j < i → (claimAt s j).isSome = true) →
    ∃ u t, exec (.claimRaise p) s
        = replied (if clamped then .clamped else if cl.isHeld then .held
            else if cl.granted < req then .degraded else .granted)
          (be16 (i.val * 16 + (s.clt.slots.get i).gen.val) ++ [boolByte cl.isHeld, byte cl.requested, byte cl.floor,
            byte cl.granted, match cl.state with | .held r => r.code | .granted _ => 0]) t
      ∧ u = { s with clt := u.clt } ∧ OneRecord s u i cl ∧ Placed s u i cl ∧ OutputsAside u t

/-- Admission (R34, R35, R36): a class that meets a crank, its recovery or a host hold is HELD with those reasons;
SAFETY is GRANTED in full; a FLASH claim is GRANTED when its flash share is at most the headroom; a STEADY claim is
GRANTED at the highest level from floor to requested whose share is at most the headroom; and otherwise the claim is
HELD with BUDGET_TIMER and a hold timer of 8. -/
def Obligations.AdmissionRules : Prop :=
  ∀ (s : State) (c : Claim),
    let crank := decide (s.sbu.crank ≠ .none) && (c.cls = .comfort || c.cls = .auxiliary)
    let host := match s.sbu.hostHold with
      | some h => c.cls = .lighting && h.lighting || c.cls = .comfort && h.comfort || c.cls = .auxiliary && h.auxiliary
      | none => false
    let room := headroom s
    ((crank || host) = true → admissionOf s c = .hold { budgetTimer := none, crank := crank, host := host })
    ∧ ((crank || host) = false →
        (c.cls = .safety → admissionOf s c = .grant c.requested)
        ∧ (c.cls ≠ .safety → c.mode = .flash →
            admissionOf s c = if (flashShare c.shareFull : Int) ≤ room then .grant c.requested
              else .hold { budgetTimer := some 8, crank := false, host := false })
        ∧ (c.cls ≠ .safety → c.mode = .steady →
            let share (l : Nat) : Int := steadyShare c.shareFull (maxLevelOf s c.circuit) l
            (∀ l, c.floor ≤ l → l ≤ c.requested → share l ≤ room →
              (∀ l', l < l' → l' ≤ c.requested → room < share l') → admissionOf s c = .grant l)
            ∧ ((∀ l, c.floor ≤ l → l ≤ c.requested → room < share l) →
                admissionOf s c = .hold { budgetTimer := some 8, crank := false, host := false })))

/-- CLAIM.ALTER of a GRANTED STEADY claim whose mode does not change (R18, R19): the requested level and the floor are
set, the granted level follows them down at once and up by the narrower admission of the added share, to the floor when
that alone fits, and the claim is HELD when it is below a floor that does not fit. A lowered floor given alone is stored
and changes nothing else. The expiry is set, replaced or removed. The model's choice (log 23): a level or floor given
brings this alignment even when it equals the one held, and the mode byte is not read unless the changes byte selects
it. Its choices too: undefined bits of the changes byte are ignored (log 22), and a GRANTED claim's hold reasons read 0
in the outcome (log 25). -/
def Obligations.AlterLevels : Prop :=
  ∀ (h1 h0 changes level floor e1 e0 mode : Byte) (s : State) (i : SlotIx) (c : Claim) (g : Nat),
    let p := [h1, h0, changes, level, floor, e1, e0, mode]
    let max := maxLevelOf s c.circuit
    let expiry := e1.toNat * 256 + e0.toNat
    let req := if changes.getLsbD 0 then (if level.toNat = 0 then 1 else min max level.toNat) else c.requested
    let flr := if changes.getLsbD 1 then (if floor.toNat = 0 then 1 else min req floor.toNat) else min c.floor req
    let base : Claim :=
      { c with
        requested := req, floor := flr
        expiry := if changes.getLsbD 2 then (if expiry = 0 then none else some (min 14400 expiry)) else c.expiry }
    let share (l : Nat) : Nat := steadyShare c.shareFull max l
    let fits (added : Nat) : Bool := c.cls = .safety || decide ((added : Int) ≤ headroom s)
    let up := share req - share g
    let toFloor := share flr - share g
    let new : Claim :=
      if !changes.getLsbD 0 && (!changes.getLsbD 1 || decide (flr < c.floor)) then base
      else if req < g then { base with state := .granted req }
      else if req = g then base
      else if fits up then { base with state := .granted req, settle := addSettle up c.settle }
      else if flr ≤ g then base
      else if fits toFloor then { base with state := .granted flr, settle := addSettle toFloor c.settle }
      else { base with state := .held { budgetTimer := some 8, crank := false, host := false }, settle := none }
    let clamped : Bool :=
      (changes.getLsbD 0 && (decide (level.toNat = 0) || decide (max < level.toNat)))
        || (changes.getLsbD 1 && (decide (floor.toNat = 0) || decide (req < floor.toNat)))
        || (changes.getLsbD 2 && decide (14400 < expiry))
    Handed .claimAlter p s → s.mdc.mode = .run → claimAt s i = some c → c.origin = .link → c.mode = .steady →
    c.state = .granted g → (changes.getLsbD 3 = true → mode = 0) → CollectionsExact s → LevelsInOrder s →
    h1.toNat * 256 + h0.toNat = i.val * 16 + (s.clt.slots.get i).gen.val →
    ∃ u t, exec (.claimAlter p) s
        = replied (if clamped then .clamped else if new.isHeld then .held
            else if new.granted < new.requested then .degraded else .granted)
          (claimOutcome (handleAt s i) new) t
      ∧ u = { s with clt := u.clt } ∧ OneRecord s u i new ∧ (if new.isHeld then JoinsHeld s u i else SamePlaces s u)
      ∧ OutputsAside u t

/-- CLAIM.ALTER of the mode (R20), and of a HELD claim (R18): the levels take the values of the new mode; a HELD claim
keeps its state and place; a GRANTED one leaves the grant order list and is put to admission as at a raise, a settle
part it carries being added to. A level or floor given for a claim that is FLASH afterwards is not used. The reply is
CLAMPED when a value used was clamped, and otherwise names the claim's state (R16, R18). The model's choices: undefined
bits of the changes byte are ignored (log 22), a mode byte that it does not select is not read (log 23), and a GRANTED
claim's hold reasons read 0 in the outcome (log 25). -/
def Obligations.AlterModeOrHeld : Prop :=
  ∀ (h1 h0 changes level floor e1 e0 mode : Byte) (s : State) (i : SlotIx) (c : Claim) (m : ClaimMode),
    let p := [h1, h0, changes, level, floor, e1, e0, mode]
    let max := maxLevelOf s c.circuit
    let expiry := e1.toNat * 256 + e0.toNat
    let switched := decide (m ≠ c.mode)
    let req := if m = .flash then (if switched then max else c.requested)
      else if changes.getLsbD 0 then (if level.toNat = 0 then 1 else min max level.toNat)
      else if switched then max else c.requested
    let flr := if m = .flash then (if switched then max else c.floor)
      else if changes.getLsbD 1 then (if floor.toNat = 0 then 1 else min req floor.toNat)
      else if switched then req else min c.floor req
    let base : Claim :=
      { c with
        mode := m, requested := req, floor := flr
        expiry := if changes.getLsbD 2 then (if expiry = 0 then none else some (min 14400 expiry)) else c.expiry }
    let new : Claim := if c.isHeld then base else if switched then base.placed s else base
    let clamped : Bool :=
      (m = .steady && changes.getLsbD 0 && (decide (level.toNat = 0) || decide (max < level.toNat)))
        || (m = .steady && changes.getLsbD 1 && (decide (floor.toNat = 0) || decide (req < floor.toNat)))
        || (changes.getLsbD 2 && decide (14400 < expiry))
    Handed .claimAlter p s → s.mdc.mode = .run → claimAt s i = some c → c.origin = .link →
    (changes.getLsbD 3 = true → mode = m.code) → (changes.getLsbD 3 = false → m = c.mode) →
    (c.isHeld = true ∨ m ≠ c.mode ∨ m = .flash) → CollectionsExact s → LevelsInOrder s →
    h1.toNat * 256 + h0.toNat = i.val * 16 + (s.clt.slots.get i).gen.val →
    ∃ u t, exec (.claimAlter p) s
        = replied (if clamped then .clamped else if new.isHeld then .held
            else if new.granted < new.requested then .degraded else .granted)
          (claimOutcome (handleAt s i) new) t
      ∧ u = { s with clt := u.clt } ∧ OneRecord s u i new
      ∧ (if c.isHeld || !switched then SamePlaces s u else Placed s u i new) ∧ OutputsAside u t

/-- CLAIM.RETIRE of a LINK claim, in RUN and in QUIESCED (R21): the claim leaves its collection with its settle part,
the slot's generation is increased modulo 16 and the slot is free (R3, R12), and the slot-freed notice requests a pass
when a binding is WANTING, which begins at once in RUN with no pass running (R13). No status flag is set. -/
def Obligations.RetireFreesSlot : Prop :=
  ∀ (h1 h0 : Byte) (s : State) (i : SlotIx) (c : Claim), Handed .claimRetire [h1, h0] s → claimAt s i = some c →
    c.origin = .link → h1.toNat * 256 + h0.toNat = i.val * 16 + (s.clt.slots.get i).gen.val →
    (s.mdc.mode = .run → s.bde.passRequested = true → s.bde.pass.isSome = true) →
    ∃ u t, exec (.claimRetire [h1, h0]) s = replied .ok [h1, h0] t ∧ OutputsAside u t
      ∧ u = { s with clt := u.clt, bde := u.bde }
      ∧ claimAt u i = none ∧ (u.clt.slots.get i).gen.val = ((s.clt.slots.get i).gen.val + 1) % 16
      ∧ (∀ j, j ≠ i → u.clt.slots.get j = s.clt.slots.get j)
      ∧ u.clt.grantList = s.clt.grantList.filter (· ≠ i) ∧ u.clt.heldQueue = s.clt.heldQueue.filter (· ≠ i)
      ∧ unsettled u + ((c.settle.map (·.share)).getD 0) = unsettled s
      ∧ let wanted := decide (∃ b : BindIx, (s.bde.recs.get b).link = .wanting)
        if s.mdc.mode = .run ∧ s.bde.pass = none ∧ wanted = true then
          u.bde = { s.bde with passRequested := false, pass := some (freshPass s) }
        else u.bde = { s.bde with passRequested := s.bde.passRequested || wanted }

/-- CLAIM.LOOKUP returns the whole record in the layout of R173, and changes nothing (R22). CLAIM.SCAN returns, in slot
order, the first fourteen handles of the live claims on the circuit named, or of all, from the start slot upward, and
the resume slot; it changes nothing (R23). The model's choice (log 25): a GRANTED claim's absent hold reasons read 0. -/
def Obligations.ClaimReads : Prop :=
  (∀ (h1 h0 : Byte) (s : State) (i : SlotIx) (c : Claim), Handed .claimLookup [h1, h0] s → claimAt s i = some c →
     h1.toNat * 256 + h0.toNat = i.val * 16 + (s.clt.slots.get i).gen.val →
     exec (.claimLookup [h1, h0]) s
       = replied .ok
           ([h1, h0, match c.origin with | .binding b => byte b.val | .link => 64, byte c.circuit.val, c.mode.code,
             c.cls.code, byte c.requested, byte c.floor, byte c.granted, byte c.shareFull,
             byte ((if c.isHeld then 1 else 0) + (if c.source = .circuit then 2 else 0) + (if c.isHeld then 4 else 0)
               + (match c.state with | .held { budgetTimer := some _, .. } => 8 | _ => 0)
               + (if c.expiry.isSome then 16 else 0) + (if c.settle.isSome then 32 else 0)),
             match c.state with | .held r => r.code | .granted _ => 0,
             match c.state with | .held { budgetTimer := some n, .. } => byte n | _ => 0]
           ++ be16 (c.expiry.getD 0)
           ++ [match c.settle with | some q => byte q.share | none => 0,
               match c.settle with | some q => byte q.left | none => 0]) s)
  ∧ (∀ (circuit first : Byte) (s : State), Handed .claimScan [circuit, first] s →
       (15 < circuit.toNat ∧ circuit ≠ 255 ∨ 31 < first.toNat →
         exec (.claimScan [circuit, first]) s = replied .badIndex [] s)
       ∧ (circuit.toNat ≤ 15 ∨ circuit = 255 → first.toNat ≤ 31 →
           let taken := (List.finRange 32).filter fun i : SlotIx => decide (first.toNat ≤ i.val) &&
             match claimAt s i with
             | some c => circuit = 255 || decide (c.circuit.val = circuit.toNat)
             | none => false
           ∃ resume : Nat, exec (.claimScan [circuit, first]) s
               = replied .ok (byte resume :: byte (min 14 taken.length)
                   :: (taken.take 14).flatMap fun i => be16 (i.val * 16 + (s.clt.slots.get i).gen.val)) s
             ∧ (taken.length ≤ 14 → resume = 32)
             ∧ ∀ i, 14 < taken.length → taken[13]? = some i → resume = i.val + 1))
  ∧ ∀ (p : List Byte) (s : State), Handed .claimScan p s → p.length ≠ 2 →
      exec (.claimScan p) s = replied .badRequest [] s

/-- Every step keeps the two collections: each live claim stands once in the collection of its state, the held queue is
ordered by class, and no SAFETY claim is HELD (R6, R7). -/
def Obligations.CollectionsKept : Prop :=
  ∀ s t : State, CollectionsExact s ∧ SafetyGranted s → step s = .next t → CollectionsExact t ∧ SafetyGranted t

/-- Every step keeps the claims' records sound: their levels in order within the circuits' maximum levels (R2), their
shares at most 250 dA (R1), and every settle part of 1 to 250 dA with 1 to 4 evaluations remaining (R32). -/
def Obligations.ClaimsSoundKept : Prop :=
  ∀ s t : State, ClaimsSound s → step s = .next t → ClaimsSound t

/-- Every step keeps the owners sound: no binding owns more than one live claim, a claim link and its claim name each
other, and the link holds at most one live claim per circuit (R5). -/
def Obligations.OwnersSoundKept : Prop :=
  ∀ s t : State, OwnersSound s → step s = .next t → OwnersSound t

/-! ### Supply budget (02_supply_budget.md) -/

/-- A supply sample is taken, saturated, in RUN and in QUIESCED alone (R25), and a sender sample in RUN alone (R138).
The inputs keep the values presented, in LOADING and in SLEEP too: the model's choice (log 12). An evaluation with
samples to hand forms the filtered values as their means, truncated toward zero (R26), then sets the band by its table,
but not while a crank or its recovery runs (R29), and then the charging state (R30); BAND and CHARGE are set when they
change, and by nothing else. -/
def Obligations.SamplesAndMeasures : Prop :=
  ((∀ (vbat vgen : Nat) (ibat : Int) (s : State), Awake s →
     let pins := { s.pins with supply := { vbat := vbat, vgen := vgen, ibat := ibat } }
     (s.mdc.mode = .run ∨ s.mdc.mode = .quiesced →
       exec (.supplySample vbat vgen ibat) s
         = after { s with
             pins := pins
             sbu := { s.sbu with
               samples := s.sbu.samples
                 ++ [{ vbat := min 2000 vbat, vgen := min 2000 vgen, ibat := max (-800) (min 800 ibat) }] } })
     ∧ (s.mdc.mode = .loading ∨ s.mdc.mode = .sleep →
         exec (.supplySample vbat vgen ibat) s = after { s with pins := pins }))
   ∧ ∀ (a0 a1 a2 : BitVec 12) (s : State), Awake s →
     ∃ t, exec (.senderSample a0 a1 a2) s = after t
       ∧ t = { s with pins := { s.pins with senders := #v[a0, a1, a2] }, gau := t.gau }
       ∧ (s.mdc.mode ≠ .run → t.gau = s.gau)
       ∧ (s.mdc.mode = .run → ∀ g : GaugeIx,
           t.gau.get g = { s.gau.get g with samples := (s.gau.get g).samples ++ [(#v[a0, a1, a2].get g).toNat] }))
  ∧ (∀ (s : State) (x : Supply) (xs : List Supply), Awake s → s.mdc.mode = .run ∨ s.mdc.mode = .quiesced →
       s.sbu.samples = x :: xs →
       let n := xs.length + 1
       let vb := ((x :: xs).map (·.vbat)).sum / n
       let vg := ((x :: xs).map (·.vgen)).sum / n
       let band : Band := if s.sbu.crank = .none then
           match s.sbu.band with
           | .normal => if vb < 1180 then .low else .normal
           | .low => if 1220 ≤ vb then .normal else if vb < 1100 then .critical else .low
           | .critical => if 1140 ≤ vb then .low else .critical
         else s.sbu.band
       let charges : Charging := if vb + 30 ≤ vg then .charging else if vg < vb + 10 then .notCharging else s.sbu.charging
       ∃ t, exec .budgetEvaluation s = .next t
         ∧ t.sbu.samples = [] ∧ t.sbu.vbatF = vb ∧ t.sbu.vgenF = vg
         ∧ t.sbu.ibatF = Int.tdiv ((x :: xs).map (·.ibat)).sum n
         ∧ t.sbu.band = band ∧ t.sbu.charging = charges
         ∧ (hasFlag .band t = true ↔ hasFlag .band s = true ∨ band ≠ s.sbu.band)
         ∧ (hasFlag .charge t = true ↔ hasFlag .charge s = true ∨ charges ≠ s.sbu.charging))

/-- The counts of an evaluation (R28 stages 2 to 5), in every mode and crank state: settle parts and hold timers are
counted down and removed at 0 (R32, R37), the recovery and the host hold too, CRANK and HOST leaving the HELD claims at
their end (R46, R47), and an expiry that reaches 0 retires its claim with CLAIM_EXPIRED (R11). Every other claim keeps
its state, level and place. In QUIESCED and while CRANKING they are all that the evaluation does to the claims, and both
runs are 0; the measurement before them and the budget action after them (ShedRule) stand aside. -/
def Obligations.EvaluationCounts : Prop :=
  let counted (s t : State) : Prop :=
    let recovered := decide (s.sbu.crank = .recovery 1) || decide (s.sbu.crank = .recovery 0)
    let released := match s.sbu.hostHold with | some h => decide (h.count ≤ 1) | none => false
    let due (c : Claim) : Bool := match c.expiry with | some n => decide (n ≤ 1) | none => false
    t.sbu.crank = (match s.sbu.crank with
          | .recovery n => if n ≤ 1 then .none else .recovery (n - 1)
          | other => other)
      ∧ t.sbu.hostHold = (match s.sbu.hostHold with
          | some h => if h.count ≤ 1 then none else some { h with count := h.count - 1 }
          | none => none)
      ∧ (∀ i : SlotIx, claimAt s i = none → t.clt.slots.get i = s.clt.slots.get i)
      ∧ (∀ i c, claimAt s i = some c → due c = true →
          claimAt t i = none ∧ (t.clt.slots.get i).gen = (s.clt.slots.get i).gen + 1)
      ∧ (∀ i c, claimAt s i = some c → due c = false →
          (t.clt.slots.get i).gen = (s.clt.slots.get i).gen
            ∧ claimAt t i = some { c with
                expiry := c.expiry.map (· - 1)
                settle := c.settle.bind fun q => if q.left ≤ 1 then none else some { q with left := q.left - 1 }
                state := match c.state with
                  | .granted l => .granted l
                  | .held r => .held
                      { budgetTimer := r.budgetTimer.bind fun n => if n ≤ 1 then none else some (n - 1)
                        crank := r.crank && !recovered, host := r.host && !released } })
      ∧ (let stays (i : SlotIx) : Bool := !(((claimAt s i).map due).getD false)
         t.clt.grantList = s.clt.grantList.filter stays ∧ t.clt.heldQueue = s.clt.heldQueue.filter stays)
      ∧ (hasFlag .claimExpired t = true ↔ hasFlag .claimExpired s = true ∨ ∃ i c, claimAt s i = some c ∧ due c = true)
  (∀ s : State, let t := countStages s
     counted s t ∧ t.sbu = { s.sbu with crank := t.sbu.crank, hostHold := t.sbu.hostHold }
       ∧ t.mdc = s.mdc ∧ t.crs = s.crs ∧ t.fls = s.fls ∧ t.chd = s.chd ∧ t.sws = s.sws ∧ t.gau = s.gau)
  ∧ (∀ s : State, let t := measureStage s
       t.clt = s.clt ∧ t.sbu.crank = s.sbu.crank ∧ t.sbu.hostHold = s.sbu.hostHold ∧ t.sbu.deficitRun = s.sbu.deficitRun
         ∧ t.sbu.surplusRun = s.sbu.surplusRun ∧ t.bde = s.bde ∧ t.mdc = s.mdc)
  ∧ ∀ s : State, Awake s → s.mdc.mode = .quiesced ∨ s.mdc.mode = .run ∧ s.sbu.crank = .cranking →
      ∃ t, exec .budgetEvaluation s = .next t ∧ t.sbu.deficitRun = 0 ∧ t.sbu.surplusRun = 0 ∧ counted s t

/-- A budget evaluation takes at most one budget action, and never on a SAFETY claim (R28): but for one claim, not
SAFETY, every claim it does not retire keeps its state and its granted level. -/
def Obligations.OneActionNeverSafety : Prop :=
  ∀ s t : State, Awake s → SafetyGranted s → exec .budgetEvaluation s = .next t →
    ∃ acted : Option SlotIx, ∀ i c, claimAt s i = some c →
      claimAt t i = none ∨ (acted = some i ∧ c.cls ≠ .safety)
        ∨ ∃ c', claimAt t i = some c' ∧ c'.isHeld = c.isHeld ∧ c'.granted = c.granted

/-- An evaluation's last stage is taken on the claims and the budget as its counts leave them; what the stages leave
stands, the status set too, but that the outputs follow (R8) and a pass that a slot-freed notice has requested begins in
RUN (R13). With negative headroom in RUN, not CRANKING (R38), the deficit run counts to 2, at which the victim of R39 is
shed by R40: one level down above its floor, and at it HELD with BUDGET_TIMER and CLAIM_HELD, entering the held queue
after the last entry of its class. Without a victim the run stays at 2. The surplus run is 0. -/
def Obligations.ShedRule : Prop :=
  (∀ s : State, Awake s → s.mdc.mode = .run ∨ s.mdc.mode = .quiesced →
    let w := actionStage (countStages (measureStage s))
    let begins := s.mdc.mode = .run ∧ w.bde.pass = none ∧ w.bde.passRequested = true
    let bde := if begins then { w.bde with pass := some (freshPass s), passRequested := false } else w.bde
    ∃ t, exec .budgetEvaluation s = after t ∧ OutputsAside { w with bde := bde } t)
  ∧ ∀ s : State, s.mdc.mode = .run → s.sbu.crank ≠ .cranking → headroom s < 0 →
      let calm (d : Nat) (u : State) : State := { u with sbu := { u.sbu with deficitRun := d, surplusRun := 0 } }
      let shedable (j : SlotIx) (p : Claim → Prop) : Prop :=
        ∃ x, claimAt s j = some x ∧ x.isHeld = false ∧ x.cls ≠ .safety ∧ p x
      (s.sbu.deficitRun = 0 → actionStage s = calm 1 s)
      ∧ (0 < s.sbu.deficitRun →
          ((∀ j ∈ s.clt.grantList, ¬shedable j fun _ => True) → actionStage s = calm 2 s)
          ∧ ∀ (front back : List SlotIx) (i : SlotIx) (c : Claim) (g : Nat), s.clt.grantList = front ++ i :: back →
              claimAt s i = some c → c.state = .granted g → c.cls ≠ .safety →
              (∀ j ∈ front ++ back, ¬shedable j fun x => c.cls.rank < x.cls.rank) →
              (∀ j ∈ back, ¬shedable j fun x => x.cls = c.cls) →
              (c.floor < g →
                ∃ u, actionStage s = calm 0 u ∧ u = { s with clt := u.clt } ∧ SamePlaces s u
                  ∧ OneRecord s u i { c with state := .granted (g - 1) })
              ∧ (g ≤ c.floor →
                  ∃ u, actionStage s = setFlag .claimHeld (calm 0 u) ∧ u = { s with clt := u.clt }
                    ∧ OneRecord s u i
                        { c with
                          state := .held { budgetTimer := some 8, crank := false, host := false }, settle := none }
                    ∧ u.clt.grantList = s.clt.grantList.filter (· ≠ i)
                    ∧ (∀ j, j ∈ u.clt.heldQueue ↔ j = i ∨ j ∈ s.clt.heldQueue)
                    ∧ (CollectionsExact s → JoinsHeld s u i)))

/-- With headroom of 0 or more in RUN, not CRANKING (R41 to R44), the candidate is the first HELD claim in queue order
whose reason set is empty, and only without one the first DEGRADED claim of the highest class in grant order; the
surplus run counts while the headroom meets its need, and at 2 the claim is restored with CLAIM_RESTORED, at the highest
level that fits with 10 dA left, or raised by one level where it stands. The deficit run is 0. -/
def Obligations.RestoreRule : Prop :=
  ∀ s : State, s.mdc.mode = .run → s.sbu.crank ≠ .cranking → 0 ≤ headroom s →
    let calm (n : Nat) (u : State) : State := { u with sbu := { u.sbu with deficitRun := 0, surplusRun := n } }
    let free (j : SlotIx) : Prop := ∃ x, claimAt s j = some x
      ∧ x.state = .held { budgetTimer := none, crank := false, host := false }
    let degraded (j : SlotIx) (p : Claim → Prop) : Prop := ∃ x, claimAt s j = some x ∧ x.isHeld = false
      ∧ x.granted < x.requested ∧ x.cls ≠ .safety ∧ p x
    ((∀ j ∈ s.clt.heldQueue, ¬free j) → (∀ j ∈ s.clt.grantList, ¬degraded j fun _ => True) → actionStage s = calm 0 s)
    ∧ (∀ (front back : List SlotIx) (i : SlotIx) (c : Claim), s.clt.heldQueue = front ++ i :: back →
        (∀ j ∈ front, ¬free j) → claimAt s i = some c →
        c.state = .held { budgetTimer := none, crank := false, host := false } →
        let fits (l : Nat) : Prop := (claimShare s c l : Int) + 10 ≤ headroom s
        (¬fits c.floor → actionStage s = calm 0 s)
        ∧ (fits c.floor → s.sbu.surplusRun = 0 → actionStage s = calm 1 s)
        ∧ ∀ l, fits c.floor → 0 < s.sbu.surplusRun → c.floor ≤ l → l ≤ c.requested → fits l →
            (c.mode = .flash → l = c.requested) → (c.mode = .steady → ∀ l', l < l' → l' ≤ c.requested → ¬fits l') →
            ∃ u, actionStage s = setFlag .claimRestored (calm 0 u) ∧ u = { s with clt := u.clt }
              ∧ OneRecord s u i { c with state := .granted l, settle := addSettle (claimShare s c l) c.settle }
              ∧ JoinsGranted s u i)
    ∧ (∀ (front back : List SlotIx) (i : SlotIx) (c : Claim) (g : Nat), (∀ j ∈ s.clt.heldQueue, ¬free j) →
        s.clt.grantList = front ++ i :: back → claimAt s i = some c → c.state = .granted g → g < c.requested →
        c.cls ≠ .safety → (∀ j ∈ front ++ back, ¬degraded j fun x => x.cls.rank < c.cls.rank) →
        (∀ j ∈ front, ¬degraded j fun x => x.cls = c.cls) →
        let added : Int := claimShare s c (g + 1) - claimShare s c g
        (headroom s < added + 10 → actionStage s = calm 0 s)
        ∧ (added + 10 ≤ headroom s → s.sbu.surplusRun = 0 → actionStage s = calm 1 s)
        ∧ (added + 10 ≤ headroom s → 0 < s.sbu.surplusRun →
            ∃ u, actionStage s = calm 0 u ∧ u = { s with clt := u.clt } ∧ SamePlaces s u
              ∧ OneRecord s u i
                  { c with state := .granted (g + 1)
                           settle := addSettle (claimShare s c (g + 1) - claimShare s c g) c.settle }))

/-- The end of a count taken by itself, when the count stands at its last: a settle part goes (R32), BUDGET_TIMER with
its timer goes (R37), the recovery ends and CRANK leaves the HELD claims (R46), the host hold ends and HOST leaves them
(R47), and an expiry retires its claim with CLAIM_EXPIRED (R11). At another value the event does not fall (log 3). -/
def Obligations.CountEnds : Prop :=
  ∀ s : State, Awake s → s.mdc.mode = .run ∨ s.mdc.mode = .quiesced →
    (∀ i, claimAt s i = none → exec (.settlePartExpiry i) s = after s ∧ exec (.holdTimerExpiry i) s = after s
      ∧ exec (.claimExpiry i) s = after s)
    ∧ (∀ i c, claimAt s i = some c →
      ((∀ sh, c.settle ≠ some { share := sh, left := 1 }) → exec (.settlePartExpiry i) s = after s)
      ∧ ((∀ crank host, c.state ≠ .held { budgetTimer := some 1, crank := crank, host := host }) →
          exec (.holdTimerExpiry i) s = after s)
      ∧ (c.expiry ≠ some 1 → exec (.claimExpiry i) s = after s)
      ∧ (∀ sh, c.settle = some { share := sh, left := 1 } →
        ∃ u, exec (.settlePartExpiry i) s = after u ∧ u = { s with clt := u.clt } ∧ SamePlaces s u
          ∧ OneRecord s u i { c with settle := none })
      ∧ (∀ crank host, c.state = .held { budgetTimer := some 1, crank := crank, host := host } →
          ∃ u, exec (.holdTimerExpiry i) s = after u ∧ u = { s with clt := u.clt } ∧ SamePlaces s u
            ∧ OneRecord s u i { c with state := .held { budgetTimer := none, crank := crank, host := host } })
      ∧ (c.expiry = some 1 →
          ∃ t, exec (.claimExpiry i) s = after t ∧ claimAt t i = none
            ∧ (t.clt.slots.get i).gen = (s.clt.slots.get i).gen + 1
            ∧ (∀ j, j ≠ i → t.clt.slots.get j = s.clt.slots.get j)
            ∧ t.clt.grantList = s.clt.grantList.filter (· ≠ i) ∧ t.clt.heldQueue = s.clt.heldQueue.filter (· ≠ i)
            ∧ t.lif = { s.lif with status := s.lif.status ||| 0x10 } ∧ t.sbu = s.sbu ∧ t.mdc = s.mdc ∧ t.gau = s.gau
            ∧ t.sws = s.sws))
    ∧ (s.sbu.crank ≠ .recovery 1 → exec .crankRecoveryEnd s = after s)
    ∧ ((∀ h, s.sbu.hostHold = some h → h.count ≠ 1) → exec .hostHoldEnd s = after s)
    ∧ (s.sbu.crank = .recovery 1 →
        ∃ u, exec .crankRecoveryEnd s = after u
          ∧ u = { s with clt := u.clt, sbu := { s.sbu with crank := .none } } ∧ SamePlaces s u
          ∧ ∀ i, claimAt u i = (claimAt s i).map fun c => { c with
              state := match c.state with | .held r => .held { r with crank := false } | .granted l => .granted l })
    ∧ (∀ h, s.sbu.hostHold = some h → h.count = 1 →
        ∃ u, exec .hostHoldEnd s = after u
          ∧ u = { s with clt := u.clt, sbu := { s.sbu with hostHold := none } } ∧ SamePlaces s u
          ∧ ∀ i, claimAt u i = (claimAt s i).map fun c => { c with
              state := match c.state with | .held r => .held { r with host := false } | .granted l => .granted l })

/-- HOLD.SET (R48): in QUIESCED it is refused WRONG_MODE; a count of 0 or a set empty but for SAFETY ends the hold, HOST
leaving every claim; another places or replaces the hold, with the count clamped to 240: HELD claims of a class in the
set carry HOST and those of other classes lose it, and GRANTED claims of a class in the set become HELD, entering the
held queue in grant order, each after the last entry of its class. The reply gives the set, the count and the number
made HELD; no status flag is set. The model's choice (log 24): a HOLD.SET that ends the hold answers OK with zeros. -/
def Obligations.HoldSetRule : Prop :=
  ∀ (classes count : Byte) (s : State), Handed .holdSet [classes, count] s → classes.toNat ≤ 15 →
    let covers (k : ClaimClass) : Bool := k = .lighting && classes.getLsbD 1 || k = .comfort && classes.getLsbD 2
      || k = .auxiliary && classes.getLsbD 3
    let covered (i : SlotIx) : Bool := match claimAt s i with | some c => covers c.cls | none => false
    let places := decide (count ≠ 0) && (classes.getLsbD 1 || classes.getLsbD 2 || classes.getLsbD 3)
    (s.mdc.mode ≠ .run → exec (.holdSet [classes, count]) s = replied .wrongMode [] s)
    ∧ (s.mdc.mode = .run → places = false →
        ∃ u, exec (.holdSet [classes, count]) s = replied .ok [0, 0, 0] u
          ∧ u = { s with clt := u.clt, sbu := { s.sbu with hostHold := none } } ∧ SamePlaces s u
          ∧ ∀ i, claimAt u i = (claimAt s i).map fun c => { c with
              state := match c.state with | .held r => .held { r with host := false } | .granted l => .granted l })
    ∧ (s.mdc.mode = .run → places = true → CollectionsExact s →
        let taken := s.clt.grantList.filter covered
        let n := min count.toNat 240
        ∃ u t, exec (.holdSet [classes, count]) s
            = replied (if 240 < count.toNat then .clamped else .ok) [classes &&& 14, byte n, byte taken.length] t
          ∧ OutputsAside u t
          ∧ u = { s with
              clt := u.clt
              sbu := { s.sbu with
                hostHold := some { lighting := classes.getLsbD 1, comfort := classes.getLsbD 2
                                   auxiliary := classes.getLsbD 3, count := n } } }
          ∧ (∀ i, (u.clt.slots.get i).gen = (s.clt.slots.get i).gen)
          ∧ (∀ i, claimAt u i = (claimAt s i).map fun c => match c.state with
              | .held r => { c with state := .held { r with host := covers c.cls } }
              | .granted l => if covers c.cls then
                    { c with state := .held { budgetTimer := none, crank := false, host := true }, settle := none }
                  else { c with state := .granted l })
          ∧ u.clt.grantList = s.clt.grantList.filter (fun i => !covered i)
          ∧ ∀ k : ClaimClass, u.clt.heldQueue.filter (slotClass s · (· = k))
              = s.clt.heldQueue.filter (slotClass s · (· = k)) ++ taken.filter (slotClass s · (· = k)))

/-- A scan at which START alone is accepted (R45, R46, R115): at 1 in RUN, unless a crank runs, the crank state becomes
CRANKING with status CRANK, and every GRANTED COMFORT or AUXILIARY claim becomes HELD with CRANK, its settle part gone,
entering the held queue in grant order; HELD claims keep their reasons. At 0 a crank becomes RECOVERY 6, in RUN and in
QUIESCED; in another crank state nothing more comes of it. At an entry to RUN (by RESUME, by IGN or by a wake) with
START standing accepted at 1 a crank begins in the same way, and without it none does. At such an entry the gauges
restart, each OFF one ACTIVE from rest with IGN accepted at 1 (R138, R149), and at one from LOADING or SLEEP the supply
takes its entry sample (R25, R26), both of the values the inputs last presented: the model's choice (log 12). -/
def Obligations.CrankRule : Prop :=
  let holds (s t : State) : Prop :=
    let taken := s.clt.grantList.filter fun i => slotClass s i fun k => k = .comfort || k = .auxiliary
    t.lif = { s.lif with status := s.lif.status ||| 0x80 }
    ∧ (∀ i, (t.clt.slots.get i).gen = (s.clt.slots.get i).gen)
    ∧ (∀ i, claimAt t i = (claimAt s i).map fun c => match c.state with
        | .held r => { c with state := .held r }
        | .granted l => if c.cls = .comfort ∨ c.cls = .auxiliary then
              { c with state := .held { budgetTimer := none, crank := true, host := false }, settle := none }
            else { c with state := .granted l })
    ∧ t.clt.grantList = s.clt.grantList.filter (fun i => i ∉ taken)
    ∧ ∀ k : ClaimClass, t.clt.heldQueue.filter (slotClass s · (· = k))
        = s.clt.heldQueue.filter (slotClass s · (· = k)) ++ taken.filter (slotClass s · (· = k))
  (∀ (levels : BitVec 26) (s : State), Awake s → CollectionsExact s →
    (∀ g : GroupIx, ((scanRecs s levels).get g).2 = decide (g = start)) →
    let code := ((scanRecs s levels).get start).1.accepted
    (s.mdc.mode = .run → code = some 1 → s.sbu.crank ≠ .cranking →
      ∃ t, exec (.switchScan levels) s = .next t ∧ t.sbu = { s.sbu with crank := .cranking } ∧ holds s t)
    ∧ (s.mdc.mode = .run ∨ s.mdc.mode = .quiesced →
        (code ≠ some 1 ∨ s.mdc.mode = .quiesced ∨ s.sbu.crank = .cranking) →
        ∃ t, exec (.switchScan levels) s = .next t ∧ t.clt = s.clt ∧ t.lif = s.lif
          ∧ t.sbu = { s.sbu with
              crank := if code ≠ some 1 ∧ s.sbu.crank = .cranking then .recovery 6 else s.sbu.crank }))
  ∧ ∀ (restart : Bool) (s : State), CollectionsExact s → let t := enterRun restart s
      t.mdc.mode = .run
      ∧ GaugesEnter (decide (acceptedCode s ign = some 1)) s t
      ∧ (restart = true → SupplyEnters s t) ∧ (restart = false → t.sbu = { s.sbu with crank := t.sbu.crank })
      ∧ (acceptedCode s start = some 1 → s.sbu.crank ≠ .cranking → t.sbu.crank = .cranking ∧ holds s t)
      ∧ (acceptedCode s start ≠ some 1 ∨ s.sbu.crank = .cranking →
          t.sbu.crank = s.sbu.crank ∧ t.clt = s.clt ∧ t.lif = s.lif)

/-! ### Circuits, resolution and tell-tales (03_circuits_resolution_and_tell_tales.md) -/

/-- The resolved state of a circuit comes from its GRANTED claims alone: FLASHING with a FLASH claim among them,
otherwise STEADY at the highest granted level among them, otherwise OFF (R54). Circuits handed over stand resolved so;
the others stand as they were, and so does every channel that no handed circuit names, in RUN where the outputs follow
(R55, R56); beside the outputs nothing moves. -/
def Obligations.ResolutionRule : Prop :=
  (∀ (s : State) (c : Circ),
     let on (x : Claim) : Prop := ∃ i, claimAt s i = some x ∧ x.circuit = c ∧ x.isHeld = false
     ((∃ x, on x ∧ x.mode = .flash) → resolve s c = .flashing)
     ∧ ((∀ x, on x → x.mode = .steady) →
         (∀ top, on top → (∀ x, on x → x.granted ≤ top.granted) →
           resolve s c = .steady (top.granted * 1000 / (s.crs.inForce.get c).maxLevel))
         ∧ ((∀ x, ¬on x) → resolve s c = .off)))
  ∧ (∀ (v : Vector Bool 16) (s : State),
       OutputsAside s (handOver v s)
       ∧ (∀ c, (handOver v s).crs.resolved.get c = if v.get c then resolve s c else s.crs.resolved.get c)
       ∧ (s.mdc.mode = .run → DemandsFollow s → FlasherFollows s →
           (s.crs.flashPresent = s.crs.resolved.toList.any fun r => r = .flashing) →
           (∀ ch, s.crs.flashSet.get ch = flashes s ch) →
           ∀ ch, (s.chd.get ch).profile.kind ≠ .telltale → (∀ c, v.get c = true → ch ∉ (s.crs.inForce.get c).channels) →
             (handOver v s).chd.get ch = s.chd.get ch))

/-- The demand of a channel in RUN: 1000 while LIT and 0 otherwise when a FLASHING circuit names it, otherwise the
highest steady demand of the circuits that name it, or 0 (R57); 0 for an UNUSED channel (R59); 1000 for a TELLTALE
channel while its source is lit (R60). Outside RUN every demand is 0 (R62). The flash set is formed of the FILAMENT, LED
and MOTOR channels that a FLASHING circuit names (R58). -/
def Obligations.DemandRule : Prop :=
  ∀ (s : State) (ch : Chan),
    let p := (s.chd.get ch).profile
    let d := channelDemand s ch
    let lit := ∃ rate n checks, s.fls.phase = .lit rate n checks
    let names (c : Circ) : Prop := ch ∈ (s.crs.inForce.get c).channels
    (flashes s ch = true ↔ (p.kind = .filament ∨ p.kind = .led ∨ p.kind = .motor)
      ∧ ∃ c, names c ∧ s.crs.resolved.get c = .flashing)
    ∧ (s.mdc.mode ≠ .run → d = 0)
    ∧ (p.kind = .unused → d = 0)
    ∧ (s.mdc.mode = .run → p.kind = .filament ∨ p.kind = .led ∨ p.kind = .motor →
        (∀ c, names c → s.crs.resolved.get c = .flashing → (lit → d = 1000) ∧ (¬lit → d = 0))
        ∧ ((∀ c, names c → s.crs.resolved.get c ≠ .flashing) →
            (∀ c n, names c → s.crs.resolved.get c = .steady n → n ≤ d)
              ∧ (0 < d → ∃ c, names c ∧ s.crs.resolved.get c = .steady d)))
    ∧ (s.mdc.mode = .run → p.kind = .telltale → ∀ src, p.source = some src →
        let on : Prop := match src with
          | .circuit c => (∃ n, s.crs.resolved.get c = .steady n) ∨ s.crs.resolved.get c = .flashing ∧ lit
          | .flash => lit
          | .charge => acceptedCode s ign = some 1 ∧ s.sbu.charging = .notCharging
          | .gaugeHigh g threshold => threshold ≤ (s.gau.get g).filtered
          | .openLoad => ∃ k, (s.chd.get k).openLoadFlag = true
              ∧ ¬((s.chd.get k).profile.kind = .telltale ∧ (s.chd.get k).profile.source = some .openLoad)
        (on → d = 1000) ∧ (¬on → d = 0))

/-- CIRCUIT.READ returns the fields of its view and changes nothing (R64, with the layout of R172); CIRCUIT.WRITE passes
its checks in the order of R65 and stores the pending entry alone, the maximum level clamped to 1–15. Of a read's two
checks, which R64 does not order, that of the view comes first: the model's choice (log 36); so is the 0 in the handle
positions beyond the live claims (log 38). -/
def Obligations.CircuitRequests : Prop :=
  let spread (channels : List Chan) : List Byte := byte channels.length :: fourPositions (channels.map fun c => byte c.val)
  (∀ (circuit view : Byte) (s : State), Handed .circuitRead [circuit, view] s →
    (1 < view.toNat → exec (.circuitRead [circuit, view]) s = replied .badRequest [] s)
    ∧ (view.toNat ≤ 1 → 15 < circuit.toNat → exec (.circuitRead [circuit, view]) s = replied .badIndex [] s)
    ∧ ∀ c : Circ, circuit.toNat = c.val →
        let e := s.crs.inForce.get c
        let q := (s.crs.pendingEntry.get c).getD e
        let nominal (channels : List Chan) : Nat := min 250 (channels.map fun ch => (s.chd.get ch).profile.nominal).sum
        let slots := (List.finRange 32).filter fun i : SlotIx => (claimAt s i).any fun x => decide (x.circuit = c)
        let handles := (slots.take 8).flatMap fun i => be16 (i.val * 16 + (s.clt.slots.get i).gen.val)
        (view = 0 → exec (.circuitRead [circuit, view]) s
          = replied .ok (spread e.channels ++ [byte e.maxLevel, byte (nominal e.channels), (s.crs.resolved.get c).code]
              ++ be16 (match s.crs.resolved.get c with | .steady d => d | _ => 0)
              ++ [boolByte (s.crs.pendingEntry.get c).isSome, byte slots.length]
              ++ handles ++ List.replicate (16 - handles.length) 0) s)
        ∧ (view = 1 → exec (.circuitRead [circuit, view]) s
            = replied .ok (spread q.channels ++ [byte q.maxLevel, byte (nominal q.channels),
                boolByte (s.crs.pendingEntry.get c).isSome]) s))
  ∧ ∀ (circuit maxLevel count : Byte) (channels : List Byte) (s : State), let p := circuit :: maxLevel :: count :: channels
      Handed .circuitWrite p s →
      (s.mdc.mode ≠ .quiesced → exec (.circuitWrite p) s = replied .wrongMode [] s)
      ∧ (s.mdc.mode = .quiesced → s.mdc.op ≠ .none → exec (.circuitWrite p) s = replied .storeBusy [] s)
      ∧ (s.mdc.mode = .quiesced → s.mdc.op = .none →
          (count.toNat ≤ 4 → channels.length ≠ count.toNat → exec (.circuitWrite p) s = replied .badRequest [] s)
          ∧ (count.toNat ≤ 4 → channels.length = count.toNat →
              (15 < circuit.toNat ∨ (∃ b ∈ channels, 19 < b.toNat) → exec (.circuitWrite p) s = replied .badIndex [] s)
              ∧ ∀ (c : Circ) (list : List Chan), circuit.toNat = c.val → channels = list.map (fun ch => byte ch.val) →
                  (¬list.Nodup → exec (.circuitWrite p) s = replied .badTable [] s)
                  ∧ (list.Nodup →
                      let m := max 1 (min 15 maxLevel.toNat)
                      exec (.circuitWrite p) s
                        = replied (if m = maxLevel.toNat then .ok else .clamped)
                            (spread list ++ [byte m, circuit])
                            { s with crs := { s.crs with
                                pendingEntry := put s.crs.pendingEntry c (some { channels := list, maxLevel := m }) } }))
          ∧ (4 < count.toNat → 15 < circuit.toNat ∨ channels.length = count.toNat ∧ (∃ b ∈ channels, 19 < b.toNat) →
              exec (.circuitWrite p) s = replied .badIndex [] s)
          ∧ (4 < count.toNat → circuit.toNat ≤ 15 → (∀ b ∈ channels, b.toNat ≤ 19) →
              exec (.circuitWrite p) s = replied .badTable [] s))

/-! ### Flasher (04_flasher.md) -/

/-- The Flasher's start and stop and its phase expiries. Handed the flash-present indication, which is set while a
circuit is FLASHING (R56), an IDLE Flasher starts in RUN with it set: LIT at the rate set for a normal phase, fast flag
clear, failed set empty, every channel of the flash set PENDING with no time in ON, and a pulse while the ticker is on
(R69, R71, R79); a running one stops otherwise, IDLE with both cleared and no pulse given (R70). The phase expiries
(R71, R72, R73), with the ticker's pulse (R79): a LIT phase gives way to a DARK one timed from the rate in force and the
fast flag just set from the failed set, and a DARK phase to a LIT one at the rate set, with every channel of the flash
set PENDING. The pulse's end changes nothing else (R79). Each event is itself the end of its time, so it acts whatever
time the phase shows remaining: the model's choice (log 2). -/
def Obligations.PhaseExpiries : Prop :=
  (∀ s : State,
    let runs := s.crs.flashPresent = true ∧ s.mdc.mode = .run
    indicate s
        = syncFlasher { s with crs := { s.crs with flashPresent := decide (∃ c, s.crs.resolved.get c = .flashing) } }
      ∧ (runs → s.fls.phase = .idle → syncFlasher s = { s with
          fls := { s.fls with
            phase := .lit s.fls.rateSet (60000 / s.fls.rateSet / 2)
              (tabulate fun ch => if s.crs.flashSet.get ch then some (.pending false 0) else none)
            fast := false, failed := tabulate fun _ => false
            tickPulse := if s.fls.ticker then some 4 else s.fls.tickPulse } })
      ∧ (¬runs → s.fls.phase ≠ .idle → syncFlasher s = { s with
          fls := { s.fls with phase := .idle, fast := false, failed := tabulate fun _ => false } })
      ∧ ((runs ↔ s.fls.phase ≠ .idle) → syncFlasher s = s))
  ∧ ∀ s : State, Awake s →
    let period (rate : Nat) (fast : Bool) : Nat := if fast then 60000 / rate / 2 else 60000 / rate
    let pulse := if s.fls.ticker then some 4 else s.fls.tickPulse
    ((∀ rate n checks, s.fls.phase ≠ .lit rate n checks) → exec .litExpiry s = after s)
    ∧ ((∀ rate n, s.fls.phase ≠ .dark rate n) → exec .darkExpiry s = after s)
    ∧ (∀ rate n checks, s.fls.phase = .lit rate n checks →
        let fails (ch : Chan) : Bool := match checks.get ch with
          | some .fail => true
          | some (.pending false _) => true
          | _ => false
        let fast := (List.finRange 20).any fails
        ∃ u t, exec .litExpiry s = after t ∧ OutputsAside u t
          ∧ u = { s with chd := u.chd, lif := u.lif } ∧ t.crs = s.crs
          ∧ t.fls = { s.fls with
              phase := .dark rate (period rate fast - period rate fast / 2), failed := tabulate fails, fast := fast
              tickPulse := pulse }
          ∧ (∀ ch, (t.chd.get ch).openLoadFlag
              = ((s.chd.get ch).openLoadFlag || (match checks.get ch with | some (.pending false _) => true | _ => false)))
          ∧ u.lif = { s.lif with status := u.lif.status }
          ∧ u.lif.status = if (List.finRange 20).any fun ch =>
                match checks.get ch with | some (.pending false _) => true | _ => false
              then s.lif.status ||| 0x400 else s.lif.status)
    ∧ (∀ rate n, s.fls.phase = .dark rate n →
        ∃ t, exec .darkExpiry s = after t ∧ OutputsAside s t ∧ t.crs = s.crs
          ∧ t.fls = { s.fls with
              phase := .lit s.fls.rateSet (period s.fls.rateSet s.fls.fast / 2)
                (tabulate fun ch => if s.crs.flashSet.get ch then some (.pending false 0) else none)
              tickPulse := pulse })
    ∧ exec .tickPulseEnd s = after { s with fls := { s.fls with tickPulse := none } }

/-- The bulb check: the reading judges a PENDING entry whose channel is in ON by the measured current (R75), the event
being itself the end of the time in ON, whatever count stands: the model's choice (log 2). PASS clears the open-load
flag, FAIL sets it and status OPEN_LOAD (R76). A channel that joins the flash set during a LIT phase is PENDING and
marked, and one that leaves is removed (R74); one that enters the set loses its low and good times (R102). A channel
that does not stay in ON loses the time counted (R75). -/
def Obligations.BulbCheckRule : Prop :=
  (∀ (s : State) (ch : Chan), Awake s →
    ((∀ joined time, s.fls.phase.check ch ≠ some (.pending joined time)) → exec (.bulbCheckReading ch) s = after s)
    ∧ ((∀ n, (s.chd.get ch).state ≠ .on n) → exec (.bulbCheckReading ch) s = after s)
    ∧ ∀ joined time n, s.fls.phase.check ch = some (.pending joined time) → (s.chd.get ch).state = .on n →
        let passes := decide ((s.chd.get ch).profile.openLoad ≤ (s.chd.get ch).measured)
        ∃ u t, exec (.bulbCheckReading ch) s = after t ∧ OutputsAside u t
          ∧ u = { s with chd := u.chd, lif := u.lif } ∧ t.crs = s.crs
          ∧ t.fls.phase.check ch = some (if passes then .pass else .fail)
          ∧ (∀ k, (t.chd.get k).openLoadFlag = if k = ch then !passes else (s.chd.get k).openLoadFlag)
          ∧ u.lif = if passes then s.lif else { s.lif with status := s.lif.status ||| 0x400 })
  ∧ (∀ (s : State) (ch : Chan), let t := reformFlashSet s
      (t.crs.flashSet.get ch = flashes s ch)
      ∧ (t.chd.get ch = if s.crs.flashSet.get ch = false ∧ flashes s ch = true then
            { s.chd.get ch with lowTime := 0, goodTime := 0 }
          else s.chd.get ch)
      ∧ ∀ rate n checks, s.fls.phase = .lit rate n checks →
          t.fls.phase.check ch
            = match s.crs.flashSet.get ch, flashes s ch with
              | false, true => some (.pending true 0)
              | true, false => none
              | _, _ => checks.get ch)
  ∧ ∀ (s : State) (ch : Chan) (f : Channel → Channel) (joined : Bool) (time : Nat),
      s.fls.phase.check ch = some (.pending joined time) →
      (modifyChannel ch f s).fls.phase.check ch
        = some (.pending joined (if (s.chd.get ch).state.isOn && (f (s.chd.get ch)).state.isOn then time else 0))

/-- Every step keeps the outputs in agreement with the claims: the Flasher runs exactly while the flash-present
indication is set and the mode is RUN (R69); in RUN each circuit that no running pass has yet to hand over stands
resolved by R54, the flash-present indication is set exactly while a circuit is FLASHING (R56) and the flash set holds
the lamps that a FLASHING circuit names (R58); and each channel stands at its demand of R57 to R62, for every event that
can change a demand recomputes it (R56, R61, R63). A step that starts the Flasher leaves it in a LIT phase at the rate
set and of normal length, the fast flag clear, the failed set empty, the flash set PENDING and the pulse given while the
ticker is on (R69, R71, R79); a circuit that the same step hands over after the start joins the check list marked (R74),
by the order that is the model's choice (log 17). A step that stops it leaves the fast flag and the failed set clear
(R70). -/
def Obligations.OutputsKept : Prop :=
  (∀ s t : State, FlasherFollows s → step s = .next t → FlasherFollows t)
  ∧ (∀ s t : State, ResolutionFollows s ∧ LoadsQuiesced s → step s = .next t → ResolutionFollows t ∧ LoadsQuiesced t)
  ∧ (∀ s t : State, DemandsFollow s ∧ LoadsQuiesced s → step s = .next t → DemandsFollow t ∧ LoadsQuiesced t)
  ∧ ∀ s t : State, SleepQuiet s ∧ LoadsQuiesced s → step s = .next t →
      (s.fls.phase = .idle → t.fls.phase ≠ .idle →
        t.fls.fast = false ∧ (∀ ch : Chan, t.fls.failed.get ch = false)
          ∧ t.fls.tickPulse = (if s.fls.ticker then some 4 else s.fls.tickPulse)
          ∧ ∃ checks, t.fls.phase = .lit s.fls.rateSet (60000 / s.fls.rateSet / 2) checks
              ∧ ∀ ch : Chan, (t.crs.flashSet.get ch = false → checks.get ch = none)
                  ∧ (t.crs.flashSet.get ch = true → ∃ joined, checks.get ch = some (.pending joined 0)))
      ∧ (s.fls.phase ≠ .idle → t.fls.phase = .idle → t.fls.fast = false ∧ ∀ ch : Chan, t.fls.failed.get ch = false)

/-! ### Power channels (05_power_channels.md) -/

/-- An on-time sample of a channel that conducts is recorded, saturating at 500 dA, in a history of 200, whose mean,
truncated and at most 400 dA, is the measured current (R87); it lengthens the over-threshold run above the threshold in
effect and ends it otherwise; at or above three times the rating it is a hard trip (R96), and the fortieth of a run is
an ordinary one (R95). A stall trip falls on a MOTOR channel in ON whose stall threshold is above 0 and reached (R97).
The model's choice (log 2): the stall trip is itself the end of the stall time, whatever time stands, and a sample of a
channel that does not conduct does nothing. A trip cuts the output, empties the counts and takes the channel to TRIPPED
for 500 ms, then 1000 ms, then LOCKED (R98). Beside the channel, and TRIP and LOCK, at most the time counted toward its
bulb check changes. -/
def Obligations.TripRule : Prop :=
  ∀ (s : State) (ch : Chan), Awake s →
    let c := s.chd.get ch
    let rating := if ch.val < 16 then 80 else 160
    let trips (kind : TripKind) (event : Instr) : Prop :=
      let n := min 3 (c.tripCount + 1)
      ∃ u t, exec event s = after t
        ∧ OneChannel s u ch
            { c with
              state := if n = 1 then .tripped 500 else if n = 2 then .tripped 1000 else .locked false
              target := 0, applied := 0, ramp := 0, samples := [], overRun := 0, stallTime := 0, lowTime := 0
              goodTime := 0, tripCount := n, lifetime := min 65535 (c.lifetime + 1), lastTrip := some kind }
        ∧ t = { u with lif := { s.lif with status := s.lif.status ||| (if n = 3 then 0x300 else 0x100) } }
    (∀ reading : Nat, let x := min 500 reading
      let threshold := if c.state.isOn then c.profile.trip else min (3 * c.profile.trip) (3 * rating)
      let run := if threshold < x then c.overRun + 1 else 0
      let history := (x :: c.samples).take 200
      (c.state.driven = false ∨ c.applied = 0 → exec (.currentSample ch reading) s = after s)
      ∧ (c.state.driven = true → 0 < c.applied →
          (3 * rating ≤ x → trips .hard (.currentSample ch reading))
          ∧ (x < 3 * rating → 40 ≤ run → trips .ordinary (.currentSample ch reading))
          ∧ (x < 3 * rating → run < 40 →
              let mean := min 400 (history.sum / history.length)
              ∃ t, exec (.currentSample ch reading) s = after t ∧ (t.chd.get ch).measured = mean
                ∧ OneChannel s t ch
                    { c with
                      samples := history, overRun := run
                      stallTime := if mean < c.profile.stall then 0 else c.stallTime
                      lowTime := if c.profile.openLoad ≤ mean then 0 else c.lowTime
                      goodTime := if mean < c.profile.openLoad then 0 else c.goodTime })))
    ∧ (let stalls := c.profile.kind = .motor ∧ c.state.isOn = true ∧ 0 < c.profile.stall ∧ c.profile.stall ≤ c.measured
       (¬stalls → exec (.stallTrip ch) s = after s)
       ∧ (stalls → trips .stall (.stallTrip ch)))

/-- A demand handed to a channel: above 0 it starts an OFF channel in RUN (R90) and retargets a driven one, whose low
and good times go when it is below 1000 (R88, R93, R102); 0 takes a driven one to OFF at once, its duties 0, its history
empty and its counts 0 (R94); a TRIPPED one records it (R99); a LOCKED one sets its cycle flag at 0 and, with the flag
set, makes in RUN one attempt with trip count 2 (R100). A start is by the kind: SOFTSTART for a FILAMENT with a window
and for a MOTOR below its target, ON otherwise (R90, R84). A recomputation of the demands hands each one that changes to
its channel so, and leaves the other channels (R56); an entry to RUN hands every one (R62, R101). -/
def Obligations.DemandActs : Prop :=
  (∀ c : Channel, let p := c.profile
    let target := match p.kind with
      | .motor => if c.demand = 0 then 0 else p.minDuty + (1000 - p.minDuty) * c.demand / 1000
      | _ => c.demand
    let fresh (st : ChanState) (duty : Nat) : Channel :=
      { c with state := st, target := target, applied := duty, ramp := duty, samples := [], overRun := 0, stallTime := 0
               lowTime := 0, goodTime := 0 }
    (p.kind = .filament → c.start = fresh (if 0 < p.inrush then .softstart (some 0) else .on 0) target)
    ∧ (p.kind = .led ∨ p.kind = .telltale → c.start = fresh (.on 0) target)
    ∧ (p.kind = .motor → c.start = fresh (if target = p.minDuty then .on 0 else .softstart none) p.minDuty))
  ∧ (∀ (c : Channel) (run : Bool) (d : Nat), let t := c.takeDemand run d
      let asked := { c with demand := d }
      t.demand = d
      ∧ (c.state = .off → t = if run && decide (0 < d) then asked.start else asked)
      ∧ (c.state.driven = true → d = 0 → t =
          { c with demand := 0, state := .off, target := 0, applied := 0, ramp := 0, samples := [], overRun := 0
                   stallTime := 0, lowTime := 0, goodTime := 0 })
      ∧ (c.state.driven = true → 0 < d →
          t = { c with
              demand := d, target := t.target, lowTime := if d < 1000 then 0 else c.lowTime
              goodTime := if d < 1000 then 0 else c.goodTime }
            ∧ (c.profile.kind = .motor →
                t.target = c.profile.minDuty + (1000 - c.profile.minDuty) * d / 1000)
            ∧ (c.profile.kind = .filament ∨ c.profile.kind = .led ∨ c.profile.kind = .telltale → t.target = d))
      ∧ (∀ n, c.state = .tripped n → t = asked)
      ∧ ∀ cycle, c.state = .locked cycle →
          (d = 0 → t = { asked with state := .locked true })
          ∧ (0 < d → cycle = false ∨ run = false → t = asked)
          ∧ (0 < d → cycle = true → run = true → c.profile.kind ≠ .unused → t = { asked with tripCount := 2 }.start))
  ∧ ∀ s : State,
      let taken (ch : Chan) (d : Nat) : Channel := (s.chd.get ch).takeDemand (decide (s.mdc.mode = .run)) d
      (∀ (ch : Chan) (d : Nat), OneChannel s (handDemand ch d s) ch (taken ch d))
      ∧ OutputsAside s (refreshDemands s) ∧ (refreshDemands s).crs = s.crs
      ∧ (∀ ch : Chan, (refreshDemands s).chd.get ch
          = if channelDemand s ch = (s.chd.get ch).demand then s.chd.get ch else taken ch (channelDemand s ch))
      ∧ OutputsAside s (handAllDemands s) ∧ (handAllDemands s).crs = s.crs
      ∧ ∀ ch : Chan, (handAllDemands s).chd.get ch = taken ch (channelDemand s ch)

/-- The channels' own times. The end of a PWM period applies the target, or for a MOTOR what its ramp has reached (R88,
R89); a ramp step adds 10 ‰ toward the target (R89), and a MOTOR in SOFTSTART enters ON at the step, or at the period
end, whose ramp reaches it, before the applied duty does: the model's reading (R92, log 28); the end of the inrush
window brings ON (R91); ten seconds of ON forgive the trips (R93); a back-off's end brings a start in RUN with demand
above 0, and OFF otherwise (R99). Only the channel concerned changes, and the count of its time in ON under the bulb
check. Each event is itself the end of its time, so it acts whatever count stands: the model's choice (log 2). -/
def Obligations.ChannelTimes : Prop :=
  ∀ (s : State) (ch : Chan), Awake s →
    let c := s.chd.get ch
    let becomes (x : Channel) : Host.Outcome State Fault Refusal := after (modifyChannel ch (fun _ => x) s)
    let same : Host.Outcome State Fault Refusal := becomes c
    let entered (x : Channel) : Channel := { x with state := .on 0, lowTime := 0, goodTime := 0 }
    (c.state.driven = false → exec (.channelPeriodEnd ch) s = same)
    ∧ (c.state.driven = true → c.profile.kind ≠ .motor →
        exec (.channelPeriodEnd ch) s = becomes { c with applied := c.target, ramp := c.target })
    ∧ (c.state.driven = true → c.profile.kind = .motor →
        let x := { c with applied := min c.ramp c.target, ramp := min c.ramp c.target }
        exec (.channelPeriodEnd ch) s
          = becomes (if c.state.isOn = false ∧ c.target ≤ c.ramp then entered x else x))
    ∧ (c.profile.kind ≠ .motor ∨ c.state.driven = false ∨ c.target ≤ c.ramp → exec (.motorRampStep ch) s = same)
    ∧ (c.profile.kind = .motor → c.state.driven = true → c.ramp < c.target →
        let x := { c with ramp := min (c.ramp + 10) c.target }
        exec (.motorRampStep ch) s
          = becomes (if c.state.isOn = false ∧ c.target ≤ c.ramp + 10 then entered x else x))
    ∧ (∀ n, c.state = .softstart n → c.profile.kind = .filament → exec (.inrushWindowEnd ch) s = becomes (entered c))
    ∧ ((∀ n, c.state ≠ .softstart n) ∨ c.profile.kind ≠ .filament → exec (.inrushWindowEnd ch) s = same)
    ∧ (∀ n, c.state = .on n →
        exec (.continuousOnForgive ch) s = becomes { c with state := .on 10000, tripCount := 0 })
    ∧ ((∀ n, c.state ≠ .on n) → exec (.continuousOnForgive ch) s = same)
    ∧ (∀ n, c.state = .tripped n →
        exec (.backOffExpiry ch) s
          = becomes (if s.mdc.mode = .run ∧ 0 < c.demand then { c with state := .off }.start
              else { c with state := .off }))
    ∧ ((∀ n, c.state ≠ .tripped n) → exec (.backOffExpiry ch) s = same)
    ∧ ∀ x, OneChannel s (modifyChannel ch (fun _ => x) s) ch x

/-- Steady open-load detection acts on a channel in ON at demand 1000 outside the flash set, in RUN (R102): the end of a
low time sets the flag, with status OPEN_LOAD only when it was clear (R103), and the end of a good time clears it. Each
event is itself the end of its 500 ms, whatever time stands: the model's choice (log 2). -/
def Obligations.OpenLoadRule : Prop :=
  ∀ (s : State) (ch : Chan), Awake s →
    let c := s.chd.get ch
    let watched := s.mdc.mode = .run ∧ c.state.isOn = true ∧ c.demand = 1000 ∧ s.crs.flashSet.get ch = false
    (¬(watched ∧ c.measured < c.profile.openLoad) → exec (.openLoadDetected ch) s = after s)
    ∧ (watched → c.measured < c.profile.openLoad →
        ∃ u t, exec (.openLoadDetected ch) s = after t ∧ OutputsAside u t ∧ u = { s with lif := u.lif }
          ∧ t.crs = s.crs
          ∧ (∀ k, (t.chd.get k).openLoadFlag = (decide (k = ch) || (s.chd.get k).openLoadFlag))
          ∧ u.lif = if c.openLoadFlag then s.lif else { s.lif with status := s.lif.status ||| 0x400 })
    ∧ (¬(watched ∧ c.profile.openLoad ≤ c.measured) → exec (.openLoadCleared ch) s = after s)
    ∧ (watched → c.profile.openLoad ≤ c.measured →
        ∃ t, exec (.openLoadCleared ch) s = after t ∧ OutputsAside s t ∧ t.crs = s.crs
          ∧ ∀ k, (t.chd.get k).openLoadFlag = (decide (k ≠ ch) && (s.chd.get k).openLoadFlag))

/-- CHANNEL.READ returns the record and with its clear option sets the lifetime counter to 0 (R106); CHANNEL.RESTORE
sets the trip count to 0 and releases a LOCKED channel, which starts in RUN with demand above 0 (R107); PROFILE.READ
returns the rating and the profile (R108). A channel above 19 is refused BAD_INDEX. Of CHANNEL.READ's two checks, which
R106 does not order, that of the clear option comes first: the model's choice (log 36). A request changes nothing but
the channel's record, and at most the time counted toward its bulb check. -/
def Obligations.ChannelRequests : Prop :=
  ∀ (s : State) (channel : Byte),
    (∀ (ch : Chan) (x : Channel), OneChannel s (modifyChannel ch (fun _ => x) s) ch x)
    ∧ (∀ clear : Byte, Handed .channelRead [channel, clear] s →
      (1 < clear.toNat → exec (.channelRead [channel, clear]) s = replied .badRequest [] s)
      ∧ (clear.toNat ≤ 1 → 19 < channel.toNat → exec (.channelRead [channel, clear]) s = replied .badIndex [] s)
      ∧ ∀ ch : Chan, clear.toNat ≤ 1 → channel.toNat = ch.val →
          let c := s.chd.get ch
          exec (.channelRead [channel, clear]) s
            = replied .ok
                ([c.state.code] ++ be16 c.demand ++ be16 c.target ++ be16 c.applied ++ be16 c.measured
                  ++ [byte c.tripCount, match c.lastTrip with
                      | none => 0 | some .ordinary => 1 | some .hard => 2 | some .stall => 3]
                  ++ be16 (match c.state with | .tripped n => n | _ => 0)
                  ++ [byte (match c.state with | .softstart (some n) => n | _ => 0)]
                  ++ be16 (match c.state with | .on n => n | _ => 0)
                  ++ [byte ((if c.openLoadFlag then 1 else 0) + (if c.state = .locked true then 2 else 0)
                      + (if s.crs.flashSet.get ch then 4 else 0))]
                  ++ be16 c.lifetime)
                (if clear = 1 then { s with chd := put s.chd ch { c with lifetime := 0 } } else s))
    ∧ (Handed .channelRestore [channel] s →
        (19 < channel.toNat → exec (.channelRestore [channel]) s = replied .badIndex [] s)
        ∧ ∀ ch : Chan, channel.toNat = ch.val →
            let c := s.chd.get ch
            let x := { c with tripCount := 0 }
            let y := match c.state with
              | .locked _ => if s.mdc.mode = .run ∧ 0 < c.demand then { x with state := .off }.start
                  else { x with state := .off }
              | _ => x
            exec (.channelRestore [channel]) s = replied .ok [y.state.code] (modifyChannel ch (fun _ => y) s))
    ∧ (Handed .profileRead [channel] s →
        (19 < channel.toNat → exec (.profileRead [channel]) s = replied .badIndex [] s)
        ∧ ∀ ch : Chan, channel.toNat = ch.val →
            exec (.profileRead [channel]) s
              = replied .ok ((if ch.val < 16 then 80 else 160) :: profileBytes (s.chd.get ch).profile) s)

/-- PROFILE.WRITE (R109): refused WRONG_MODE outside QUIESCED, STORE_BUSY during an image operation, BAD_INDEX for a
channel above 19 or a tell-tale source's circuit above 15 or gauge above 2, BAD_REQUEST for an undefined kind or source,
and BAD_TABLE for MOTOR on CH0 to CH15 or, for every kind, a current out of its bounds; a profile that passes is stored,
with an inrush window above 250 and a minimum running duty above 900 clamped and fields its kind does not use at 0 or
absent, and clears its channel's open-load flag alone (R110). -/
def Obligations.ProfileWriteRule : Prop :=
  ∀ (s : State) (channel kind nom trp ol inr md1 md0 st src arg th1 th0 : Byte),
    let p := [channel, kind, nom, trp, ol, inr, md1, md0, st, src, arg, th1, th0]
    Handed .profileWrite p s →
    (s.mdc.mode ≠ .quiesced → exec (.profileWrite p) s = replied .wrongMode [] s)
    ∧ (s.mdc.mode = .quiesced → s.mdc.op ≠ .none → exec (.profileWrite p) s = replied .storeBusy [] s)
    ∧ (s.mdc.mode = .quiesced → s.mdc.op = .none →
        (19 < channel.toNat → exec (.profileWrite p) s = replied .badIndex [] s)
        ∧ ∀ ch : Chan, channel.toNat = ch.val →
            let rating := if ch.val < 16 then 80 else 160
            let fits := nom.toNat ≤ rating ∧ 10 ≤ trp.toNat ∧ trp.toNat ≤ rating ∧ ol.toNat ≤ trp.toNat
            let base : Profile := { kind := .unused, nominal := nom.toNat, trip := trp.toNat, openLoad := ol.toNat
                                    inrush := 0, minDuty := 0, stall := 0, source := none }
            let stored (clamped : Prop) [Decidable clamped] (q : Profile) : Prop :=
              exec (.profileWrite p) s
                = replied (if clamped then .clamped else .ok) (profileBytes q)
                    { s with chd := put s.chd ch { s.chd.get ch with profile := q, openLoadFlag := false } }
            (4 < kind.toNat → exec (.profileWrite p) s = replied .badRequest [] s)
            ∧ (kind.toNat ≤ 3 → ¬fits → exec (.profileWrite p) s = replied .badTable [] s)
            ∧ (kind = 0 → fits → stored False base)
            ∧ (kind = 1 → fits → stored (250 < inr.toNat) { base with kind := .filament, inrush := min inr.toNat 250 })
            ∧ (kind = 2 → fits → stored False { base with kind := .led })
            ∧ (kind = 3 → ch.val < 16 ∨ rating < st.toNat → exec (.profileWrite p) s = replied .badTable [] s)
            ∧ (kind = 3 → 16 ≤ ch.val → st.toNat ≤ rating → fits →
                let md := md1.toNat * 256 + md0.toNat
                stored (900 < md) { base with kind := .motor, minDuty := min md 900, stall := st.toNat })
            ∧ (kind = 4 → src = 1 ∧ 15 < arg.toNat ∨ src = 4 ∧ 2 < arg.toNat →
                exec (.profileWrite p) s = replied .badIndex [] s)
            ∧ (kind = 4 → src = 1 ∧ arg.toNat ≤ 15 ∨ src = 2 ∨ src = 3 ∨ src = 4 ∧ arg.toNat ≤ 2 ∨ src = 5 → ¬fits →
                exec (.profileWrite p) s = replied .badTable [] s)
            ∧ (kind = 4 → src = 0 ∨ 5 < src.toNat → exec (.profileWrite p) s = replied .badRequest [] s)
            ∧ ∀ source : TellSource, kind = 4 → fits →
                (src = 1 ∧ (∃ c : Circ, arg.toNat = c.val ∧ source = .circuit c) ∨ src = 2 ∧ source = .flash
                  ∨ src = 3 ∧ source = .charge ∨ src = 5 ∧ source = .openLoad →
                  stored False { base with kind := .telltale, source := some source })
                ∧ ∀ g : GaugeIx, src = 4 → arg.toNat = g.val →
                    let th := th1.toNat * 256 + th0.toNat
                    stored (th = 0 ∨ 1000 < th)
                      { base with kind := .telltale, source := some (.gaugeHigh g (max 1 (min 1000 th))) })

/-! ### Switch inputs and bindings (06_switch_inputs_and_bindings.md) -/

/-- A scan outside LOADING forms each group's raw code from its inputs, first input as bit 0, under its polarity (R112),
and brings the group's record up to date by the five steps of R114, a group accepting when its run reaches its debounce
count; the levels are kept (R111). In LOADING no scan is made, and the pins show the levels: the model's choice (log
12). -/
def Obligations.ScanRecords : Prop :=
  ∀ (levels : BitVec 26) (s : State), Awake s →
    (s.mdc.mode = .loading → exec (.switchScan levels) s = after { s with pins := { s.pins with levels := levels } })
    ∧ (s.mdc.mode ≠ .loading →
        ∃ t, exec (.switchScan levels) s = .next t ∧ t.sws.levels = levels ∧ t.sws.defs = s.sws.defs
          ∧ ∀ (g : GroupIx) (d : GroupDef),
              (∀ i : Fin 16, g.val = i.val → d = s.sws.defs.get i) →
              (g = ign → d = { first := 24, width := 1, polarity := .activeHigh, debounce := 4 }) →
              (g = start → d = { first := 25, width := 1, polarity := .activeHigh, debounce := 4 }) → d.width ≤ 4 →
              let old := s.sws.recs.get g
              ∃ raw : BitVec 4,
                (∀ i, i < 4 → raw.getLsbD i
                  = (decide (i < d.width) && (levels.getLsbD (d.first + i) == decide (d.polarity = .activeHigh))))
                ∧ ((scanRecs s levels).get g).1 = t.sws.recs.get g
                ∧ (((scanRecs s levels).get g).2 = true
                    ↔ old.accepted ≠ some raw ∧ d.debounce ≤ if old.candidate = some raw then old.run + 1 else 1)
                ∧ (old.accepted = some raw →
                    t.sws.recs.get g = { accepted := old.accepted, raw := some raw, candidate := none, run := 0 })
                ∧ (old.accepted ≠ some raw →
                    let run := if old.candidate = some raw then old.run + 1 else 1
                    t.sws.recs.get g = if d.debounce ≤ run then
                        { accepted := some raw, raw := some raw, candidate := none, run := 0 }
                      else { accepted := old.accepted, raw := some raw, candidate := some raw, run := run }))

/-- What acceptances bring (R115, R126): a pass, begun at once in RUN with none running, on the codes as the scan leaves
them, and otherwise marked; in SLEEP a wake with status WAKE (R188); at IGN = 1 in QUIESCED, RESUME, a load in flight
abandoned with STORE_FAIL (R184, R186); at IGN = 1 in RUN every OFF gauge ACTIVE from rest, at IGN = 0 every gauge OFF
(R148). At an entry to RUN with START standing accepted at 1 a crank begins with status CRANK (R45). At a wake the
supply and the gauges take their entry samples, and at a wake with IGN accepted at 1, and at a RESUME so forced, every
OFF gauge is ACTIVE from rest (R25, R26, R138, R149); the samples are of the values the inputs last presented, the
model's choice (log 12). In RUN and at a wake the sleep entry timer stands at 30,000 ms after it, set back or started,
while its conditions hold (R187). A scan at which no group accepts changes the records and the levels alone. One pass on
all the codes of the scan is the model's choice, where R126 would also allow one begun at the first acceptance (log
11). -/
def Obligations.AcceptanceRules : Prop :=
  ∀ (levels : BitVec 26) (s : State), Awake s → PassesSound s → s.mdc.mode ≠ .loading →
    let recs := scanRecs s levels
    let accepts (g : GroupIx) : Prop := (recs.get g).2 = true
    let ignCode := (recs.get ign).1.accepted
    let startCode := (recs.get start).1.accepted
    let cranks (t : State) : Prop := t.sbu.crank = .cranking ∧ (s.sbu.crank ≠ .cranking → hasFlag .crank t = true)
    let fresh : Pass := { next := 0, codes := tabulate fun g => (recs.get g).1.accepted, gate := .none, chain := none
                          touched := tabulate fun _ => false }
    ((∀ g, ¬accepts g) →
      ∃ t, exec (.switchScan levels) s = after t
        ∧ t = { s with sws := t.sws, pins := { s.pins with levels := levels } })
    ∧ ((∃ g, accepts g) →
        ∃ t, exec (.switchScan levels) s = .next t
          ∧ (s.mdc.mode = .run ∨ s.mdc.mode = .sleep →
              let dozes := ignCode = some 0 ∧ (∀ i, claimAt s i = none) ∧ (∀ image, s.mdc.op ≠ .save image)
                ∧ ∀ r, s.lif.link ≠ .working r
              (dozes → t.mdc.sleepTimer = some 30000) ∧ (¬dozes → t.mdc.sleepTimer = none))
          ∧ (s.mdc.mode ≠ .sleep → t.sbu = { s.sbu with crank := t.sbu.crank })
          ∧ (s.mdc.mode ≠ .sleep → ¬accepts ign → t.gau = s.gau)
          ∧ (s.mdc.mode = .run → t.mdc.mode = .run ∧ t.bde =
              (if s.bde.pass = none then { s.bde with pass := some fresh, passRequested := false }
                else { s.bde with passRequested := true }))
          ∧ (s.mdc.mode = .sleep → t.mdc.mode = .run ∧ hasFlag .wake t = true
              ∧ t.bde = { s.bde with pass := some fresh, passRequested := false }
              ∧ (startCode = some 1 → cranks t)
              ∧ SupplyEnters s t ∧ (∀ g, (t.gau.get g).samples = [(s.pins.senders.get g).toNat])
              ∧ (¬accepts ign ∨ ignCode = some 1 → GaugesEnter (decide (ignCode = some 1)) s t))
          ∧ (s.mdc.mode = .quiesced → ¬(accepts ign ∧ ignCode = some 1) →
              t.mdc = { s.mdc with sleepTimer := none } ∧ t.bde = { s.bde with passRequested := true }
                ∧ t.clt = s.clt)
          ∧ (s.mdc.mode = .quiesced → accepts ign → ignCode = some 1 →
              t.mdc.mode = .run ∧ t.bde.pass = some fresh ∧ t.bde.passRequested = false ∧ GaugesEnter true s t
                ∧ (∀ c, t.crs.inForce.get c = (s.crs.pendingEntry.get c).getD (s.crs.inForce.get c)
                    ∧ t.crs.pendingEntry.get c = none)
                ∧ (startCode = some 1 → cranks t)
                ∧ (s.mdc.op = .load → t.mdc.op = .none ∧ hasFlag .storeFail t = true)
                ∧ (s.mdc.op ≠ .load → t.mdc.op = s.mdc.op))
          ∧ (accepts ign → ignCode ≠ some 1 → ∀ g : GaugeIx, let x := t.gau.get g
              x.state = .off ∧ x.target = 0 ∧ x.filtered = 0 ∧ x.duty = 0 ∧ x.applied = 0 ∧ x.undervolt = false)
          ∧ (s.mdc.mode = .run → accepts ign → ignCode = some 1 → ∀ g : GaugeIx, let x := s.gau.get g
              t.gau.get g = if x.state = .off then
                  { x with state := .active, target := 0, lastGood := 0, filtered := 0, duty := 0, undervolt := false }
                else x))

/-- GROUP.READ returns the definition, the record and the levels and changes nothing (R128); GROUP.WRITE passes its
checks in the order of R129, clamps the debounce count, replaces the definition and sets the record as after reset
(R130). The first byte that GROUP.READ gives for IGN and START is open (log 10). -/
def Obligations.GroupRequests : Prop :=
  let code (o : Option (BitVec 4)) : Byte := match o with | none => 255 | some x => byte x.toNat
  let record (s : State) (g : GroupIx) : List Byte :=
    let r := s.sws.recs.get g
    [code r.accepted, code r.raw, code r.candidate, byte r.run, byte (s.sws.levels.toNat / 2 ^ 24),
     byte (s.sws.levels.toNat / 2 ^ 16), byte (s.sws.levels.toNat / 2 ^ 8), byte s.sws.levels.toNat]
  (∀ (group : Byte) (s : State), Handed .groupRead [group] s →
    (17 < group.toNat → exec (.groupRead [group]) s = replied .badIndex [] s)
    ∧ (∀ i : Fin 16, group.toNat = i.val →
        let d := s.sws.defs.get i
        exec (.groupRead [group]) s
          = replied .ok ([byte d.first, byte d.width, match d.polarity with | .activeLow => 0 | .activeHigh => 1,
              byte d.debounce] ++ record s (i.castLE (by decide))) s)
    ∧ ∀ g : GroupIx, group.toNat = g.val → g = ign ∨ g = start →
        ∃ first : Byte, exec (.groupRead [group]) s = replied .ok ([first, 1, 1, 4] ++ record s g) s)
  ∧ ∀ (group f w pol n : Byte) (s : State), let p := [group, f, w, pol, n]
      Handed .groupWrite p s →
      (s.mdc.mode ≠ .quiesced → exec (.groupWrite p) s = replied .wrongMode [] s)
      ∧ (s.mdc.mode = .quiesced → s.mdc.op ≠ .none → exec (.groupWrite p) s = replied .storeBusy [] s)
      ∧ (s.mdc.mode = .quiesced → s.mdc.op = .none →
          (15 < group.toNat ∨ 23 < f.toNat → exec (.groupWrite p) s = replied .badIndex [] s)
          ∧ (group.toNat ≤ 15 → f.toNat ≤ 23 → 1 < pol.toNat → exec (.groupWrite p) s = replied .badRequest [] s)
          ∧ (group.toNat ≤ 15 → f.toNat ≤ 23 → pol.toNat ≤ 1 → w = 0 ∨ 4 < w.toNat ∨ 24 < f.toNat + w.toNat →
              exec (.groupWrite p) s = replied .badTable [] s)
          ∧ ∀ i : Fin 16, group.toNat = i.val → pol.toNat ≤ 1 → 1 ≤ w.toNat → w.toNat ≤ 4 → f.toNat + w.toNat ≤ 24 →
              let m := max 2 (min 16 n.toNat)
              exec (.groupWrite p) s
                = replied (if m = n.toNat then .ok else .clamped) [f, w, pol, byte m]
                    { s with sws := { s.sws with
                        defs := put s.sws.defs i
                          { first := f.toNat, width := w.toNat
                            polarity := if pol = 0 then .activeLow else .activeHigh, debounce := m }
                        recs := put s.sws.recs (i.castLE (by decide))
                          { accepted := none, raw := none, candidate := none, run := 0 } } })

/-- A test passes by its operation on the masked code, and never on an UNKNOWN code (R118). A step of a pass, its last
one too, judges and records the binding's test (R119) by the chain (R122) and the gate (R121); before the last it
advances both and goes on to the next binding; it touches a claim at an action binding with an action alone (R120).
Without a running pass in RUN, PASS_STEP does nothing (R126). When B63 has been taken the pass ends (R125): every
circuit it has changed stands resolved, and a requested pass begins on the codes as they stand (R126). A BIND.WRITE that
waits, the sleep entry timer being stopped by it (R187), is carried out and answered as between passes (BindRequests),
on the state in which the pass ends without it and before the requested pass begins (R127, R133), its checks included:
the model's reading (log 26). -/
def Obligations.PassRule : Prop :=
  let judged (s t : State) (p : Pass) : Prop :=
    let old := s.bde.recs.get p.next
    let recorded (result verdict : Option Bool) : Prop := ∀ b : BindIx,
      (t.bde.recs.get b).result = (if b = p.next then result else (s.bde.recs.get b).result)
        ∧ (t.bde.recs.get b).verdict = (if b = p.next then verdict else (s.bde.recs.get b).verdict)
    (match s.bde.entries.get p.next with
      | .unused | .gateEnd => recorded old.result old.verdict
      | .gate x | .test x true _ => recorded (some (x.passes p.codes)) old.verdict
      | .test x false _ => recorded (some (x.passes p.codes))
          (some (p.chain.getD true && x.passes p.codes && decide (p.gate ≠ .closed))))
    ∧ ((∀ x a, s.bde.entries.get p.next ≠ .test x false (some a)) →
        t.clt = s.clt ∧ t.lif = s.lif ∧ ∀ b, (t.bde.recs.get b).link = (s.bde.recs.get b).link)
  ((∀ (codes : Vector (Option (BitVec 4)) 18) (x : Test),
     (codes.get x.group = none → x.passes codes = false)
     ∧ ∀ code, codes.get x.group = some code →
         (x.passes codes = true ↔ match x.op with
           | .eq => code &&& x.mask = x.value
           | .ne => code &&& x.mask ≠ x.value
           | .any => code &&& x.mask ≠ 0
           | .none => code &&& x.mask = 0))
   ∧ (∀ s : State, Awake s → s.mdc.mode ≠ .run ∨ s.bde.pass = none → exec .passStep s = after s)
   ∧ ∀ (s : State) (p : Pass), Awake s → s.mdc.mode = .run → s.bde.pass = some p → p.next.val < 63 →
       ∃ t q, exec .passStep s = after t ∧ t.bde.pass = some q ∧ q.next.val = p.next.val + 1 ∧ q.codes = p.codes
         ∧ t.bde.entries = s.bde.entries ∧ t.bde.waiting = s.bde.waiting
         ∧ (∀ c, p.touched.get c = true → q.touched.get c = true)
         ∧ t.crs = s.crs ∧ t.fls = s.fls ∧ t.chd = s.chd ∧ t.sbu = s.sbu ∧ t.sws = s.sws ∧ t.gau = s.gau ∧ t.mdc = s.mdc
         ∧ judged s t p
         ∧ (match s.bde.entries.get p.next with
             | .unused => q.gate = p.gate ∧ q.chain = p.chain
             | .gateEnd => q.gate = .none ∧ q.chain = none
             | .gate x => q.gate = (if x.passes p.codes then .opened else .closed) ∧ q.chain = none
             | .test x true _ => q.gate = p.gate ∧ q.chain = some (p.chain.getD true && x.passes p.codes)
             | .test _ false _ => q.gate = p.gate ∧ q.chain = none)
         ∧ ((∀ x a, s.bde.entries.get p.next ≠ .test x false (some a)) →
             t.bde.passRequested = s.bde.passRequested ∧ q.touched = p.touched))
  ∧ (∀ (s : State) (p : Pass), Awake s → s.mdc.mode = .run → s.bde.pass = some p → p.next.val = 63 →
       ∃ t, exec .passStep s = after t
         ∧ (∀ c, p.touched.get c = true → t.crs.resolved.get c = resolve t c)
         ∧ t.bde.waiting = none
         ∧ (s.bde.waiting = none → judged s t p ∧ t.bde.entries = s.bde.entries ∧ t.sbu = s.sbu ∧ t.sws = s.sws
             ∧ t.gau = s.gau ∧ t.mdc = s.mdc ∧ t.crs.inForce = s.crs.inForce
             ∧ ∀ c, (touchedCircuits s.clt t.clt).get c = true → t.crs.resolved.get c = resolve t c)
         ∧ (s.bde.passRequested = true →
             t.bde.pass = some { next := 0, codes := tabulate fun g => (s.sws.recs.get g).accepted, gate := .none
                                 chain := none, touched := tabulate fun _ => false } ∧ t.bde.passRequested = false)
         ∧ (s.bde.waiting = none → s.bde.passRequested = false →
             (∀ x a, s.bde.entries.get 63 ≠ .test x false (some a)) → t.bde.pass = none)
         ∧ ∀ w, s.bde.waiting = some w → s.lif.link = .working { req := .bindWrite, params := w } →
             (∃ reply, t.lif.link = .replyReady reply)
             ∧ (s.mdc.sleepTimer = none →
                 ∃ ended t', exec .passStep { s with bde := { s.bde with waiting := none } } = .next ended
                   ∧ ended.bde.passRequested = false ∧ ended.mdc.mode = .run
                   ∧ let between := { ended with bde := { ended.bde with pass := none } }
                     Handed .bindWrite w between ∧ exec (.bindWrite w) between = .next t'
                     ∧ exec .passStep s = .next { t' with
                         bde := { t'.bde with
                           pass := if t'.bde.pass.isSome then t'.bde.pass else ended.bde.pass } }))

/-- At an action binding with an action the pass brings the binding's claim into agreement with the verdict, by the rows
of R123, a raise by R10 and R124; so too at B63, where the pass then ends, unless a BIND.WRITE waits for its end. A
raise takes the lowest free slot and admission places it, with CLAIM_HELD when it is HELD (R34). With an empty channel
list and no free slot at once the binding is not WANTING and TABLE_FULL is not set: the model's choice (log 39). -/
def Obligations.ReconcileRule : Prop :=
  ∀ (s : State) (p : Pass) (x : Test) (a : Action), Awake s → s.mdc.mode = .run → s.bde.pass = some p →
    (p.next.val = 63 → s.bde.waiting = none) → s.bde.entries.get p.next = .test x false (some a) → LinksAgree s →
    CollectionsExact s →
    (s.crs.inForce.get a.circuit).maxLevel ≠ 0 →
    let matched := p.chain.getD true && x.passes p.codes && decide (p.gate ≠ .closed)
    let link := (s.bde.recs.get p.next).link
    let max := maxLevelOf s a.circuit
    let req := if a.mode = .flash then max else if a.level = 0 then 1 else min max a.level
    let asked : Claim :=
      { origin := .binding p.next, circuit := a.circuit, mode := a.mode, cls := a.cls, requested := req
        floor := if a.mode = .flash then max else match a.floor with
          | none => req
          | some f => if f = 0 then 1 else min req f
        shareFull := match a.share with
          | some n => min n 250
          | none => min 250 ((s.crs.inForce.get a.circuit).channels.map fun ch => (s.chd.get ch).profile.nominal).sum
        source := if a.share.isSome then .given else .circuit
        state := .held { budgetTimer := none, crank := false, host := false }, expiry := none, settle := none }
    let cl := asked.placed s
    ∃ t, exec .passStep s = after t
      ∧ (∀ b, b ≠ p.next → (t.bde.recs.get b).link = (s.bde.recs.get b).link)
      ∧ let linked (l : BindLink) : Prop := (t.bde.recs.get p.next).link = l
        (matched = true → (∀ h, link ≠ .claim h) →
          ((s.crs.inForce.get a.circuit).channels = [] → linked .none ∧ t.clt = s.clt ∧ t.lif = s.lif)
          ∧ ((s.crs.inForce.get a.circuit).channels ≠ [] →
              ((∀ i, (claimAt s i).isSome = true) → linked .wanting ∧ t.clt = s.clt
                ∧ t.lif = { s.lif with status := s.lif.status ||| 0x1000 })
              ∧ ∀ i, claimAt s i = none → (∀ j, j < i → (claimAt s j).isSome = true) →
                  linked (.claim { slot := i, gen := (s.clt.slots.get i).gen }) ∧ OneRecord s t i cl ∧ Placed s t i cl
                    ∧ t.lif = if cl.isHeld then { s.lif with status := s.lif.status ||| 0x4 } else s.lif))
        ∧ (∀ h c, link = .claim h → claimAt s h.slot = some c →
            (matched = true → linked link ∧ OneRecord s t h.slot { c with expiry := none } ∧ SamePlaces s t
              ∧ t.lif = s.lif)
            ∧ (matched = false → 0 < a.offDelay →
                linked link ∧ OneRecord s t h.slot { c with expiry := some (c.expiry.getD a.offDelay) }
                  ∧ SamePlaces s t ∧ t.lif = s.lif)
            ∧ (matched = false → a.offDelay = 0 →
                linked .none ∧ claimAt t h.slot = none ∧ (t.clt.slots.get h.slot).gen = h.gen + 1
                  ∧ (∀ j, j ≠ h.slot → t.clt.slots.get j = s.clt.slots.get j)
                  ∧ t.clt.grantList = s.clt.grantList.filter (· ≠ h.slot)
                  ∧ t.clt.heldQueue = s.clt.heldQueue.filter (· ≠ h.slot) ∧ t.lif = s.lif))
        ∧ (matched = false → (∀ h, link ≠ .claim h) → linked .none ∧ t.clt = s.clt ∧ t.lif = s.lif)

/-- BIND.READ returns the entry, the claim link, the test result and the verdict, and changes nothing (R131). BIND.WRITE
that arrives while a pass runs waits, the link WORKING (R127); between passes it passes its checks in the order of R132,
stores the entry with its action's values clamped and the fields its kind does not use at their held values, retires the
binding's claim or removes its WANTING mark, and requests a pass, begun at once in RUN (R133). The model's choice (log
22): undefined bits of the flags byte are ignored. -/
def Obligations.BindRequests : Prop :=
  (∀ (b : BindIx) (s : State), Handed .bindRead [byte b.val] s →
    let r := s.bde.recs.get b
    let mark (o : Option Bool) : Byte := match o with | none => 0 | some true => 1 | some false => 2
    exec (.bindRead [byte b.val]) s
      = replied .ok (bindBytes (s.bde.entries.get b)
          ++ be16 (match r.link with | .claim h => h.slot.val * 16 + h.gen.val | .wanting => 65534 | .none => 65535)
          ++ [mark r.result, mark r.verdict]) s)
  ∧ (∀ (b : Byte) (s : State), 63 < b.toNat → Handed .bindRead [b] s →
      exec (.bindRead [b]) s = replied .badIndex [] s)
  ∧ (∀ (p : List Byte) (s : State), Handed .bindWrite p s → s.bde.pass.isSome = true →
      exec (.bindWrite p) s = after { s with bde := { s.bde with waiting := some p } })
  ∧ ∀ (s : State) (binding kind group mask op value flags circuit mode cls level floor share od1 od0 : Byte),
      let p := [binding, kind, group, mask, op, value, flags, circuit, mode, cls, level, floor, share, od1, od0]
      Handed .bindWrite p s → s.bde.pass = none → (s.mdc.mode = .run → s.bde.passRequested = false) →
      let refuses (c : ReplyCode) : Prop := exec (.bindWrite p) s = replied c [] s
      let stores (b : BindIx) (clamped : Bool) (e : BindEntry) : Prop :=
        let link := (s.bde.recs.get b).link
        ∃ t, exec (.bindWrite p) s
            = replied (if clamped then .clamped else .ok)
                (bindBytes e ++ be16 (match link with | .claim h => h.slot.val * 16 + h.gen.val | _ => 65535)) t
          ∧ t.bde.entries = put s.bde.entries b e
          ∧ (LinksAgree s → ∀ k, t.bde.recs.get k
              = if k = b then { link := .none, result := none, verdict := none } else s.bde.recs.get k)
          ∧ ((∀ h, link ≠ .claim h) → t.clt = s.clt ∧ t.crs = s.crs ∧ t.fls = s.fls ∧ t.chd = s.chd)
          ∧ (∀ h, link = .claim h → claimAt t h.slot = none ∧ ∀ j, j ≠ h.slot → t.clt.slots.get j = s.clt.slots.get j)
          ∧ t.lif = s.lif ∧ t.sbu = s.sbu ∧ t.sws = s.sws ∧ t.gau = s.gau ∧ t.mdc = s.mdc
          ∧ (s.mdc.mode = .run → t.bde.passRequested = false
              ∧ t.bde.pass = some { next := 0, codes := tabulate fun g => (s.sws.recs.get g).accepted, gate := .none
                                    chain := none, touched := tabulate fun _ => false })
          ∧ (s.mdc.mode ≠ .run → t.bde.passRequested = true ∧ t.bde.pass = none)
      (s.mdc.op ≠ .none → refuses .storeBusy)
      ∧ (s.mdc.op = .none →
          (63 < binding.toNat → refuses .badIndex)
          ∧ ∀ b : BindIx, binding.toNat = b.val →
              (3 < kind.toNat → refuses .badRequest)
              ∧ (kind = 0 → stores b false .unused) ∧ (kind = 3 → stores b false .gateEnd)
              ∧ (kind = 1 ∨ kind = 2 → 17 < group.toNat → refuses .badIndex)
              ∧ (kind = 1 → flags.getLsbD 1 = true → 15 < circuit.toNat → refuses .badIndex)
              ∧ (kind = 1 ∨ kind = 2 → group.toNat ≤ 17 → (kind = 1 → flags.getLsbD 1 = true → circuit.toNat ≤ 15) →
                  3 < op.toNat ∨ kind = 1 ∧ flags.getLsbD 1 = true ∧ (1 < mode.toNat ∨ 3 < cls.toNat) →
                  refuses .badRequest)
              ∧ ∀ (g : GroupIx) (o : TestOp), group.toNat = g.val → o.code = op →
                  let x : Test := { group := g, mask := mask.setWidth 4, op := o, value := value.setWidth 4 }
                  (kind = 2 → stores b false (.gate x))
                  ∧ (kind = 1 → flags.getLsbD 1 = false → stores b false (.test x (flags.getLsbD 0) none))
                  ∧ ∀ (c : Circ) (m : ClaimMode) (k : ClaimClass), kind = 1 → flags.getLsbD 1 = true →
                      circuit.toNat = c.val → m.code = mode → k.code = cls →
                      let l := max 1 (min 15 level.toNat)
                      let od := od1.toNat * 256 + od0.toNat
                      stores b
                        (decide (l ≠ level.toNat) || decide (l < floor.toNat)
                          || (flags.getLsbD 2 && decide (250 < share.toNat)) || decide (14400 < od))
                        (.test x (flags.getLsbD 0) (some
                          { circuit := c, mode := m, cls := k, level := l
                            floor := if floor = 0 then none else some (min floor.toNat l)
                            share := if flags.getLsbD 2 then some (min share.toNat 250) else none
                            offDelay := min od 14400 })))

/-! ### Period gauges (07_period_gauges.md) -/

/-- An update in RUN of a gauge with samples: the reading is their mean (R139), classed before any division, with the
sender resistance of an in-range one (R140); a gauge in OFF is otherwise untouched (R138); in every other state the
filtered deflection moves toward the target by R142 and the duty follows by R143. Outside RUN there is no update. The
deflection of a calibration table lies on the segment that holds the sender resistance, rounded to the nearest, and at
the end points beyond them (R141). -/
def Obligations.GaugeUpdateRule : Prop :=
  (∀ s : State, Awake s →
     (s.mdc.mode ≠ .run → exec .gaugeUpdate s = after s)
     ∧ (s.mdc.mode = .run → ∃ t, exec .gaugeUpdate s = after t
         ∧ (t.clt = s.clt ∧ t.sbu = s.sbu ∧ t.crs = s.crs ∧ t.sws = s.sws ∧ t.bde = s.bde ∧ t.mdc = s.mdc)
         ∧ ∀ (g : GaugeIx) (x : Nat) (xs : List Nat), (s.gau.get g).samples = x :: xs →
             let old := s.gau.get g
             let new := t.gau.get g
             let a := (x + xs.sum) / (xs.length + 1)
             let cls : ReadingClass := if 4080 ≤ a then .openSender else if a ≤ 15 then .short
               else .inRange (min 9999 ((4400 * a + (4095 - a)) / (2 * (4095 - a))))
             let gap : Int := (new.target : Int) - old.filtered
             let step := Int.tdiv (gap * old.settings.k) 256
             let vb := max 600 s.sbu.vbatF
             let raw := (2 * (new.filtered * old.settings.vstab ^ 2) + vb ^ 2) / (2 * vb ^ 2)
             new.samples = [] ∧ new.settings = old.settings ∧ new.reading = some { a := a, cls := cls }
               ∧ new.applied = old.applied
               ∧ (old.state = .off → new = { old with samples := [], reading := new.reading })
               ∧ (old.state ≠ .off → old.settings.k ≤ 256 →
                   ((new.filtered : Int) = old.filtered
                       + (if step ≠ 0 then step else if 0 < gap then 1 else if gap < 0 then -1 else 0))
                     ∧ min old.filtered new.target ≤ new.filtered ∧ new.filtered ≤ max old.filtered new.target
                     ∧ (old.filtered ≤ 1000 → new.target ≤ 1000 → new.filtered ≤ 1000))
               ∧ (old.state ≠ .off → new.duty = min 1000 raw ∧ new.undervolt = decide (1000 < raw))))
  ∧ (∀ (points : List (Nat × Nat)) (rs : Nat), increasing (points.map (·.1)) = true →
       (∀ r d rest, points = (r, d) :: rest → rs < r → calibrate points rs = d)
       ∧ ((∀ q ∈ points, q.2 ≤ 1000) → calibrate points rs ≤ 1000)
       ∧ (∀ r d front, points = front ++ [(r, d)] → r ≤ rs → calibrate points rs = d)
       ∧ ∀ r0 d0 r1 d1 front back, points = front ++ (r0, d0) :: (r1, d1) :: back → r0 ≤ rs → rs < r1 →
           min d0 d1 ≤ calibrate points rs ∧ calibrate points rs ≤ max d0 d1
             ∧ 2 * ((d0 : Int) * ((r1 : Int) - r0) + ((d1 : Int) - d0) * ((rs : Int) - r0))
                 < (2 * (calibrate points rs : Int) + 1) * ((r1 : Int) - r0)
             ∧ (2 * (calibrate points rs : Int) - 1) * ((r1 : Int) - r0)
                 ≤ 2 * ((d0 : Int) * ((r1 : Int) - r0) + ((d1 : Int) - d0) * ((rs : Int) - r0)))

/-- The judgement of a reading by its class (R145, R146, R147): in range, ACTIVE and SUSPECT take its deflection as
target and last good target, and FAULT_HOLD and FAULT_REST do so at the fourth in a row; out of range, the fourth in a
row confirms a fault with status SENDER, held for 80 updates before the target becomes 0. Where no gauge passes from
SUSPECT to FAULT_HOLD the status stands as before (R146). -/
def Obligations.SenderFaultRule : Prop :=
  ∀ (s : State) (g : GaugeIx) (x : Nat) (xs : List Nat), Awake s → s.mdc.mode = .run → (s.gau.get g).samples = x :: xs →
    let old := s.gau.get g
    let a := (x + xs.sum) / (xs.length + 1)
    ∃ t, exec .gaugeUpdate s = after t
      ∧ (∀ f : Flag, f ≠ .sender → hasFlag f t = hasFlag f s)
      ∧ t.lif = { s.lif with status := t.lif.status }
      ∧ (hasFlag .sender t = true ↔ hasFlag .sender s = true
          ∨ ∃ (k : GaugeIx) (n : Nat) (kind : FaultKind),
              (s.gau.get k).state = .suspect n ∧ (t.gau.get k).state = .faultHold kind 0 0)
      ∧ let new := t.gau.get g
        let kept (st : GaugeState) : Prop := new.state = st ∧ new.target = old.target ∧ new.lastGood = old.lastGood
        let rests (k : FaultKind) (n : Nat) : Prop :=
          new.state = .faultRest k n ∧ new.target = 0 ∧ new.lastGood = old.lastGood
        (∀ rs, classOf a = .inRange rs →
          let d := calibrate old.settings.points rs
          let accepts : Prop := new.state = .active ∧ new.target = d ∧ new.lastGood = d
          (old.state = .active → accepts) ∧ (∀ n, old.state = .suspect n → accepts)
          ∧ (∀ k hold n, old.state = .faultHold k hold n →
              (3 ≤ n → accepts) ∧ (n < 3 → hold < 79 → kept (.faultHold k (hold + 1) (n + 1)))
                ∧ (n < 3 → 79 ≤ hold → rests k (n + 1)))
          ∧ (∀ k n, old.state = .faultRest k n → (3 ≤ n → accepts) ∧ (n < 3 → kept (.faultRest k (n + 1)))))
        ∧ ∀ kind : FaultKind, classOf a = (match kind with | .openSender => .openSender | .short => .short) →
            (old.state = .active → kept (.suspect 1))
            ∧ (∀ n, old.state = .suspect n →
                (n < 3 → kept (.suspect (n + 1)))
                  ∧ (3 ≤ n → kept (.faultHold kind 0 0) ∧ hasFlag .sender t = true))
            ∧ (∀ k hold n, old.state = .faultHold k hold n →
                (hold < 79 → kept (.faultHold kind (hold + 1) 0)) ∧ (79 ≤ hold → rests kind 0))
            ∧ (∀ k n, old.state = .faultRest k n → kept (.faultRest kind 0))

/-- The heater period's end applies the duty of the latest update, in RUN (R144); the end of a fault hold taken by
itself, at its 79th count, brings FAULT_REST with target 0, and at another count does not fall (R146, log 3). GAUGE.READ
returns the record or the settings and changes nothing (R152). The model's choices: an absent sender resistance reads
65535 and an absent class 255 (log 25), and of the read's two checks, which R152 does not order, that of the view comes
first (log 36). -/
def Obligations.GaugeEvents : Prop :=
  (∀ (s : State) (g : GaugeIx), Awake s →
    let x := s.gau.get g
    (s.mdc.mode = .run →
      exec (.heaterPeriodEnd g) s = after { s with gau := put s.gau g { x with applied := x.duty } })
    ∧ (s.mdc.mode ≠ .run → exec (.heaterPeriodEnd g) s = after s ∧ exec (.faultHoldEnd g) s = after s)
    ∧ (∀ k n, s.mdc.mode = .run → x.state = .faultHold k 79 n →
        ∃ t, exec (.faultHoldEnd g) s = after t ∧ t.crs = s.crs
          ∧ OutputsAside { s with gau := put s.gau g { x with state := .faultRest k n, target := 0 } } t)
    ∧ ((∀ k n, x.state ≠ .faultHold k 79 n) → DemandsFollow s → exec (.faultHoldEnd g) s = after s))
  ∧ ∀ (s : State) (gauge view : Byte), Handed .gaugeRead [gauge, view] s →
      (1 < view.toNat → exec (.gaugeRead [gauge, view]) s = replied .badRequest [] s)
      ∧ (view.toNat ≤ 1 → 2 < gauge.toNat → exec (.gaugeRead [gauge, view]) s = replied .badIndex [] s)
      ∧ ∀ g : GaugeIx, gauge.toNat = g.val → let x := s.gau.get g
          let cls : Byte := match x.reading with
            | none => 255 | some { cls := .inRange _, .. } => 0 | some { cls := .openSender, .. } => 1
            | some { cls := .short, .. } => 2
          let counts : List Byte := match x.state with
            | .off => [0, 0, 0, 0, 0]
            | .active => [1, 0, 0, 0, 0]
            | .suspect n => [2, byte n, 0, 0, 0]
            | .faultHold .openSender h n => [3, 0, byte h, byte n, 1]
            | .faultHold .short h n => [3, 0, byte h, byte n, 2]
            | .faultRest .openSender n => [4, 0, 0, byte n, 1]
            | .faultRest .short n => [4, 0, 0, byte n, 2]
          (view = 1 → exec (.gaugeRead [gauge, view]) s = replied .ok (gaugeBytes x.settings) s)
          ∧ (view = 0 → exec (.gaugeRead [gauge, view]) s
              = replied .ok
                  (be16 (match x.reading with | none => 65535 | some r => r.a) ++ [cls]
                    ++ be16 (match x.reading with | some { cls := .inRange rs, .. } => rs | _ => 65535)
                    ++ be16 x.target ++ be16 x.lastGood ++ be16 x.filtered ++ be16 x.duty ++ be16 x.applied
                    ++ counts ++ [boolByte x.undervolt]) s)

/-- GAUGE.SET (R153): refused WRONG_MODE outside RUN, STORE_BUSY during an image operation, BAD_INDEX above GA2,
BAD_TABLE for a count outside 2 to 8, whatever the length (R172), a resistance above 9999 or resistances out of order;
otherwise the settings are replaced, deflections, k and Vstab clamped, and the running record is kept. The points are
read from three bytes each, the resistance in the upper 14 bits and the deflection in the lower 10 (R172). FLASHER.SET
(R81): refused STORE_BUSY during an image operation, BAD_REQUEST for a length other than two or a ticker that is not on
or off; otherwise the rate, clamped to 60–120, and the ticker are set, and the phase in progress keeps its timing. -/
def Obligations.SettingsRequests : Prop :=
  (∀ (s : State) (gauge n k1 k0 v1 v0 : Byte) (points : List (Nat × Nat)), n.toNat = points.length →
     (∀ q ∈ points, q.1 < 2 ^ 14 ∧ q.2 < 2 ^ 10) →
     let p := gauge :: n :: points.flatMap (fun q => be24 (q.1 * 1024 + q.2)) ++ [k1, k0, v1, v0]
     Handed .gaugeSet p s →
     let refuses (c : ReplyCode) : Prop := exec (.gaugeSet p) s = replied c [] s
     (s.mdc.mode ≠ .run → refuses .wrongMode)
     ∧ (s.mdc.mode = .run → s.mdc.op ≠ .none → refuses .storeBusy)
     ∧ (s.mdc.mode = .run → s.mdc.op = .none →
         (2 < gauge.toNat → refuses .badIndex)
         ∧ ∀ g : GaugeIx, gauge.toNat = g.val →
             (points.length < 2 ∨ 8 < points.length → refuses .badTable)
             ∧ (2 ≤ points.length → points.length ≤ 8 →
                 ((∃ q ∈ points, 9999 < q.1) ∨ increasing (points.map (·.1)) = false → refuses .badTable)
                 ∧ ((∀ q ∈ points, q.1 ≤ 9999) → increasing (points.map (·.1)) = true →
                     let k := k1.toNat * 256 + k0.toNat
                     let v := v1.toNat * 256 + v0.toNat
                     let set : GaugeSettings :=
                       { points := points.map fun q => (q.1, min q.2 1000), k := max 1 (min 256 k)
                         vstab := max 800 (min 1200 v) }
                     exec (.gaugeSet p) s
                       = replied (if (∃ q ∈ points, 1000 < q.2) ∨ k = 0 ∨ 256 < k ∨ v < 800 ∨ 1200 < v then .clamped
                           else .ok) (gaugeBytes set)
                           { s with gau := put s.gau g { s.gau.get g with settings := set } }))))
  ∧ (∀ (s : State) (gauge n : Byte) (rest : List Byte), let p := gauge :: n :: rest
       Handed .gaugeSet p s → s.mdc.mode = .run → s.mdc.op = .none → n.toNat < 2 ∨ 8 < n.toNat →
         (2 < gauge.toNat → exec (.gaugeSet p) s = replied .badIndex [] s)
         ∧ (gauge.toNat ≤ 2 → exec (.gaugeSet p) s = replied .badTable [] s))
  ∧ (∀ (p : List Byte) (s : State), Handed .flasherSet p s →
       (s.mdc.op ≠ .none → exec (.flasherSet p) s = replied .storeBusy [] s)
       ∧ (s.mdc.op = .none →
           (p.length ≠ 2 → exec (.flasherSet p) s = replied .badRequest [] s)
           ∧ ∀ rate ticker : Byte, p = [rate, ticker] →
               (1 < ticker.toNat → exec (.flasherSet p) s = replied .badRequest [] s)
               ∧ (ticker.toNat ≤ 1 →
                   let r := if rate.toNat < 60 then 60 else if 120 < rate.toNat then 120 else rate.toNat
                   let inForce := match s.fls.phase with | .lit n _ _ => n | .dark n _ => n | .idle => 0
                   exec (.flasherSet p) s
                     = replied (if r = rate.toNat then .ok else .clamped) [byte r, ticker, byte inForce]
                         { s with fls := { s.fls with rateSet := r, ticker := ticker = 1 } })))

/-- Every step keeps the heaters safe: each duty within 0 to 1000 ‰, and 0 while IGN's accepted code is not 1 or the
mode is not RUN, where every gauge is OFF (R144, R148, R149); and the channels sound: LOCKED exactly at a trip count of
3 (R98), driven only in RUN, and with no duty, target or sample while not driven (R88, R87); and every channel acting on
its demand in RUN: started above 0, OFF at 0, and driving toward the target its demand gives (R56, R90, R94, R100,
R101). -/
def Obligations.HardwareKept : Prop :=
  (∀ s t : State, HeatersSafe s → step s = .next t → HeatersSafe t)
  ∧ (∀ s t : State, ChannelsSound s → step s = .next t → ChannelsSound t)
  ∧ (∀ s t : State, DrivesFollow s ∧ LoadsQuiesced s → step s = .next t → DrivesFollow t ∧ LoadsQuiesced t)

/-! ### Modes, stored image and sleep (09_modes_stored_image_and_sleep.md) -/

/-- QUIESCE (R183): refused WRONG_MODE outside RUN, STORE_BUSY during a save and IGNITION_ON while IGN is accepted at 1;
otherwise the mode becomes QUIESCED, every channel is OFF or stays LOCKED with demand 0 (R101), the Flasher goes IDLE
(R70), every gauge is OFF (R149), a running pass is abandoned with a pass requested (R126), and every claim keeps its
state and its place. After each event the sleep entry timer is stopped while one of its four conditions fails, and while
they hold it runs on, or starts at 30,000 ms (R187). Its end, with its conditions holding (R187): the part enters SLEEP
with every channel OFF or LOCKED, every gauge OFF, the crank and the host hold ended, both runs 0, and the link IDLE
with no reply waiting; the status set and the enable set stand. While a condition fails the event does not fall. The
model's choices: the event is itself the timer's end, whatever time it shows (log 2), and a QUIESCE with parameters is
refused BAD_REQUEST before its ignition check (log 35). -/
def Obligations.LeavingRun : Prop :=
  (∀ s : State,
     let dozes := s.mdc.mode = .run ∧ acceptedCode s ign = some 0 ∧ (∀ i, claimAt s i = none)
       ∧ (∀ image, s.mdc.op ≠ .save image) ∧ ∀ r, s.lif.link ≠ .working r
     ∃ timer, settleTimer s = { s with mdc := { s.mdc with sleepTimer := timer } }
       ∧ (dozes → timer = some (s.mdc.sleepTimer.getD 30000)) ∧ (¬dozes → timer = none))
  ∧ (∀ (p : List Byte) (s : State), Handed .quiesce p s → p ≠ [] → s.mdc.mode = .run → (∀ image, s.mdc.op ≠ .save image) →
     exec (.quiesce p) s = replied .badRequest [] s)
  ∧ (∀ s : State, Handed .quiesce [] s →
     (s.mdc.mode ≠ .run → exec (.quiesce []) s = replied .wrongMode [] s)
     ∧ (∀ image, s.mdc.mode = .run → s.mdc.op = .save image → exec (.quiesce []) s = replied .storeBusy [] s)
     ∧ (s.mdc.mode = .run → (∀ image, s.mdc.op ≠ .save image) → acceptedCode s ign = some 1 →
         exec (.quiesce []) s = replied .ignitionOn [] s)
     ∧ (s.mdc.mode = .run → (∀ image, s.mdc.op ≠ .save image) → acceptedCode s ign ≠ some 1 → DrivenInRun s →
         ∃ t, exec (.quiesce []) s = replied .ok [2] t
           ∧ t.mdc = { s.mdc with mode := .quiesced } ∧ t.clt = s.clt ∧ t.sbu = s.sbu ∧ t.lif = s.lif ∧ t.sws = s.sws
           ∧ t.store = s.store ∧ t.fls.phase = .idle ∧ (s.fls.phase ≠ .idle → t.fls.fast = false)
           ∧ t.bde = { s.bde with pass := none, passRequested := s.bde.passRequested || s.bde.pass.isSome }
           ∧ (∀ ch, let c := t.chd.get ch
               c.demand = 0 ∧ c.applied = 0 ∧ c.profile = (s.chd.get ch).profile
                 ∧ c.tripCount = (s.chd.get ch).tripCount ∧ c.openLoadFlag = (s.chd.get ch).openLoadFlag
                 ∧ c.lifetime = (s.chd.get ch).lifetime
                 ∧ ((∃ b, (s.chd.get ch).state = .locked b) → c.state = .locked true)
                 ∧ (c.state = .off ∨ c.state = .locked true))
           ∧ ∀ g, let x := t.gau.get g
               x.state = .off ∧ x.samples = [] ∧ x.target = 0 ∧ x.filtered = 0 ∧ x.duty = 0 ∧ x.applied = 0
                 ∧ x.undervolt = false ∧ x.reading = (s.gau.get g).reading ∧ x.settings = (s.gau.get g).settings))
  ∧ (∀ s : State, Awake s →
       let quiet := s.mdc.mode = .run ∧ acceptedCode s ign = some 0 ∧ noClaims s.clt = true
         ∧ (∀ image, s.mdc.op ≠ .save image) ∧ (∀ r, s.lif.link ≠ .working r)
       (¬quiet ∨ s.mdc.sleepTimer = none → exec .sleepEntry s = after s)
       ∧ (quiet → s.mdc.sleepTimer.isSome = true → DrivenInRun s →
           ∃ t, exec .sleepEntry s = .next t ∧ t.mdc = { s.mdc with mode := .sleep, sleepTimer := none }
             ∧ t.lif = { s.lif with link := .idle } ∧ t.clt.slots = s.clt.slots ∧ t.fls.phase = .idle
             ∧ t.sbu = { s.sbu with samples := [], deficitRun := 0, surplusRun := 0, crank := .none, hostHold := none }
             ∧ (∀ ch, (t.chd.get ch).applied = 0 ∧ (t.chd.get ch).demand = 0
                 ∧ ((t.chd.get ch).state = .off ∨ (t.chd.get ch).state = .locked true))
             ∧ ∀ g, (t.gau.get g).state = .off ∧ (t.gau.get g).duty = 0 ∧ (t.gau.get g).applied = 0))

/-- RESUME by request (R184): refused WRONG_MODE outside QUIESCED and STORE_BUSY during a load; otherwise the pending
entries come into force, the claims on circuits that have lost their channels are retired without a status flag and
counted in the reply, every other claim's levels are brought within the new maximum levels and a share from the circuit
is taken again, the mode becomes RUN and a pass begins. The gauges restart, each OFF one ACTIVE from rest with IGN
accepted at 1 (R138, R149), their entry samples of the values last presented: the model's choice (log 12). A crank
begins when START stands accepted at 1 and none runs (R45), with CRANK: the GRANTED COMFORT and AUXILIARY claims that
remain become HELD with CRANK, in grant order. -/
def Obligations.ResumeRule : Prop :=
  ∀ s : State, Handed .resume [] s →
    (s.mdc.mode ≠ .quiesced → exec (.resume []) s = replied .wrongMode [] s)
    ∧ (s.mdc.mode = .quiesced → s.mdc.op = .load → exec (.resume []) s = replied .storeBusy [] s)
    ∧ (s.mdc.mode = .quiesced → s.mdc.op ≠ .load → s.bde.pass = none →
        let entry (c : Circ) : CircuitEntry := (s.crs.pendingEntry.get c).getD (s.crs.inForce.get c)
        let stranded (i : SlotIx) : Bool := (claimAt s i).any fun c => (entry c.circuit).channels.isEmpty
        let begins := decide (acceptedCode s start = some 1) && decide (s.sbu.crank ≠ .cranking)
        let taken (i : SlotIx) : Bool := begins && !stranded i && slotClass s i fun k => k = .comfort || k = .auxiliary
        ∃ t, exec (.resume []) s = replied .ok [1, byte ((List.finRange 32).countP stranded)] t
          ∧ t.mdc = { s.mdc with mode := .run } ∧ t.bde.pass = some (freshPass s)
          ∧ t.bde.passRequested = false
          ∧ (∀ c, t.crs.inForce.get c = entry c ∧ t.crs.pendingEntry.get c = none ∧ t.crs.resolved.get c = resolve t c)
          ∧ t.sws = s.sws ∧ t.store = s.store ∧ GaugesEnter (decide (acceptedCode s ign = some 1)) s t
          ∧ t.sbu = { s.sbu with crank := if begins then .cranking else s.sbu.crank }
          ∧ t.lif = { s.lif with status := if begins then s.lif.status ||| 0x80 else s.lif.status }
          ∧ (∀ i, stranded i = true → claimAt t i = none ∧ (t.clt.slots.get i).gen = (s.clt.slots.get i).gen + 1)
          ∧ (∀ i, stranded i = false → (t.clt.slots.get i).gen = (s.clt.slots.get i).gen)
          ∧ (begins = false → t.clt.heldQueue = s.clt.heldQueue.filter (fun i => !stranded i))
          ∧ (begins = false ∨ CollectionsExact s →
              t.clt.grantList = s.clt.grantList.filter (fun i => !stranded i && !taken i)
              ∧ (∀ k : ClaimClass, t.clt.heldQueue.filter (slotClass s · (· = k))
                  = (s.clt.heldQueue.filter (fun i => !stranded i) ++ s.clt.grantList.filter taken).filter
                      (slotClass s · (· = k)))
              ∧ ∀ i c, claimAt s i = some c → stranded i = false →
                  let m := (entry c.circuit).maxLevel
                  let req := if c.mode = .flash then m else min c.requested m
                  let refit : Claim := { c with
                    requested := req
                    floor := if c.mode = .flash then m else min c.floor req
                    shareFull := if c.source = .circuit then
                        min 250 ((entry c.circuit).channels.map fun ch => (s.chd.get ch).profile.nominal).sum
                      else c.shareFull }
                  claimAt t i = some (match c.state with
                    | .held r => { refit with state := .held r }
                    | .granted l => if taken i then
                          { refit with state := .held { budgetTimer := none, crank := true, host := false }, settle := none }
                        else { refit with state := .granted (if c.mode = .flash then m else min l req) })))

/-- The image operations (R185, R186): STORE.SAVE is refused STORE_BUSY during another and otherwise answered ACCEPTED
with the image of the configuration as it stands, the format number in the store at 0; its completion puts the image
there with STORE_DONE, its failure leaves an unknown format there with STORE_FAIL. STORE.LOAD is taken in QUIESCED
alone; a load that finds no valid image leaves the configuration with STORE_FAIL, and a valid one replaces it, every
circuit pending, the binding claims retired. The model's choice (log 7): which bytes the store shows while a save runs
and after one that did not complete, and the count that its free value advances. -/
def Obligations.StoreRules : Prop :=
  (∀ s : State, Handed .storeSave [] s →
    (s.mdc.op ≠ .none → exec (.storeSave []) s = replied .storeBusy [] s)
    ∧ (s.mdc.op = .none → exec (.storeSave []) s
        = replied .accepted []
            { s with mdc := { s.mdc with op := .save (formImage (currentConfiguration s)) }
                     store := 0 :: 0 :: s.store.drop 2 }))
  ∧ (∀ s : State, Awake s →
      (∀ image, s.mdc.op = .save image →
        exec .storeSaveComplete s
            = after { s with store := image ++ s.store.drop image.length, mdc := { s.mdc with op := .none }
                             lif := { s.lif with status := s.lif.status ||| 0x2000 } }
          ∧ ∃ bytes, HalfSaved image s.store bytes
            ∧ exec .storeSaveFail s
              = after { s with store := bytes, freeCount := s.freeCount + 1, mdc := { s.mdc with op := .none }
                               lif := { s.lif with status := s.lif.status ||| 0x4000 } })
      ∧ ((∀ image, s.mdc.op ≠ .save image) → exec .storeSaveComplete s = after s ∧ exec .storeSaveFail s = after s))
  ∧ (∀ s : State, Handed .storeLoad [] s →
      (s.mdc.mode ≠ .quiesced → exec (.storeLoad []) s = replied .wrongMode [] s)
      ∧ (s.mdc.mode = .quiesced → s.mdc.op ≠ .none → exec (.storeLoad []) s = replied .storeBusy [] s)
      ∧ (s.mdc.mode = .quiesced → s.mdc.op = .none →
          exec (.storeLoad []) s = replied .accepted [] { s with mdc := { s.mdc with op := .load } }))
  ∧ ∀ (s : State) (bytes : List Byte), Awake s →
      (s.mdc.op ≠ .load → ∀ read, exec (.storeLoadComplete read) s = after s)
      ∧ exec (.storeLoadComplete .held) s = exec (.storeLoadComplete (.given s.store)) s
      ∧ (s.mdc.op = .load → readImage bytes = none →
          exec (.storeLoadComplete (.given bytes)) s
            = after { s with store := bytes, mdc := { s.mdc with op := .none }
                             lif := { s.lif with status := s.lif.status ||| 0x4000 } })
      ∧ (s.mdc.op = .load →
          exec (.storeLoadComplete .noAck) s
            = after { s with mdc := { s.mdc with op := .none }
                             lif := { s.lif with status := s.lif.status ||| 0x4000 } })
      ∧ ∀ cfg, s.mdc.op = .load → s.mdc.mode = .quiesced → readImage bytes = some cfg →
          ∃ t, exec (.storeLoadComplete (.given bytes)) s = after t ∧ currentConfiguration t = cfg
            ∧ t.crs.inForce = s.crs.inForce ∧ (∀ c, t.crs.pendingEntry.get c = some (cfg.circuits.get c))
            ∧ t.mdc = { s.mdc with op := .none, source := .stored } ∧ t.store = bytes ∧ t.bde.passRequested = true
            ∧ t.lif = { s.lif with status := s.lif.status ||| 0x2000 } ∧ t.sbu = s.sbu
            ∧ (∀ b, t.bde.recs.get b = { link := .none, result := none, verdict := none })
            ∧ (∀ i : Fin 16, t.sws.recs.get (i.castLE (by decide))
                = { accepted := none, raw := none, candidate := none, run := 0 })
            ∧ t.sws.recs.get ign = s.sws.recs.get ign ∧ t.sws.recs.get start = s.sws.recs.get start
            ∧ (∀ ch, (t.chd.get ch).openLoadFlag = false)
            ∧ ∀ i, claimAt t i = (claimAt s i).filter fun c => decide (c.origin = .link)

/-- The end of LOADING (R180, R182): a valid image's configuration comes into force, source STORED; without one the
built-in default, source DEFAULT with LOAD_DEFAULT. The part enters RUN with the entry sample of the supply (R25, R26)
and of each sender (R138), IGN being UNKNOWN and the gauges else as they were (R149), and its first scan makes every
group's raw code its candidate (R111, R114). In another mode the event does not fall. The model's choices: the entry
samples are of the values the inputs last presented (log 12), and the first scan reads the levels they last showed
within the same event (log 13). -/
def Obligations.LoadingEnds : Prop :=
  ∀ (s : State) (read : StoreRead), Awake s →
    (s.mdc.mode ≠ .loading → exec (.loadingComplete read) s = after s)
    ∧ (s.mdc.mode = .loading → s.mdc.op = .none →
        (∀ c, s.crs.pendingEntry.get c = none) → s.bde.pass = none → s.bde.passRequested = false →
        noClaims s.clt = true → (∀ g, s.sws.recs.get g = { accepted := none, raw := none, candidate := none, run := 0 }) →
        let bytes := match read with | .noAck => [] | .held => s.store | .given b => b
        let found := readImage bytes
        let cfg := found.getD defaultConfiguration
        (∀ i, 2 ≤ (cfg.groups.get i).debounce) →
        ∃ t, exec (.loadingComplete read) s = .next t ∧ t.mdc.mode = .run
          ∧ currentConfiguration t = cfg ∧ (∀ c, t.crs.pendingEntry.get c = none ∧ t.crs.resolved.get c = .off)
          ∧ t.mdc.source = (if found.isSome then .stored else .builtIn) ∧ t.mdc.cause = s.mdc.cause
          ∧ (hasFlag .loadDefault t = true ↔ hasFlag .loadDefault s = true ∨ found = none)
          ∧ t.sbu.samples = [{ vbat := min 2000 s.pins.supply.vbat, vgen := min 2000 s.pins.supply.vgen
                               ibat := max (-800) (min 800 s.pins.supply.ibat) }]
          ∧ t.sbu.vbatF = min 2000 s.pins.supply.vbat ∧ t.sbu.vgenF = min 2000 s.pins.supply.vgen ∧ t.sbu.ibatF = 0
          ∧ SupplyEnters s t
          ∧ (∀ g, t.gau.get g = { s.gau.get g with
              settings := cfg.gauges.get g, samples := [(s.pins.senders.get g).toNat] })
          ∧ t.sws.levels = s.pins.levels ∧ noClaims t.clt = true
          ∧ ∀ g, (t.sws.recs.get g).accepted = none ∧ (t.sws.recs.get g).run = 1
              ∧ (t.sws.recs.get g).candidate = (t.sws.recs.get g).raw ∧ (t.sws.recs.get g).raw.isSome = true)

/-- Every step keeps the modes sound: the sleep entry timer runs exactly while its four conditions hold in RUN (R187),
in SLEEP no claim is live and the link is IDLE (R159, R187), in LOADING no claim is live (R24), and a load is in flight
in QUIESCED alone (R186); and the passes: one runs in RUN alone, a requested one begins there as soon as none runs
(R126), and a BIND.WRITE waits only for a running pass (R127). The sleep entry timer starts at 30,000 ms and is set back
to it, and otherwise stands or, as a millisecond passes without a command, runs down (R187). -/
def Obligations.ModesKept : Prop :=
  (∀ s t : State, TimerFollows s ∧ SleepQuiet s ∧ LoadsQuiesced s → step s = .next t →
     TimerFollows t ∧ SleepQuiet t ∧ LoadsQuiesced t)
  ∧ (∀ s t : State, step s = .next t → ∀ n, t.mdc.sleepTimer = some n →
       match s.mdc.sleepTimer with
       | none => n = 30000
       | some m => n = 30000 ∨ n = m ∨ s.pending = [] ∧ n = m - 1)
  ∧ (∀ s t : State, PassesSound s → step s = .next t → PassesSound t)

/-- Every step keeps the configuration within the bounds of R51, R68, R83, R112, R117 and R136: what a write or an image
gives out of them is clamped or refused. -/
def Obligations.ConfigurationKept : Prop :=
  ∀ s t : State, ConfigurationSound s → step s = .next t → ConfigurationSound t

/-- Each record within its bounds, laid out as R174 and R175 give, is judged to be itself, with nothing clamped: no bit
of it is dropped. A record is judged as its write request judges it, the mode and store checks apart: refused with the
code it is judged by, and otherwise stored as judged (R181). A circuit record with a count above 4 and a gauge record
with one outside 2 to 8 are refused. -/
def Obligations.RecordsReadBack : Prop :=
  (∀ (ch : Chan) (p : Profile), p.sound ch = true → judgeProfile ch (profileBytes p) = .ok (p, false))
  ∧ (∀ e : CircuitEntry, e.sound = true → judgeCircuitRecord (circuitBytes e) = .ok (e, false))
  ∧ (∀ d : GroupDef, d.sound = true → judgeGroup (groupBytes d) = .ok (d, false))
  ∧ (∀ e : BindEntry, e.sound = true → judgeBind (bindBytes e) = .ok (e, false))
  ∧ (∀ g : GaugeSettings, g.sound = true → judgeGaugeRecord (gaugeBytes g) = .ok (g, false))
  ∧ (∀ (rate : Nat) (ticker : Bool), 60 ≤ rate → rate ≤ 120 →
      judgeFlasher [byte rate, boolByte ticker] = .ok ((rate, ticker), false))
  ∧ ∀ s : State,
    let code (clamped : Bool) : ReplyCode := if clamped then .clamped else .ok
    (∀ (ch : Chan) (bytes : List Byte), bytes.length = 12 → let p := byte ch.val :: bytes
      Handed .profileWrite p s → s.mdc.mode = .quiesced → s.mdc.op = .none →
      match judgeProfile ch bytes with
      | .error e => exec (.profileWrite p) s = replied e [] s
      | .ok (x, clamped) => exec (.profileWrite p) s = replied (code clamped) (profileBytes x)
          { s with chd := put s.chd ch { s.chd.get ch with profile := x, openLoadFlag := false } })
    ∧ (∀ n c0 c1 c2 c3 m : Byte, 4 < n.toNat → ∃ e, judgeCircuitRecord [n, c0, c1, c2, c3, m] = .error e)
    ∧ (∀ (c : Circ) (n c0 c1 c2 c3 m : Byte), n.toNat ≤ 4 →
        let p := byte c.val :: m :: n :: [c0, c1, c2, c3].take n.toNat
        Handed .circuitWrite p s → s.mdc.mode = .quiesced → s.mdc.op = .none →
        match judgeCircuitRecord [n, c0, c1, c2, c3, m] with
        | .error e => exec (.circuitWrite p) s = replied e [] s
        | .ok (x, clamped) => exec (.circuitWrite p) s = replied (code clamped) (circuitBytes x ++ [byte c.val])
            { s with crs := { s.crs with pendingEntry := put s.crs.pendingEntry c (some x) } })
    ∧ (∀ (i : Fin 16) (bytes : List Byte), bytes.length = 4 → let p := byte i.val :: bytes
        Handed .groupWrite p s → s.mdc.mode = .quiesced → s.mdc.op = .none →
        match judgeGroup bytes with
        | .error e => exec (.groupWrite p) s = replied e [] s
        | .ok (x, clamped) => exec (.groupWrite p) s = replied (code clamped) (groupBytes x)
            { s with sws := { s.sws with
                defs := put s.sws.defs i x
                recs := put s.sws.recs (i.castLE (by decide))
                  { accepted := none, raw := none, candidate := none, run := 0 } } })
    ∧ (∀ (b : BindIx) (bytes : List Byte), bytes.length = 14 → let p := byte b.val :: bytes
        Handed .bindWrite p s → s.bde.pass = none → s.mdc.op = .none →
        match judgeBind bytes with
        | .error e => exec (.bindWrite p) s = replied e [] s
        | .ok (x, clamped) => ∃ retired t, exec (.bindWrite p) s = replied (code clamped) (bindBytes x ++ retired) t
            ∧ t.bde.entries = put s.bde.entries b x)
    ∧ (∀ (n : Byte) (rest : List Byte), n.toNat < 2 ∨ 8 < n.toNat → ∃ e, judgeGaugeRecord (n :: rest) = .error e)
    ∧ (∀ (g : GaugeIx) (n k1 k0 v1 v0 : Byte) (points : List Byte), points.length = 24 → 2 ≤ n.toNat → n.toNat ≤ 8 →
        let p := byte g.val :: n :: points.take (3 * n.toNat) ++ [k1, k0, v1, v0]
        Handed .gaugeSet p s → s.mdc.mode = .run → s.mdc.op = .none →
        match judgeGaugeRecord (n :: points ++ [k1, k0, v1, v0]) with
        | .error e => exec (.gaugeSet p) s = replied e [] s
        | .ok (x, clamped) => exec (.gaugeSet p) s = replied (code clamped) (gaugeBytes x)
            { s with gau := put s.gau g { s.gau.get g with settings := x } })
    ∧ ∀ bytes : List Byte, Handed .flasherSet bytes s → s.mdc.op = .none →
        match judgeFlasher bytes with
        | .error e => exec (.flasherSet bytes) s = replied e [] s
        | .ok ((rate, ticker), clamped) =>
          ∃ inForce, exec (.flasherSet bytes) s = replied (code clamped) [byte rate, boolByte ticker, inForce]
            { s with fls := { s.fls with rateSet := rate, ticker := ticker } }

/-- The image that a save forms of a configuration within its bounds is 1391 bytes long and valid, and LOADING and
STORE.LOAD read from it that configuration and no other, whatever the store holds beyond it (R177, R180, R181, R185). An
image is valid exactly when its header gives the format 1 and the length 1391, its checksum is the sum of bytes 0 to
1388 modulo 65,536, and each record, at its place of R177, is one that its write request would take (RecordsReadBack);
its configuration is that of the records as judged (R180, R181). That a store of fewer than 1391 bytes holds no valid
image is the model's choice (log 7). -/
def Obligations.ImageReadsBack : Prop :=
  (∀ (c : Configuration) (beyond : List Byte), c.Sound →
    (formImage c).length = 1391 ∧ readImage (formImage c ++ beyond) = some c)
  ∧ ∀ (bytes : List Byte) (c : Configuration),
      let run (offset n : Nat) : List Byte := (bytes.drop offset).take n
      readImage bytes = some c ↔
        1391 ≤ bytes.length ∧ run 0 2 = be16 1 ∧ run 2 2 = be16 1391
        ∧ run 1389 2 = be16 (((bytes.take 1389).map BitVec.toNat).sum % 65536)
        ∧ (∀ ch : Chan, Takes (judgeProfile ch (run (4 + 12 * ch.val) 12)) (c.profiles.get ch))
        ∧ (∀ i : Circ, Takes (judgeCircuitRecord (run (244 + 6 * i.val) 6)) (c.circuits.get i))
        ∧ (∀ i : Fin 16, Takes (judgeGroup (run (340 + 4 * i.val) 4)) (c.groups.get i))
        ∧ (∀ b : BindIx, Takes (judgeBind (run (404 + 14 * b.val) 14)) (c.bindings.get b))
        ∧ (∀ g : GaugeIx, Takes (judgeGaugeRecord (run (1300 + 29 * g.val) 29)) (c.gauges.get g))
        ∧ Takes (judgeFlasher (run 1387 2)) (c.rate, c.ticker)
end

