-- ==== Sys2Proof/Laws/State.lean ====
section
/-! SUPPORT. What each named update of the state leaves as it is: one lemma per update and field. -/

namespace Sys2Proof.Machine

/-! ### Flags (Machine/Flags.lean) -/

@[simp] theorem setFlag_clt (f : Flag) (s : State) : (setFlag f s).clt = s.clt := by
  simp [setFlag]
@[simp] theorem setFlag_sbu (f : Flag) (s : State) : (setFlag f s).sbu = s.sbu := by
  simp [setFlag]
@[simp] theorem setFlag_crs (f : Flag) (s : State) : (setFlag f s).crs = s.crs := by
  simp [setFlag]
@[simp] theorem setFlag_fls (f : Flag) (s : State) : (setFlag f s).fls = s.fls := by
  simp [setFlag]
@[simp] theorem setFlag_chd (f : Flag) (s : State) : (setFlag f s).chd = s.chd := by
  simp [setFlag]
@[simp] theorem setFlag_sws (f : Flag) (s : State) : (setFlag f s).sws = s.sws := by
  simp [setFlag]
@[simp] theorem setFlag_bde (f : Flag) (s : State) : (setFlag f s).bde = s.bde := by
  simp [setFlag]
@[simp] theorem setFlag_gau (f : Flag) (s : State) : (setFlag f s).gau = s.gau := by
  simp [setFlag]
@[simp] theorem setFlag_mdc (f : Flag) (s : State) : (setFlag f s).mdc = s.mdc := by
  simp [setFlag]
@[simp] theorem setFlag_pins (f : Flag) (s : State) : (setFlag f s).pins = s.pins := by
  simp [setFlag]
@[simp] theorem setFlag_store (f : Flag) (s : State) : (setFlag f s).store = s.store := by
  simp [setFlag]
@[simp] theorem setFlag_freeCount (f : Flag) (s : State) : (setFlag f s).freeCount = s.freeCount := by
  simp [setFlag]
@[simp] theorem setFlag_pending (f : Flag) (s : State) : (setFlag f s).pending = s.pending := by
  simp [setFlag]
@[simp] theorem setFlag_status (f : Flag) (s : State) : (setFlag f s).lif.status = s.lif.status ||| f.bit := rfl
@[simp] theorem setFlag_enable (f : Flag) (s : State) : (setFlag f s).lif.enable = s.lif.enable := rfl
@[simp] theorem setFlag_link (f : Flag) (s : State) : (setFlag f s).lif.link = s.lif.link := rfl
@[simp] theorem setFlag_dataOut (f : Flag) (s : State) : (setFlag f s).lif.dataOut = s.lif.dataOut := rfl

@[simp] theorem setFlagIf_clt (b : Bool) (f : Flag) (s : State) : (setFlagIf b f s).clt = s.clt := by
  cases b <;> rfl
@[simp] theorem setFlagIf_sbu (b : Bool) (f : Flag) (s : State) : (setFlagIf b f s).sbu = s.sbu := by
  cases b <;> rfl
@[simp] theorem setFlagIf_crs (b : Bool) (f : Flag) (s : State) : (setFlagIf b f s).crs = s.crs := by
  cases b <;> rfl
@[simp] theorem setFlagIf_fls (b : Bool) (f : Flag) (s : State) : (setFlagIf b f s).fls = s.fls := by
  cases b <;> rfl
@[simp] theorem setFlagIf_chd (b : Bool) (f : Flag) (s : State) : (setFlagIf b f s).chd = s.chd := by
  cases b <;> rfl
@[simp] theorem setFlagIf_sws (b : Bool) (f : Flag) (s : State) : (setFlagIf b f s).sws = s.sws := by
  cases b <;> rfl
@[simp] theorem setFlagIf_bde (b : Bool) (f : Flag) (s : State) : (setFlagIf b f s).bde = s.bde := by
  cases b <;> rfl
@[simp] theorem setFlagIf_gau (b : Bool) (f : Flag) (s : State) : (setFlagIf b f s).gau = s.gau := by
  cases b <;> rfl
@[simp] theorem setFlagIf_mdc (b : Bool) (f : Flag) (s : State) : (setFlagIf b f s).mdc = s.mdc := by
  cases b <;> rfl
@[simp] theorem setFlagIf_pins (b : Bool) (f : Flag) (s : State) : (setFlagIf b f s).pins = s.pins := by
  cases b <;> rfl
@[simp] theorem setFlagIf_store (b : Bool) (f : Flag) (s : State) : (setFlagIf b f s).store = s.store := by
  cases b <;> rfl
@[simp] theorem setFlagIf_freeCount (b : Bool) (f : Flag) (s : State) : (setFlagIf b f s).freeCount = s.freeCount := by
  cases b <;> rfl
@[simp] theorem setFlagIf_pending (b : Bool) (f : Flag) (s : State) : (setFlagIf b f s).pending = s.pending := by
  cases b <;> rfl
@[simp] theorem setFlagIf_true (f : Flag) (s : State) : setFlagIf true f s = setFlag f s := rfl
@[simp] theorem setFlagIf_false (f : Flag) (s : State) : setFlagIf false f s = s := rfl
@[simp] theorem setFlagIf_link (b : Bool) (f : Flag) (s : State) : (setFlagIf b f s).lif.link = s.lif.link := by
  cases b <;> rfl
@[simp] theorem setFlagIf_enable (b : Bool) (f : Flag) (s : State) : (setFlagIf b f s).lif.enable = s.lif.enable := by
  cases b <;> rfl
theorem setFlagIf_status (b : Bool) (f : Flag) (s : State) :
    (setFlagIf b f s).lif.status = if b then s.lif.status ||| f.bit else s.lif.status := by
  cases b <;> rfl

/-! ### Claims (Machine/Ops.lean) -/

@[simp] theorem modifyClaim_sbu (i : SlotIx) (f : Claim → Claim) (s : State) : (modifyClaim i f s).sbu = s.sbu := by
  simp [modifyClaim]
@[simp] theorem modifyClaim_crs (i : SlotIx) (f : Claim → Claim) (s : State) : (modifyClaim i f s).crs = s.crs := by
  simp [modifyClaim]
@[simp] theorem modifyClaim_fls (i : SlotIx) (f : Claim → Claim) (s : State) : (modifyClaim i f s).fls = s.fls := by
  simp [modifyClaim]
@[simp] theorem modifyClaim_chd (i : SlotIx) (f : Claim → Claim) (s : State) : (modifyClaim i f s).chd = s.chd := by
  simp [modifyClaim]
@[simp] theorem modifyClaim_sws (i : SlotIx) (f : Claim → Claim) (s : State) : (modifyClaim i f s).sws = s.sws := by
  simp [modifyClaim]
@[simp] theorem modifyClaim_bde (i : SlotIx) (f : Claim → Claim) (s : State) : (modifyClaim i f s).bde = s.bde := by
  simp [modifyClaim]
@[simp] theorem modifyClaim_gau (i : SlotIx) (f : Claim → Claim) (s : State) : (modifyClaim i f s).gau = s.gau := by
  simp [modifyClaim]
@[simp] theorem modifyClaim_lif (i : SlotIx) (f : Claim → Claim) (s : State) : (modifyClaim i f s).lif = s.lif := by
  simp [modifyClaim]
@[simp] theorem modifyClaim_mdc (i : SlotIx) (f : Claim → Claim) (s : State) : (modifyClaim i f s).mdc = s.mdc := by
  simp [modifyClaim]
@[simp] theorem modifyClaim_pins (i : SlotIx) (f : Claim → Claim) (s : State) : (modifyClaim i f s).pins = s.pins := by
  simp [modifyClaim]
@[simp] theorem modifyClaim_store (i : SlotIx) (f : Claim → Claim) (s : State) : (modifyClaim i f s).store = s.store := by
  simp [modifyClaim]
@[simp] theorem modifyClaim_freeCount (i : SlotIx) (f : Claim → Claim) (s : State) : (modifyClaim i f s).freeCount = s.freeCount := by
  simp [modifyClaim]
@[simp] theorem modifyClaim_pending (i : SlotIx) (f : Claim → Claim) (s : State) : (modifyClaim i f s).pending = s.pending := by
  simp [modifyClaim]

@[simp] theorem mapClaims_sbu (f : Claim → Claim) (s : State) : (mapClaims f s).sbu = s.sbu := by
  simp [mapClaims]
@[simp] theorem mapClaims_crs (f : Claim → Claim) (s : State) : (mapClaims f s).crs = s.crs := by
  simp [mapClaims]
@[simp] theorem mapClaims_fls (f : Claim → Claim) (s : State) : (mapClaims f s).fls = s.fls := by
  simp [mapClaims]
@[simp] theorem mapClaims_chd (f : Claim → Claim) (s : State) : (mapClaims f s).chd = s.chd := by
  simp [mapClaims]
@[simp] theorem mapClaims_sws (f : Claim → Claim) (s : State) : (mapClaims f s).sws = s.sws := by
  simp [mapClaims]
@[simp] theorem mapClaims_bde (f : Claim → Claim) (s : State) : (mapClaims f s).bde = s.bde := by
  simp [mapClaims]
@[simp] theorem mapClaims_gau (f : Claim → Claim) (s : State) : (mapClaims f s).gau = s.gau := by
  simp [mapClaims]
@[simp] theorem mapClaims_lif (f : Claim → Claim) (s : State) : (mapClaims f s).lif = s.lif := by
  simp [mapClaims]
@[simp] theorem mapClaims_mdc (f : Claim → Claim) (s : State) : (mapClaims f s).mdc = s.mdc := by
  simp [mapClaims]
@[simp] theorem mapClaims_pins (f : Claim → Claim) (s : State) : (mapClaims f s).pins = s.pins := by
  simp [mapClaims]
@[simp] theorem mapClaims_store (f : Claim → Claim) (s : State) : (mapClaims f s).store = s.store := by
  simp [mapClaims]
@[simp] theorem mapClaims_freeCount (f : Claim → Claim) (s : State) : (mapClaims f s).freeCount = s.freeCount := by
  simp [mapClaims]
@[simp] theorem mapClaims_pending (f : Claim → Claim) (s : State) : (mapClaims f s).pending = s.pending := by
  simp [mapClaims]

@[simp] theorem makeGranted_sbu (i : SlotIx) (l sh : Nat) (s : State) : (makeGranted i l sh s).sbu = s.sbu := by
  simp [makeGranted]
@[simp] theorem makeGranted_crs (i : SlotIx) (l sh : Nat) (s : State) : (makeGranted i l sh s).crs = s.crs := by
  simp [makeGranted]
@[simp] theorem makeGranted_fls (i : SlotIx) (l sh : Nat) (s : State) : (makeGranted i l sh s).fls = s.fls := by
  simp [makeGranted]
@[simp] theorem makeGranted_chd (i : SlotIx) (l sh : Nat) (s : State) : (makeGranted i l sh s).chd = s.chd := by
  simp [makeGranted]
@[simp] theorem makeGranted_sws (i : SlotIx) (l sh : Nat) (s : State) : (makeGranted i l sh s).sws = s.sws := by
  simp [makeGranted]
@[simp] theorem makeGranted_bde (i : SlotIx) (l sh : Nat) (s : State) : (makeGranted i l sh s).bde = s.bde := by
  simp [makeGranted]
@[simp] theorem makeGranted_gau (i : SlotIx) (l sh : Nat) (s : State) : (makeGranted i l sh s).gau = s.gau := by
  simp [makeGranted]
@[simp] theorem makeGranted_lif (i : SlotIx) (l sh : Nat) (s : State) : (makeGranted i l sh s).lif = s.lif := by
  simp [makeGranted]
@[simp] theorem makeGranted_mdc (i : SlotIx) (l sh : Nat) (s : State) : (makeGranted i l sh s).mdc = s.mdc := by
  simp [makeGranted]
@[simp] theorem makeGranted_pins (i : SlotIx) (l sh : Nat) (s : State) : (makeGranted i l sh s).pins = s.pins := by
  simp [makeGranted]
@[simp] theorem makeGranted_store (i : SlotIx) (l sh : Nat) (s : State) : (makeGranted i l sh s).store = s.store := by
  simp [makeGranted]
@[simp] theorem makeGranted_freeCount (i : SlotIx) (l sh : Nat) (s : State) : (makeGranted i l sh s).freeCount = s.freeCount := by
  simp [makeGranted]
@[simp] theorem makeGranted_pending (i : SlotIx) (l sh : Nat) (s : State) : (makeGranted i l sh s).pending = s.pending := by
  simp [makeGranted]

@[simp] theorem makeHeld_sbu (i : SlotIx) (r : HoldReasons) (s : State) : (makeHeld i r s).sbu = s.sbu := by
  simp [makeHeld]
@[simp] theorem makeHeld_crs (i : SlotIx) (r : HoldReasons) (s : State) : (makeHeld i r s).crs = s.crs := by
  simp [makeHeld]
@[simp] theorem makeHeld_fls (i : SlotIx) (r : HoldReasons) (s : State) : (makeHeld i r s).fls = s.fls := by
  simp [makeHeld]
@[simp] theorem makeHeld_chd (i : SlotIx) (r : HoldReasons) (s : State) : (makeHeld i r s).chd = s.chd := by
  simp [makeHeld]
@[simp] theorem makeHeld_sws (i : SlotIx) (r : HoldReasons) (s : State) : (makeHeld i r s).sws = s.sws := by
  simp [makeHeld]
@[simp] theorem makeHeld_bde (i : SlotIx) (r : HoldReasons) (s : State) : (makeHeld i r s).bde = s.bde := by
  simp [makeHeld]
@[simp] theorem makeHeld_gau (i : SlotIx) (r : HoldReasons) (s : State) : (makeHeld i r s).gau = s.gau := by
  simp [makeHeld]
@[simp] theorem makeHeld_lif (i : SlotIx) (r : HoldReasons) (s : State) : (makeHeld i r s).lif = s.lif := by
  simp [makeHeld]
@[simp] theorem makeHeld_mdc (i : SlotIx) (r : HoldReasons) (s : State) : (makeHeld i r s).mdc = s.mdc := by
  simp [makeHeld]
@[simp] theorem makeHeld_pins (i : SlotIx) (r : HoldReasons) (s : State) : (makeHeld i r s).pins = s.pins := by
  simp [makeHeld]
@[simp] theorem makeHeld_store (i : SlotIx) (r : HoldReasons) (s : State) : (makeHeld i r s).store = s.store := by
  simp [makeHeld]
@[simp] theorem makeHeld_freeCount (i : SlotIx) (r : HoldReasons) (s : State) : (makeHeld i r s).freeCount = s.freeCount := by
  simp [makeHeld]
@[simp] theorem makeHeld_pending (i : SlotIx) (r : HoldReasons) (s : State) : (makeHeld i r s).pending = s.pending := by
  simp [makeHeld]

@[simp] theorem stepLevel_sbu (i : SlotIx) (l a : Nat) (s : State) : (stepLevel i l a s).sbu = s.sbu := by
  simp [stepLevel]
@[simp] theorem stepLevel_crs (i : SlotIx) (l a : Nat) (s : State) : (stepLevel i l a s).crs = s.crs := by
  simp [stepLevel]
@[simp] theorem stepLevel_fls (i : SlotIx) (l a : Nat) (s : State) : (stepLevel i l a s).fls = s.fls := by
  simp [stepLevel]
@[simp] theorem stepLevel_chd (i : SlotIx) (l a : Nat) (s : State) : (stepLevel i l a s).chd = s.chd := by
  simp [stepLevel]
@[simp] theorem stepLevel_sws (i : SlotIx) (l a : Nat) (s : State) : (stepLevel i l a s).sws = s.sws := by
  simp [stepLevel]
@[simp] theorem stepLevel_bde (i : SlotIx) (l a : Nat) (s : State) : (stepLevel i l a s).bde = s.bde := by
  simp [stepLevel]
@[simp] theorem stepLevel_gau (i : SlotIx) (l a : Nat) (s : State) : (stepLevel i l a s).gau = s.gau := by
  simp [stepLevel]
@[simp] theorem stepLevel_lif (i : SlotIx) (l a : Nat) (s : State) : (stepLevel i l a s).lif = s.lif := by
  simp [stepLevel]
@[simp] theorem stepLevel_mdc (i : SlotIx) (l a : Nat) (s : State) : (stepLevel i l a s).mdc = s.mdc := by
  simp [stepLevel]
@[simp] theorem stepLevel_pins (i : SlotIx) (l a : Nat) (s : State) : (stepLevel i l a s).pins = s.pins := by
  simp [stepLevel]
@[simp] theorem stepLevel_store (i : SlotIx) (l a : Nat) (s : State) : (stepLevel i l a s).store = s.store := by
  simp [stepLevel]
@[simp] theorem stepLevel_freeCount (i : SlotIx) (l a : Nat) (s : State) : (stepLevel i l a s).freeCount = s.freeCount := by
  simp [stepLevel]
@[simp] theorem stepLevel_pending (i : SlotIx) (l a : Nat) (s : State) : (stepLevel i l a s).pending = s.pending := by
  simp [stepLevel]

@[simp] theorem setLink_clt (b : BindIx) (l : BindLink) (s : State) : (setLink b l s).clt = s.clt := by
  simp [setLink]
@[simp] theorem setLink_sbu (b : BindIx) (l : BindLink) (s : State) : (setLink b l s).sbu = s.sbu := by
  simp [setLink]
@[simp] theorem setLink_crs (b : BindIx) (l : BindLink) (s : State) : (setLink b l s).crs = s.crs := by
  simp [setLink]
@[simp] theorem setLink_fls (b : BindIx) (l : BindLink) (s : State) : (setLink b l s).fls = s.fls := by
  simp [setLink]
@[simp] theorem setLink_chd (b : BindIx) (l : BindLink) (s : State) : (setLink b l s).chd = s.chd := by
  simp [setLink]
@[simp] theorem setLink_sws (b : BindIx) (l : BindLink) (s : State) : (setLink b l s).sws = s.sws := by
  simp [setLink]
@[simp] theorem setLink_gau (b : BindIx) (l : BindLink) (s : State) : (setLink b l s).gau = s.gau := by
  simp [setLink]
@[simp] theorem setLink_lif (b : BindIx) (l : BindLink) (s : State) : (setLink b l s).lif = s.lif := by
  simp [setLink]
@[simp] theorem setLink_mdc (b : BindIx) (l : BindLink) (s : State) : (setLink b l s).mdc = s.mdc := by
  simp [setLink]
@[simp] theorem setLink_pins (b : BindIx) (l : BindLink) (s : State) : (setLink b l s).pins = s.pins := by
  simp [setLink]
@[simp] theorem setLink_store (b : BindIx) (l : BindLink) (s : State) : (setLink b l s).store = s.store := by
  simp [setLink]
@[simp] theorem setLink_freeCount (b : BindIx) (l : BindLink) (s : State) : (setLink b l s).freeCount = s.freeCount := by
  simp [setLink]
@[simp] theorem setLink_pending (b : BindIx) (l : BindLink) (s : State) : (setLink b l s).pending = s.pending := by
  simp [setLink]

@[simp] theorem slotFreed_clt (s : State) : (slotFreed s).clt = s.clt := by
  unfold slotFreed; split <;> rfl
@[simp] theorem slotFreed_sbu (s : State) : (slotFreed s).sbu = s.sbu := by
  unfold slotFreed; split <;> rfl
@[simp] theorem slotFreed_crs (s : State) : (slotFreed s).crs = s.crs := by
  unfold slotFreed; split <;> rfl
@[simp] theorem slotFreed_fls (s : State) : (slotFreed s).fls = s.fls := by
  unfold slotFreed; split <;> rfl
@[simp] theorem slotFreed_chd (s : State) : (slotFreed s).chd = s.chd := by
  unfold slotFreed; split <;> rfl
@[simp] theorem slotFreed_sws (s : State) : (slotFreed s).sws = s.sws := by
  unfold slotFreed; split <;> rfl
@[simp] theorem slotFreed_gau (s : State) : (slotFreed s).gau = s.gau := by
  unfold slotFreed; split <;> rfl
@[simp] theorem slotFreed_lif (s : State) : (slotFreed s).lif = s.lif := by
  unfold slotFreed; split <;> rfl
@[simp] theorem slotFreed_mdc (s : State) : (slotFreed s).mdc = s.mdc := by
  unfold slotFreed; split <;> rfl
@[simp] theorem slotFreed_pins (s : State) : (slotFreed s).pins = s.pins := by
  unfold slotFreed; split <;> rfl
@[simp] theorem slotFreed_store (s : State) : (slotFreed s).store = s.store := by
  unfold slotFreed; split <;> rfl
@[simp] theorem slotFreed_freeCount (s : State) : (slotFreed s).freeCount = s.freeCount := by
  unfold slotFreed; split <;> rfl
@[simp] theorem slotFreed_pending (s : State) : (slotFreed s).pending = s.pending := by
  unfold slotFreed; split <;> rfl

@[simp] theorem admitSlot_sbu (i : SlotIx) (s : State) : (admitSlot i s).sbu = s.sbu := by
  unfold admitSlot; split <;> [rfl; (split <;> simp)]
@[simp] theorem admitSlot_crs (i : SlotIx) (s : State) : (admitSlot i s).crs = s.crs := by
  unfold admitSlot; split <;> [rfl; (split <;> simp)]
@[simp] theorem admitSlot_fls (i : SlotIx) (s : State) : (admitSlot i s).fls = s.fls := by
  unfold admitSlot; split <;> [rfl; (split <;> simp)]
@[simp] theorem admitSlot_chd (i : SlotIx) (s : State) : (admitSlot i s).chd = s.chd := by
  unfold admitSlot; split <;> [rfl; (split <;> simp)]
@[simp] theorem admitSlot_sws (i : SlotIx) (s : State) : (admitSlot i s).sws = s.sws := by
  unfold admitSlot; split <;> [rfl; (split <;> simp)]
@[simp] theorem admitSlot_bde (i : SlotIx) (s : State) : (admitSlot i s).bde = s.bde := by
  unfold admitSlot; split <;> [rfl; (split <;> simp)]
@[simp] theorem admitSlot_gau (i : SlotIx) (s : State) : (admitSlot i s).gau = s.gau := by
  unfold admitSlot; split <;> [rfl; (split <;> simp)]
@[simp] theorem admitSlot_mdc (i : SlotIx) (s : State) : (admitSlot i s).mdc = s.mdc := by
  unfold admitSlot; split <;> [rfl; (split <;> simp)]
@[simp] theorem admitSlot_pins (i : SlotIx) (s : State) : (admitSlot i s).pins = s.pins := by
  unfold admitSlot; split <;> [rfl; (split <;> simp)]
@[simp] theorem admitSlot_store (i : SlotIx) (s : State) : (admitSlot i s).store = s.store := by
  unfold admitSlot; split <;> [rfl; (split <;> simp)]
@[simp] theorem admitSlot_freeCount (i : SlotIx) (s : State) : (admitSlot i s).freeCount = s.freeCount := by
  unfold admitSlot; split <;> [rfl; (split <;> simp)]
@[simp] theorem admitSlot_pending (i : SlotIx) (s : State) : (admitSlot i s).pending = s.pending := by
  unfold admitSlot; split <;> [rfl; (split <;> simp)]

@[simp] theorem retire_sbu (i : SlotIx) (s : State) : (retire i s).sbu = s.sbu := by
  unfold retire; split <;> [rfl; (simp only [slotFreed_sbu]; split <;> rfl)]
@[simp] theorem retire_crs (i : SlotIx) (s : State) : (retire i s).crs = s.crs := by
  unfold retire; split <;> [rfl; (simp only [slotFreed_crs]; split <;> rfl)]
@[simp] theorem retire_fls (i : SlotIx) (s : State) : (retire i s).fls = s.fls := by
  unfold retire; split <;> [rfl; (simp only [slotFreed_fls]; split <;> rfl)]
@[simp] theorem retire_chd (i : SlotIx) (s : State) : (retire i s).chd = s.chd := by
  unfold retire; split <;> [rfl; (simp only [slotFreed_chd]; split <;> rfl)]
@[simp] theorem retire_sws (i : SlotIx) (s : State) : (retire i s).sws = s.sws := by
  unfold retire; split <;> [rfl; (simp only [slotFreed_sws]; split <;> rfl)]
@[simp] theorem retire_gau (i : SlotIx) (s : State) : (retire i s).gau = s.gau := by
  unfold retire; split <;> [rfl; (simp only [slotFreed_gau]; split <;> rfl)]
@[simp] theorem retire_lif (i : SlotIx) (s : State) : (retire i s).lif = s.lif := by
  unfold retire; split <;> [rfl; (simp only [slotFreed_lif]; split <;> rfl)]
@[simp] theorem retire_mdc (i : SlotIx) (s : State) : (retire i s).mdc = s.mdc := by
  unfold retire; split <;> [rfl; (simp only [slotFreed_mdc]; split <;> rfl)]
@[simp] theorem retire_pins (i : SlotIx) (s : State) : (retire i s).pins = s.pins := by
  unfold retire; split <;> [rfl; (simp only [slotFreed_pins]; split <;> rfl)]
@[simp] theorem retire_store (i : SlotIx) (s : State) : (retire i s).store = s.store := by
  unfold retire; split <;> [rfl; (simp only [slotFreed_store]; split <;> rfl)]
@[simp] theorem retire_freeCount (i : SlotIx) (s : State) : (retire i s).freeCount = s.freeCount := by
  unfold retire; split <;> [rfl; (simp only [slotFreed_freeCount]; split <;> rfl)]
@[simp] theorem retire_pending (i : SlotIx) (s : State) : (retire i s).pending = s.pending := by
  unfold retire; split <;> [rfl; (simp only [slotFreed_pending]; split <;> rfl)]

/-! ### Outputs (Machine/Outputs.lean) -/

@[simp] theorem modifyChannel_clt (ch : Chan) (f : Channel → Channel) (s : State) : (modifyChannel ch f s).clt = s.clt := by
  unfold modifyChannel; dsimp only; split <;> rfl
@[simp] theorem modifyChannel_sbu (ch : Chan) (f : Channel → Channel) (s : State) : (modifyChannel ch f s).sbu = s.sbu := by
  unfold modifyChannel; dsimp only; split <;> rfl
@[simp] theorem modifyChannel_crs (ch : Chan) (f : Channel → Channel) (s : State) : (modifyChannel ch f s).crs = s.crs := by
  unfold modifyChannel; dsimp only; split <;> rfl
@[simp] theorem modifyChannel_sws (ch : Chan) (f : Channel → Channel) (s : State) : (modifyChannel ch f s).sws = s.sws := by
  unfold modifyChannel; dsimp only; split <;> rfl
@[simp] theorem modifyChannel_bde (ch : Chan) (f : Channel → Channel) (s : State) : (modifyChannel ch f s).bde = s.bde := by
  unfold modifyChannel; dsimp only; split <;> rfl
@[simp] theorem modifyChannel_gau (ch : Chan) (f : Channel → Channel) (s : State) : (modifyChannel ch f s).gau = s.gau := by
  unfold modifyChannel; dsimp only; split <;> rfl
@[simp] theorem modifyChannel_lif (ch : Chan) (f : Channel → Channel) (s : State) : (modifyChannel ch f s).lif = s.lif := by
  unfold modifyChannel; dsimp only; split <;> rfl
@[simp] theorem modifyChannel_mdc (ch : Chan) (f : Channel → Channel) (s : State) : (modifyChannel ch f s).mdc = s.mdc := by
  unfold modifyChannel; dsimp only; split <;> rfl
@[simp] theorem modifyChannel_pins (ch : Chan) (f : Channel → Channel) (s : State) : (modifyChannel ch f s).pins = s.pins := by
  unfold modifyChannel; dsimp only; split <;> rfl
@[simp] theorem modifyChannel_store (ch : Chan) (f : Channel → Channel) (s : State) : (modifyChannel ch f s).store = s.store := by
  unfold modifyChannel; dsimp only; split <;> rfl
@[simp] theorem modifyChannel_freeCount (ch : Chan) (f : Channel → Channel) (s : State) : (modifyChannel ch f s).freeCount = s.freeCount := by
  unfold modifyChannel; dsimp only; split <;> rfl
@[simp] theorem modifyChannel_pending (ch : Chan) (f : Channel → Channel) (s : State) : (modifyChannel ch f s).pending = s.pending := by
  unfold modifyChannel; dsimp only; split <;> rfl

@[simp] theorem tripChannel_clt (ch : Chan) (k : TripKind) (s : State) : (tripChannel ch k s).clt = s.clt := by
  simp [tripChannel]
@[simp] theorem tripChannel_sbu (ch : Chan) (k : TripKind) (s : State) : (tripChannel ch k s).sbu = s.sbu := by
  simp [tripChannel]
@[simp] theorem tripChannel_crs (ch : Chan) (k : TripKind) (s : State) : (tripChannel ch k s).crs = s.crs := by
  simp [tripChannel]
@[simp] theorem tripChannel_sws (ch : Chan) (k : TripKind) (s : State) : (tripChannel ch k s).sws = s.sws := by
  simp [tripChannel]
@[simp] theorem tripChannel_bde (ch : Chan) (k : TripKind) (s : State) : (tripChannel ch k s).bde = s.bde := by
  simp [tripChannel]
@[simp] theorem tripChannel_gau (ch : Chan) (k : TripKind) (s : State) : (tripChannel ch k s).gau = s.gau := by
  simp [tripChannel]
@[simp] theorem tripChannel_mdc (ch : Chan) (k : TripKind) (s : State) : (tripChannel ch k s).mdc = s.mdc := by
  simp [tripChannel]
@[simp] theorem tripChannel_pins (ch : Chan) (k : TripKind) (s : State) : (tripChannel ch k s).pins = s.pins := by
  simp [tripChannel]
@[simp] theorem tripChannel_store (ch : Chan) (k : TripKind) (s : State) : (tripChannel ch k s).store = s.store := by
  simp [tripChannel]
@[simp] theorem tripChannel_freeCount (ch : Chan) (k : TripKind) (s : State) : (tripChannel ch k s).freeCount = s.freeCount := by
  simp [tripChannel]
@[simp] theorem tripChannel_pending (ch : Chan) (k : TripKind) (s : State) : (tripChannel ch k s).pending = s.pending := by
  simp [tripChannel]

@[simp] theorem syncFlasher_clt (s : State) : (syncFlasher s).clt = s.clt := by
  unfold syncFlasher; repeat' split
  all_goals rfl
@[simp] theorem syncFlasher_sbu (s : State) : (syncFlasher s).sbu = s.sbu := by
  unfold syncFlasher; repeat' split
  all_goals rfl
@[simp] theorem syncFlasher_crs (s : State) : (syncFlasher s).crs = s.crs := by
  unfold syncFlasher; repeat' split
  all_goals rfl
@[simp] theorem syncFlasher_chd (s : State) : (syncFlasher s).chd = s.chd := by
  unfold syncFlasher; repeat' split
  all_goals rfl
@[simp] theorem syncFlasher_sws (s : State) : (syncFlasher s).sws = s.sws := by
  unfold syncFlasher; repeat' split
  all_goals rfl
@[simp] theorem syncFlasher_bde (s : State) : (syncFlasher s).bde = s.bde := by
  unfold syncFlasher; repeat' split
  all_goals rfl
@[simp] theorem syncFlasher_gau (s : State) : (syncFlasher s).gau = s.gau := by
  unfold syncFlasher; repeat' split
  all_goals rfl
@[simp] theorem syncFlasher_lif (s : State) : (syncFlasher s).lif = s.lif := by
  unfold syncFlasher; repeat' split
  all_goals rfl
@[simp] theorem syncFlasher_mdc (s : State) : (syncFlasher s).mdc = s.mdc := by
  unfold syncFlasher; repeat' split
  all_goals rfl
@[simp] theorem syncFlasher_pins (s : State) : (syncFlasher s).pins = s.pins := by
  unfold syncFlasher; repeat' split
  all_goals rfl
@[simp] theorem syncFlasher_store (s : State) : (syncFlasher s).store = s.store := by
  unfold syncFlasher; repeat' split
  all_goals rfl
@[simp] theorem syncFlasher_freeCount (s : State) : (syncFlasher s).freeCount = s.freeCount := by
  unfold syncFlasher; repeat' split
  all_goals rfl
@[simp] theorem syncFlasher_pending (s : State) : (syncFlasher s).pending = s.pending := by
  unfold syncFlasher; repeat' split
  all_goals rfl

@[simp] theorem reformFlashSet_clt (s : State) : (reformFlashSet s).clt = s.clt := by
  simp [reformFlashSet]
@[simp] theorem reformFlashSet_sbu (s : State) : (reformFlashSet s).sbu = s.sbu := by
  simp [reformFlashSet]
@[simp] theorem reformFlashSet_sws (s : State) : (reformFlashSet s).sws = s.sws := by
  simp [reformFlashSet]
@[simp] theorem reformFlashSet_bde (s : State) : (reformFlashSet s).bde = s.bde := by
  simp [reformFlashSet]
@[simp] theorem reformFlashSet_gau (s : State) : (reformFlashSet s).gau = s.gau := by
  simp [reformFlashSet]
@[simp] theorem reformFlashSet_lif (s : State) : (reformFlashSet s).lif = s.lif := by
  simp [reformFlashSet]
@[simp] theorem reformFlashSet_mdc (s : State) : (reformFlashSet s).mdc = s.mdc := by
  simp [reformFlashSet]
@[simp] theorem reformFlashSet_pins (s : State) : (reformFlashSet s).pins = s.pins := by
  simp [reformFlashSet]
@[simp] theorem reformFlashSet_store (s : State) : (reformFlashSet s).store = s.store := by
  simp [reformFlashSet]
@[simp] theorem reformFlashSet_freeCount (s : State) : (reformFlashSet s).freeCount = s.freeCount := by
  simp [reformFlashSet]
@[simp] theorem reformFlashSet_pending (s : State) : (reformFlashSet s).pending = s.pending := by
  simp [reformFlashSet]

@[simp] theorem indicate_clt (s : State) : (indicate s).clt = s.clt := by
  simp [indicate]
@[simp] theorem indicate_sbu (s : State) : (indicate s).sbu = s.sbu := by
  simp [indicate]
@[simp] theorem indicate_chd (s : State) : (indicate s).chd = s.chd := by
  simp [indicate]
@[simp] theorem indicate_sws (s : State) : (indicate s).sws = s.sws := by
  simp [indicate]
@[simp] theorem indicate_bde (s : State) : (indicate s).bde = s.bde := by
  simp [indicate]
@[simp] theorem indicate_gau (s : State) : (indicate s).gau = s.gau := by
  simp [indicate]
@[simp] theorem indicate_lif (s : State) : (indicate s).lif = s.lif := by
  simp [indicate]
@[simp] theorem indicate_mdc (s : State) : (indicate s).mdc = s.mdc := by
  simp [indicate]
@[simp] theorem indicate_pins (s : State) : (indicate s).pins = s.pins := by
  simp [indicate]
@[simp] theorem indicate_store (s : State) : (indicate s).store = s.store := by
  simp [indicate]
@[simp] theorem indicate_freeCount (s : State) : (indicate s).freeCount = s.freeCount := by
  simp [indicate]
@[simp] theorem indicate_pending (s : State) : (indicate s).pending = s.pending := by
  simp [indicate]

@[simp] theorem handDemand_clt (ch : Chan) (d : Nat) (s : State) : (handDemand ch d s).clt = s.clt := by
  simp [handDemand]
@[simp] theorem handDemand_sbu (ch : Chan) (d : Nat) (s : State) : (handDemand ch d s).sbu = s.sbu := by
  simp [handDemand]
@[simp] theorem handDemand_crs (ch : Chan) (d : Nat) (s : State) : (handDemand ch d s).crs = s.crs := by
  simp [handDemand]
@[simp] theorem handDemand_sws (ch : Chan) (d : Nat) (s : State) : (handDemand ch d s).sws = s.sws := by
  simp [handDemand]
@[simp] theorem handDemand_bde (ch : Chan) (d : Nat) (s : State) : (handDemand ch d s).bde = s.bde := by
  simp [handDemand]
@[simp] theorem handDemand_gau (ch : Chan) (d : Nat) (s : State) : (handDemand ch d s).gau = s.gau := by
  simp [handDemand]
@[simp] theorem handDemand_lif (ch : Chan) (d : Nat) (s : State) : (handDemand ch d s).lif = s.lif := by
  simp [handDemand]
@[simp] theorem handDemand_mdc (ch : Chan) (d : Nat) (s : State) : (handDemand ch d s).mdc = s.mdc := by
  simp [handDemand]
@[simp] theorem handDemand_pins (ch : Chan) (d : Nat) (s : State) : (handDemand ch d s).pins = s.pins := by
  simp [handDemand]
@[simp] theorem handDemand_store (ch : Chan) (d : Nat) (s : State) : (handDemand ch d s).store = s.store := by
  simp [handDemand]
@[simp] theorem handDemand_freeCount (ch : Chan) (d : Nat) (s : State) : (handDemand ch d s).freeCount = s.freeCount := by
  simp [handDemand]
@[simp] theorem handDemand_pending (ch : Chan) (d : Nat) (s : State) : (handDemand ch d s).pending = s.pending := by
  simp [handDemand]

@[simp] theorem refreshDemand_clt (s : State) (ch : Chan) : (refreshDemand s ch).clt = s.clt := by
  unfold refreshDemand; dsimp only; split <;> simp
@[simp] theorem refreshDemand_sbu (s : State) (ch : Chan) : (refreshDemand s ch).sbu = s.sbu := by
  unfold refreshDemand; dsimp only; split <;> simp
@[simp] theorem refreshDemand_crs (s : State) (ch : Chan) : (refreshDemand s ch).crs = s.crs := by
  unfold refreshDemand; dsimp only; split <;> simp
@[simp] theorem refreshDemand_sws (s : State) (ch : Chan) : (refreshDemand s ch).sws = s.sws := by
  unfold refreshDemand; dsimp only; split <;> simp
@[simp] theorem refreshDemand_bde (s : State) (ch : Chan) : (refreshDemand s ch).bde = s.bde := by
  unfold refreshDemand; dsimp only; split <;> simp
@[simp] theorem refreshDemand_gau (s : State) (ch : Chan) : (refreshDemand s ch).gau = s.gau := by
  unfold refreshDemand; dsimp only; split <;> simp
@[simp] theorem refreshDemand_lif (s : State) (ch : Chan) : (refreshDemand s ch).lif = s.lif := by
  unfold refreshDemand; dsimp only; split <;> simp
@[simp] theorem refreshDemand_mdc (s : State) (ch : Chan) : (refreshDemand s ch).mdc = s.mdc := by
  unfold refreshDemand; dsimp only; split <;> simp
@[simp] theorem refreshDemand_pins (s : State) (ch : Chan) : (refreshDemand s ch).pins = s.pins := by
  unfold refreshDemand; dsimp only; split <;> simp
@[simp] theorem refreshDemand_store (s : State) (ch : Chan) : (refreshDemand s ch).store = s.store := by
  unfold refreshDemand; dsimp only; split <;> simp
@[simp] theorem refreshDemand_freeCount (s : State) (ch : Chan) : (refreshDemand s ch).freeCount = s.freeCount := by
  unfold refreshDemand; dsimp only; split <;> simp
@[simp] theorem refreshDemand_pending (s : State) (ch : Chan) : (refreshDemand s ch).pending = s.pending := by
  unfold refreshDemand; dsimp only; split <;> simp

/-- What one step of a fold leaves as it is, the fold leaves as it is. -/
theorem foldl_frame {α β γ : Type} (get : β → γ) (f : β → α → β) (h : ∀ b a, get (f b a) = get b) (xs : List α)
    (b : β) : get (xs.foldl f b) = get b := by
  induction xs generalizing b with
  | nil => rfl
  | cons x xs ih => simp only [List.foldl_cons, ih, h]

@[simp] theorem refreshDemands_clt (s : State) : (refreshDemands s).clt = s.clt := by
  exact foldl_frame (fun s : State => s.clt) refreshDemand (by simp) _ s
@[simp] theorem refreshDemands_sbu (s : State) : (refreshDemands s).sbu = s.sbu := by
  exact foldl_frame (fun s : State => s.sbu) refreshDemand (by simp) _ s
@[simp] theorem refreshDemands_crs (s : State) : (refreshDemands s).crs = s.crs := by
  exact foldl_frame (fun s : State => s.crs) refreshDemand (by simp) _ s
@[simp] theorem refreshDemands_sws (s : State) : (refreshDemands s).sws = s.sws := by
  exact foldl_frame (fun s : State => s.sws) refreshDemand (by simp) _ s
@[simp] theorem refreshDemands_bde (s : State) : (refreshDemands s).bde = s.bde := by
  exact foldl_frame (fun s : State => s.bde) refreshDemand (by simp) _ s
@[simp] theorem refreshDemands_gau (s : State) : (refreshDemands s).gau = s.gau := by
  exact foldl_frame (fun s : State => s.gau) refreshDemand (by simp) _ s
@[simp] theorem refreshDemands_lif (s : State) : (refreshDemands s).lif = s.lif := by
  exact foldl_frame (fun s : State => s.lif) refreshDemand (by simp) _ s
@[simp] theorem refreshDemands_mdc (s : State) : (refreshDemands s).mdc = s.mdc := by
  exact foldl_frame (fun s : State => s.mdc) refreshDemand (by simp) _ s
@[simp] theorem refreshDemands_pins (s : State) : (refreshDemands s).pins = s.pins := by
  exact foldl_frame (fun s : State => s.pins) refreshDemand (by simp) _ s
@[simp] theorem refreshDemands_store (s : State) : (refreshDemands s).store = s.store := by
  exact foldl_frame (fun s : State => s.store) refreshDemand (by simp) _ s
@[simp] theorem refreshDemands_freeCount (s : State) : (refreshDemands s).freeCount = s.freeCount := by
  exact foldl_frame (fun s : State => s.freeCount) refreshDemand (by simp) _ s
@[simp] theorem refreshDemands_pending (s : State) : (refreshDemands s).pending = s.pending := by
  exact foldl_frame (fun s : State => s.pending) refreshDemand (by simp) _ s

@[simp] theorem handAllDemands_clt (s : State) : (handAllDemands s).clt = s.clt := by
  exact foldl_frame (fun s : State => s.clt) _ (by simp) _ s
@[simp] theorem handAllDemands_sbu (s : State) : (handAllDemands s).sbu = s.sbu := by
  exact foldl_frame (fun s : State => s.sbu) _ (by simp) _ s
@[simp] theorem handAllDemands_crs (s : State) : (handAllDemands s).crs = s.crs := by
  exact foldl_frame (fun s : State => s.crs) _ (by simp) _ s
@[simp] theorem handAllDemands_sws (s : State) : (handAllDemands s).sws = s.sws := by
  exact foldl_frame (fun s : State => s.sws) _ (by simp) _ s
@[simp] theorem handAllDemands_bde (s : State) : (handAllDemands s).bde = s.bde := by
  exact foldl_frame (fun s : State => s.bde) _ (by simp) _ s
@[simp] theorem handAllDemands_gau (s : State) : (handAllDemands s).gau = s.gau := by
  exact foldl_frame (fun s : State => s.gau) _ (by simp) _ s
@[simp] theorem handAllDemands_lif (s : State) : (handAllDemands s).lif = s.lif := by
  exact foldl_frame (fun s : State => s.lif) _ (by simp) _ s
@[simp] theorem handAllDemands_mdc (s : State) : (handAllDemands s).mdc = s.mdc := by
  exact foldl_frame (fun s : State => s.mdc) _ (by simp) _ s
@[simp] theorem handAllDemands_pins (s : State) : (handAllDemands s).pins = s.pins := by
  exact foldl_frame (fun s : State => s.pins) _ (by simp) _ s
@[simp] theorem handAllDemands_store (s : State) : (handAllDemands s).store = s.store := by
  exact foldl_frame (fun s : State => s.store) _ (by simp) _ s
@[simp] theorem handAllDemands_freeCount (s : State) : (handAllDemands s).freeCount = s.freeCount := by
  exact foldl_frame (fun s : State => s.freeCount) _ (by simp) _ s
@[simp] theorem handAllDemands_pending (s : State) : (handAllDemands s).pending = s.pending := by
  exact foldl_frame (fun s : State => s.pending) _ (by simp) _ s

@[simp] theorem resolveCircuit_clt (s : State) (c : Circ) : (resolveCircuit s c).clt = s.clt := by
  simp [resolveCircuit]
@[simp] theorem resolveCircuit_sbu (s : State) (c : Circ) : (resolveCircuit s c).sbu = s.sbu := by
  simp [resolveCircuit]
@[simp] theorem resolveCircuit_sws (s : State) (c : Circ) : (resolveCircuit s c).sws = s.sws := by
  simp [resolveCircuit]
@[simp] theorem resolveCircuit_bde (s : State) (c : Circ) : (resolveCircuit s c).bde = s.bde := by
  simp [resolveCircuit]
@[simp] theorem resolveCircuit_gau (s : State) (c : Circ) : (resolveCircuit s c).gau = s.gau := by
  simp [resolveCircuit]
@[simp] theorem resolveCircuit_lif (s : State) (c : Circ) : (resolveCircuit s c).lif = s.lif := by
  simp [resolveCircuit]
@[simp] theorem resolveCircuit_mdc (s : State) (c : Circ) : (resolveCircuit s c).mdc = s.mdc := by
  simp [resolveCircuit]
@[simp] theorem resolveCircuit_pins (s : State) (c : Circ) : (resolveCircuit s c).pins = s.pins := by
  simp [resolveCircuit]
@[simp] theorem resolveCircuit_store (s : State) (c : Circ) : (resolveCircuit s c).store = s.store := by
  simp [resolveCircuit]
@[simp] theorem resolveCircuit_freeCount (s : State) (c : Circ) : (resolveCircuit s c).freeCount = s.freeCount := by
  simp [resolveCircuit]
@[simp] theorem resolveCircuit_pending (s : State) (c : Circ) : (resolveCircuit s c).pending = s.pending := by
  simp [resolveCircuit]

@[simp] theorem resolveAll_clt (s : State) : (resolveAll s).clt = s.clt := by
  simp [resolveAll]
@[simp] theorem resolveAll_sbu (s : State) : (resolveAll s).sbu = s.sbu := by
  simp [resolveAll]
@[simp] theorem resolveAll_sws (s : State) : (resolveAll s).sws = s.sws := by
  simp [resolveAll]
@[simp] theorem resolveAll_bde (s : State) : (resolveAll s).bde = s.bde := by
  simp [resolveAll]
@[simp] theorem resolveAll_gau (s : State) : (resolveAll s).gau = s.gau := by
  simp [resolveAll]
@[simp] theorem resolveAll_lif (s : State) : (resolveAll s).lif = s.lif := by
  simp [resolveAll]
@[simp] theorem resolveAll_mdc (s : State) : (resolveAll s).mdc = s.mdc := by
  simp [resolveAll]
@[simp] theorem resolveAll_pins (s : State) : (resolveAll s).pins = s.pins := by
  simp [resolveAll]
@[simp] theorem resolveAll_store (s : State) : (resolveAll s).store = s.store := by
  simp [resolveAll]
@[simp] theorem resolveAll_freeCount (s : State) : (resolveAll s).freeCount = s.freeCount := by
  simp [resolveAll]
@[simp] theorem resolveAll_pending (s : State) : (resolveAll s).pending = s.pending := by
  simp [resolveAll]

@[simp] theorem handOver_clt (v : Vector Bool 16) (s : State) : (handOver v s).clt = s.clt := by
  exact foldl_frame (fun s : State => s.clt) _ (by intro s c; split <;> simp) _ s
@[simp] theorem handOver_sbu (v : Vector Bool 16) (s : State) : (handOver v s).sbu = s.sbu := by
  exact foldl_frame (fun s : State => s.sbu) _ (by intro s c; split <;> simp) _ s
@[simp] theorem handOver_sws (v : Vector Bool 16) (s : State) : (handOver v s).sws = s.sws := by
  exact foldl_frame (fun s : State => s.sws) _ (by intro s c; split <;> simp) _ s
@[simp] theorem handOver_bde (v : Vector Bool 16) (s : State) : (handOver v s).bde = s.bde := by
  exact foldl_frame (fun s : State => s.bde) _ (by intro s c; split <;> simp) _ s
@[simp] theorem handOver_gau (v : Vector Bool 16) (s : State) : (handOver v s).gau = s.gau := by
  exact foldl_frame (fun s : State => s.gau) _ (by intro s c; split <;> simp) _ s
@[simp] theorem handOver_lif (v : Vector Bool 16) (s : State) : (handOver v s).lif = s.lif := by
  exact foldl_frame (fun s : State => s.lif) _ (by intro s c; split <;> simp) _ s
@[simp] theorem handOver_mdc (v : Vector Bool 16) (s : State) : (handOver v s).mdc = s.mdc := by
  exact foldl_frame (fun s : State => s.mdc) _ (by intro s c; split <;> simp) _ s
@[simp] theorem handOver_pins (v : Vector Bool 16) (s : State) : (handOver v s).pins = s.pins := by
  exact foldl_frame (fun s : State => s.pins) _ (by intro s c; split <;> simp) _ s
@[simp] theorem handOver_store (v : Vector Bool 16) (s : State) : (handOver v s).store = s.store := by
  exact foldl_frame (fun s : State => s.store) _ (by intro s c; split <;> simp) _ s
@[simp] theorem handOver_freeCount (v : Vector Bool 16) (s : State) : (handOver v s).freeCount = s.freeCount := by
  exact foldl_frame (fun s : State => s.freeCount) _ (by intro s c; split <;> simp) _ s
@[simp] theorem handOver_pending (v : Vector Bool 16) (s : State) : (handOver v s).pending = s.pending := by
  exact foldl_frame (fun s : State => s.pending) _ (by intro s c; split <;> simp) _ s

/-! ### Modes (Machine/Modes.lean) -/

@[simp] theorem requestPass_clt (s : State) : (requestPass s).clt = s.clt := by
  simp [requestPass]
@[simp] theorem requestPass_sbu (s : State) : (requestPass s).sbu = s.sbu := by
  simp [requestPass]
@[simp] theorem requestPass_crs (s : State) : (requestPass s).crs = s.crs := by
  simp [requestPass]
@[simp] theorem requestPass_fls (s : State) : (requestPass s).fls = s.fls := by
  simp [requestPass]
@[simp] theorem requestPass_chd (s : State) : (requestPass s).chd = s.chd := by
  simp [requestPass]
@[simp] theorem requestPass_sws (s : State) : (requestPass s).sws = s.sws := by
  simp [requestPass]
@[simp] theorem requestPass_gau (s : State) : (requestPass s).gau = s.gau := by
  simp [requestPass]
@[simp] theorem requestPass_lif (s : State) : (requestPass s).lif = s.lif := by
  simp [requestPass]
@[simp] theorem requestPass_mdc (s : State) : (requestPass s).mdc = s.mdc := by
  simp [requestPass]
@[simp] theorem requestPass_pins (s : State) : (requestPass s).pins = s.pins := by
  simp [requestPass]
@[simp] theorem requestPass_store (s : State) : (requestPass s).store = s.store := by
  simp [requestPass]
@[simp] theorem requestPass_freeCount (s : State) : (requestPass s).freeCount = s.freeCount := by
  simp [requestPass]
@[simp] theorem requestPass_pending (s : State) : (requestPass s).pending = s.pending := by
  simp [requestPass]

@[simp] theorem beginRequested_clt (s : State) : (beginRequested s).clt = s.clt := by
  unfold beginRequested; split <;> rfl
@[simp] theorem beginRequested_sbu (s : State) : (beginRequested s).sbu = s.sbu := by
  unfold beginRequested; split <;> rfl
@[simp] theorem beginRequested_crs (s : State) : (beginRequested s).crs = s.crs := by
  unfold beginRequested; split <;> rfl
@[simp] theorem beginRequested_fls (s : State) : (beginRequested s).fls = s.fls := by
  unfold beginRequested; split <;> rfl
@[simp] theorem beginRequested_chd (s : State) : (beginRequested s).chd = s.chd := by
  unfold beginRequested; split <;> rfl
@[simp] theorem beginRequested_sws (s : State) : (beginRequested s).sws = s.sws := by
  unfold beginRequested; split <;> rfl
@[simp] theorem beginRequested_gau (s : State) : (beginRequested s).gau = s.gau := by
  unfold beginRequested; split <;> rfl
@[simp] theorem beginRequested_lif (s : State) : (beginRequested s).lif = s.lif := by
  unfold beginRequested; split <;> rfl
@[simp] theorem beginRequested_mdc (s : State) : (beginRequested s).mdc = s.mdc := by
  unfold beginRequested; split <;> rfl
@[simp] theorem beginRequested_pins (s : State) : (beginRequested s).pins = s.pins := by
  unfold beginRequested; split <;> rfl
@[simp] theorem beginRequested_store (s : State) : (beginRequested s).store = s.store := by
  unfold beginRequested; split <;> rfl
@[simp] theorem beginRequested_freeCount (s : State) : (beginRequested s).freeCount = s.freeCount := by
  unfold beginRequested; split <;> rfl
@[simp] theorem beginRequested_pending (s : State) : (beginRequested s).pending = s.pending := by
  unfold beginRequested; split <;> rfl

@[simp] theorem gaugesOff_clt (s : State) : (gaugesOff s).clt = s.clt := by
  simp [gaugesOff]
@[simp] theorem gaugesOff_sbu (s : State) : (gaugesOff s).sbu = s.sbu := by
  simp [gaugesOff]
@[simp] theorem gaugesOff_crs (s : State) : (gaugesOff s).crs = s.crs := by
  simp [gaugesOff]
@[simp] theorem gaugesOff_sws (s : State) : (gaugesOff s).sws = s.sws := by
  simp [gaugesOff]
@[simp] theorem gaugesOff_bde (s : State) : (gaugesOff s).bde = s.bde := by
  simp [gaugesOff]
@[simp] theorem gaugesOff_lif (s : State) : (gaugesOff s).lif = s.lif := by
  simp [gaugesOff]
@[simp] theorem gaugesOff_mdc (s : State) : (gaugesOff s).mdc = s.mdc := by
  simp [gaugesOff]
@[simp] theorem gaugesOff_pins (s : State) : (gaugesOff s).pins = s.pins := by
  simp [gaugesOff]
@[simp] theorem gaugesOff_store (s : State) : (gaugesOff s).store = s.store := by
  simp [gaugesOff]
@[simp] theorem gaugesOff_freeCount (s : State) : (gaugesOff s).freeCount = s.freeCount := by
  simp [gaugesOff]
@[simp] theorem gaugesOff_pending (s : State) : (gaugesOff s).pending = s.pending := by
  simp [gaugesOff]

@[simp] theorem gaugesActive_clt (s : State) : (gaugesActive s).clt = s.clt := by
  simp [gaugesActive]
@[simp] theorem gaugesActive_sbu (s : State) : (gaugesActive s).sbu = s.sbu := by
  simp [gaugesActive]
@[simp] theorem gaugesActive_crs (s : State) : (gaugesActive s).crs = s.crs := by
  simp [gaugesActive]
@[simp] theorem gaugesActive_sws (s : State) : (gaugesActive s).sws = s.sws := by
  simp [gaugesActive]
@[simp] theorem gaugesActive_bde (s : State) : (gaugesActive s).bde = s.bde := by
  simp [gaugesActive]
@[simp] theorem gaugesActive_lif (s : State) : (gaugesActive s).lif = s.lif := by
  simp [gaugesActive]
@[simp] theorem gaugesActive_mdc (s : State) : (gaugesActive s).mdc = s.mdc := by
  simp [gaugesActive]
@[simp] theorem gaugesActive_pins (s : State) : (gaugesActive s).pins = s.pins := by
  simp [gaugesActive]
@[simp] theorem gaugesActive_store (s : State) : (gaugesActive s).store = s.store := by
  simp [gaugesActive]
@[simp] theorem gaugesActive_freeCount (s : State) : (gaugesActive s).freeCount = s.freeCount := by
  simp [gaugesActive]
@[simp] theorem gaugesActive_pending (s : State) : (gaugesActive s).pending = s.pending := by
  simp [gaugesActive]

@[simp] theorem crankWalk_sbu (s : State) : (crankWalk s).sbu = s.sbu := by
  exact foldl_frame (fun s : State => s.sbu) _ (by simp) _ s
@[simp] theorem crankWalk_crs (s : State) : (crankWalk s).crs = s.crs := by
  exact foldl_frame (fun s : State => s.crs) _ (by simp) _ s
@[simp] theorem crankWalk_fls (s : State) : (crankWalk s).fls = s.fls := by
  exact foldl_frame (fun s : State => s.fls) _ (by simp) _ s
@[simp] theorem crankWalk_chd (s : State) : (crankWalk s).chd = s.chd := by
  exact foldl_frame (fun s : State => s.chd) _ (by simp) _ s
@[simp] theorem crankWalk_sws (s : State) : (crankWalk s).sws = s.sws := by
  exact foldl_frame (fun s : State => s.sws) _ (by simp) _ s
@[simp] theorem crankWalk_bde (s : State) : (crankWalk s).bde = s.bde := by
  exact foldl_frame (fun s : State => s.bde) _ (by simp) _ s
@[simp] theorem crankWalk_gau (s : State) : (crankWalk s).gau = s.gau := by
  exact foldl_frame (fun s : State => s.gau) _ (by simp) _ s
@[simp] theorem crankWalk_lif (s : State) : (crankWalk s).lif = s.lif := by
  exact foldl_frame (fun s : State => s.lif) _ (by simp) _ s
@[simp] theorem crankWalk_mdc (s : State) : (crankWalk s).mdc = s.mdc := by
  exact foldl_frame (fun s : State => s.mdc) _ (by simp) _ s
@[simp] theorem crankWalk_pins (s : State) : (crankWalk s).pins = s.pins := by
  exact foldl_frame (fun s : State => s.pins) _ (by simp) _ s
@[simp] theorem crankWalk_store (s : State) : (crankWalk s).store = s.store := by
  exact foldl_frame (fun s : State => s.store) _ (by simp) _ s
@[simp] theorem crankWalk_freeCount (s : State) : (crankWalk s).freeCount = s.freeCount := by
  exact foldl_frame (fun s : State => s.freeCount) _ (by simp) _ s
@[simp] theorem crankWalk_pending (s : State) : (crankWalk s).pending = s.pending := by
  exact foldl_frame (fun s : State => s.pending) _ (by simp) _ s

@[simp] theorem beginCrank_sws (s : State) : (beginCrank s).sws = s.sws := by
  unfold beginCrank; split <;> simp [withHandOver]
@[simp] theorem beginCrank_bde (s : State) : (beginCrank s).bde = s.bde := by
  unfold beginCrank; split <;> simp [withHandOver]
@[simp] theorem beginCrank_gau (s : State) : (beginCrank s).gau = s.gau := by
  unfold beginCrank; split <;> simp [withHandOver]
@[simp] theorem beginCrank_mdc (s : State) : (beginCrank s).mdc = s.mdc := by
  unfold beginCrank; split <;> simp [withHandOver]
@[simp] theorem beginCrank_pins (s : State) : (beginCrank s).pins = s.pins := by
  unfold beginCrank; split <;> simp [withHandOver]
@[simp] theorem beginCrank_store (s : State) : (beginCrank s).store = s.store := by
  unfold beginCrank; split <;> simp [withHandOver]
@[simp] theorem beginCrank_freeCount (s : State) : (beginCrank s).freeCount = s.freeCount := by
  unfold beginCrank; split <;> simp [withHandOver]
@[simp] theorem beginCrank_pending (s : State) : (beginCrank s).pending = s.pending := by
  unfold beginCrank; split <;> simp [withHandOver]

@[simp] theorem endCrank_clt (s : State) : (endCrank s).clt = s.clt := by
  unfold endCrank; split <;> rfl
@[simp] theorem endCrank_crs (s : State) : (endCrank s).crs = s.crs := by
  unfold endCrank; split <;> rfl
@[simp] theorem endCrank_fls (s : State) : (endCrank s).fls = s.fls := by
  unfold endCrank; split <;> rfl
@[simp] theorem endCrank_chd (s : State) : (endCrank s).chd = s.chd := by
  unfold endCrank; split <;> rfl
@[simp] theorem endCrank_sws (s : State) : (endCrank s).sws = s.sws := by
  unfold endCrank; split <;> rfl
@[simp] theorem endCrank_bde (s : State) : (endCrank s).bde = s.bde := by
  unfold endCrank; split <;> rfl
@[simp] theorem endCrank_gau (s : State) : (endCrank s).gau = s.gau := by
  unfold endCrank; split <;> rfl
@[simp] theorem endCrank_lif (s : State) : (endCrank s).lif = s.lif := by
  unfold endCrank; split <;> rfl
@[simp] theorem endCrank_mdc (s : State) : (endCrank s).mdc = s.mdc := by
  unfold endCrank; split <;> rfl
@[simp] theorem endCrank_pins (s : State) : (endCrank s).pins = s.pins := by
  unfold endCrank; split <;> rfl
@[simp] theorem endCrank_store (s : State) : (endCrank s).store = s.store := by
  unfold endCrank; split <;> rfl
@[simp] theorem endCrank_freeCount (s : State) : (endCrank s).freeCount = s.freeCount := by
  unfold endCrank; split <;> rfl
@[simp] theorem endCrank_pending (s : State) : (endCrank s).pending = s.pending := by
  unfold endCrank; split <;> rfl

@[simp] theorem endRecovery_crs (s : State) : (endRecovery s).crs = s.crs := by
  simp [endRecovery]
@[simp] theorem endRecovery_fls (s : State) : (endRecovery s).fls = s.fls := by
  simp [endRecovery]
@[simp] theorem endRecovery_chd (s : State) : (endRecovery s).chd = s.chd := by
  simp [endRecovery]
@[simp] theorem endRecovery_sws (s : State) : (endRecovery s).sws = s.sws := by
  simp [endRecovery]
@[simp] theorem endRecovery_bde (s : State) : (endRecovery s).bde = s.bde := by
  simp [endRecovery]
@[simp] theorem endRecovery_gau (s : State) : (endRecovery s).gau = s.gau := by
  simp [endRecovery]
@[simp] theorem endRecovery_lif (s : State) : (endRecovery s).lif = s.lif := by
  simp [endRecovery]
@[simp] theorem endRecovery_mdc (s : State) : (endRecovery s).mdc = s.mdc := by
  simp [endRecovery]
@[simp] theorem endRecovery_pins (s : State) : (endRecovery s).pins = s.pins := by
  simp [endRecovery]
@[simp] theorem endRecovery_store (s : State) : (endRecovery s).store = s.store := by
  simp [endRecovery]
@[simp] theorem endRecovery_freeCount (s : State) : (endRecovery s).freeCount = s.freeCount := by
  simp [endRecovery]
@[simp] theorem endRecovery_pending (s : State) : (endRecovery s).pending = s.pending := by
  simp [endRecovery]

@[simp] theorem endHostHold_crs (s : State) : (endHostHold s).crs = s.crs := by
  simp [endHostHold]
@[simp] theorem endHostHold_fls (s : State) : (endHostHold s).fls = s.fls := by
  simp [endHostHold]
@[simp] theorem endHostHold_chd (s : State) : (endHostHold s).chd = s.chd := by
  simp [endHostHold]
@[simp] theorem endHostHold_sws (s : State) : (endHostHold s).sws = s.sws := by
  simp [endHostHold]
@[simp] theorem endHostHold_bde (s : State) : (endHostHold s).bde = s.bde := by
  simp [endHostHold]
@[simp] theorem endHostHold_gau (s : State) : (endHostHold s).gau = s.gau := by
  simp [endHostHold]
@[simp] theorem endHostHold_lif (s : State) : (endHostHold s).lif = s.lif := by
  simp [endHostHold]
@[simp] theorem endHostHold_mdc (s : State) : (endHostHold s).mdc = s.mdc := by
  simp [endHostHold]
@[simp] theorem endHostHold_pins (s : State) : (endHostHold s).pins = s.pins := by
  simp [endHostHold]
@[simp] theorem endHostHold_store (s : State) : (endHostHold s).store = s.store := by
  simp [endHostHold]
@[simp] theorem endHostHold_freeCount (s : State) : (endHostHold s).freeCount = s.freeCount := by
  simp [endHostHold]
@[simp] theorem endHostHold_pending (s : State) : (endHostHold s).pending = s.pending := by
  simp [endHostHold]

@[simp] theorem entrySample_clt (s : State) : (entrySample s).clt = s.clt := by
  simp [entrySample]
@[simp] theorem entrySample_crs (s : State) : (entrySample s).crs = s.crs := by
  simp [entrySample]
@[simp] theorem entrySample_fls (s : State) : (entrySample s).fls = s.fls := by
  simp [entrySample]
@[simp] theorem entrySample_chd (s : State) : (entrySample s).chd = s.chd := by
  simp [entrySample]
@[simp] theorem entrySample_sws (s : State) : (entrySample s).sws = s.sws := by
  simp [entrySample]
@[simp] theorem entrySample_bde (s : State) : (entrySample s).bde = s.bde := by
  simp [entrySample]
@[simp] theorem entrySample_gau (s : State) : (entrySample s).gau = s.gau := by
  simp [entrySample]
@[simp] theorem entrySample_lif (s : State) : (entrySample s).lif = s.lif := by
  simp [entrySample]
@[simp] theorem entrySample_mdc (s : State) : (entrySample s).mdc = s.mdc := by
  simp [entrySample]
@[simp] theorem entrySample_pins (s : State) : (entrySample s).pins = s.pins := by
  simp [entrySample]
@[simp] theorem entrySample_store (s : State) : (entrySample s).store = s.store := by
  simp [entrySample]
@[simp] theorem entrySample_freeCount (s : State) : (entrySample s).freeCount = s.freeCount := by
  simp [entrySample]
@[simp] theorem entrySample_pending (s : State) : (entrySample s).pending = s.pending := by
  simp [entrySample]

@[simp] theorem restartGauges_clt (s : State) : (restartGauges s).clt = s.clt := by
  simp [restartGauges]
@[simp] theorem restartGauges_sbu (s : State) : (restartGauges s).sbu = s.sbu := by
  simp [restartGauges]
@[simp] theorem restartGauges_crs (s : State) : (restartGauges s).crs = s.crs := by
  simp [restartGauges]
@[simp] theorem restartGauges_fls (s : State) : (restartGauges s).fls = s.fls := by
  simp [restartGauges]
@[simp] theorem restartGauges_chd (s : State) : (restartGauges s).chd = s.chd := by
  simp [restartGauges]
@[simp] theorem restartGauges_sws (s : State) : (restartGauges s).sws = s.sws := by
  simp [restartGauges]
@[simp] theorem restartGauges_bde (s : State) : (restartGauges s).bde = s.bde := by
  simp [restartGauges]
@[simp] theorem restartGauges_lif (s : State) : (restartGauges s).lif = s.lif := by
  simp [restartGauges]
@[simp] theorem restartGauges_mdc (s : State) : (restartGauges s).mdc = s.mdc := by
  simp [restartGauges]
@[simp] theorem restartGauges_pins (s : State) : (restartGauges s).pins = s.pins := by
  simp [restartGauges]
@[simp] theorem restartGauges_store (s : State) : (restartGauges s).store = s.store := by
  simp [restartGauges]
@[simp] theorem restartGauges_freeCount (s : State) : (restartGauges s).freeCount = s.freeCount := by
  simp [restartGauges]
@[simp] theorem restartGauges_pending (s : State) : (restartGauges s).pending = s.pending := by
  simp [restartGauges]

@[simp] theorem enterRun_sws (b : Bool) (s : State) : (enterRun b s).sws = s.sws := by
  unfold enterRun; dsimp only; (repeat' split) <;> simp
@[simp] theorem enterRun_pins (b : Bool) (s : State) : (enterRun b s).pins = s.pins := by
  unfold enterRun; dsimp only; (repeat' split) <;> simp
@[simp] theorem enterRun_store (b : Bool) (s : State) : (enterRun b s).store = s.store := by
  unfold enterRun; dsimp only; (repeat' split) <;> simp
@[simp] theorem enterRun_freeCount (b : Bool) (s : State) : (enterRun b s).freeCount = s.freeCount := by
  unfold enterRun; dsimp only; (repeat' split) <;> simp
@[simp] theorem enterRun_pending (b : Bool) (s : State) : (enterRun b s).pending = s.pending := by
  unfold enterRun; dsimp only; (repeat' split) <;> simp

@[simp] theorem abandonPass_clt (s : State) : (abandonPass s).clt = s.clt := by
  unfold abandonPass; split <;> simp
@[simp] theorem abandonPass_sbu (s : State) : (abandonPass s).sbu = s.sbu := by
  unfold abandonPass; split <;> simp
@[simp] theorem abandonPass_sws (s : State) : (abandonPass s).sws = s.sws := by
  unfold abandonPass; split <;> simp
@[simp] theorem abandonPass_gau (s : State) : (abandonPass s).gau = s.gau := by
  unfold abandonPass; split <;> simp
@[simp] theorem abandonPass_lif (s : State) : (abandonPass s).lif = s.lif := by
  unfold abandonPass; split <;> simp
@[simp] theorem abandonPass_mdc (s : State) : (abandonPass s).mdc = s.mdc := by
  unfold abandonPass; split <;> simp
@[simp] theorem abandonPass_pins (s : State) : (abandonPass s).pins = s.pins := by
  unfold abandonPass; split <;> simp
@[simp] theorem abandonPass_store (s : State) : (abandonPass s).store = s.store := by
  unfold abandonPass; split <;> simp
@[simp] theorem abandonPass_freeCount (s : State) : (abandonPass s).freeCount = s.freeCount := by
  unfold abandonPass; split <;> simp
@[simp] theorem abandonPass_pending (s : State) : (abandonPass s).pending = s.pending := by
  unfold abandonPass; split <;> simp

@[simp] theorem leaveRun_clt (m : Mode) (s : State) : (leaveRun m s).clt = s.clt := by
  simp only [leaveRun]
  rw [foldl_frame (fun s : State => s.clt) _ (by simp)]
  simp
@[simp] theorem leaveRun_sbu (m : Mode) (s : State) : (leaveRun m s).sbu = s.sbu := by
  simp only [leaveRun]
  rw [foldl_frame (fun s : State => s.sbu) _ (by simp)]
  simp
@[simp] theorem leaveRun_sws (m : Mode) (s : State) : (leaveRun m s).sws = s.sws := by
  simp only [leaveRun]
  rw [foldl_frame (fun s : State => s.sws) _ (by simp)]
  simp
@[simp] theorem leaveRun_lif (m : Mode) (s : State) : (leaveRun m s).lif = s.lif := by
  simp only [leaveRun]
  rw [foldl_frame (fun s : State => s.lif) _ (by simp)]
  simp
@[simp] theorem leaveRun_pins (m : Mode) (s : State) : (leaveRun m s).pins = s.pins := by
  simp only [leaveRun]
  rw [foldl_frame (fun s : State => s.pins) _ (by simp)]
  simp
@[simp] theorem leaveRun_store (m : Mode) (s : State) : (leaveRun m s).store = s.store := by
  simp only [leaveRun]
  rw [foldl_frame (fun s : State => s.store) _ (by simp)]
  simp
@[simp] theorem leaveRun_freeCount (m : Mode) (s : State) : (leaveRun m s).freeCount = s.freeCount := by
  simp only [leaveRun]
  rw [foldl_frame (fun s : State => s.freeCount) _ (by simp)]
  simp
@[simp] theorem leaveRun_pending (m : Mode) (s : State) : (leaveRun m s).pending = s.pending := by
  simp only [leaveRun]
  rw [foldl_frame (fun s : State => s.pending) _ (by simp)]
  simp

@[simp] theorem stopBudget_crs (s : State) : (stopBudget s).crs = s.crs := by
  simp [stopBudget]
@[simp] theorem stopBudget_fls (s : State) : (stopBudget s).fls = s.fls := by
  simp [stopBudget]
@[simp] theorem stopBudget_chd (s : State) : (stopBudget s).chd = s.chd := by
  simp [stopBudget]
@[simp] theorem stopBudget_sws (s : State) : (stopBudget s).sws = s.sws := by
  simp [stopBudget]
@[simp] theorem stopBudget_bde (s : State) : (stopBudget s).bde = s.bde := by
  simp [stopBudget]
@[simp] theorem stopBudget_gau (s : State) : (stopBudget s).gau = s.gau := by
  simp [stopBudget]
@[simp] theorem stopBudget_lif (s : State) : (stopBudget s).lif = s.lif := by
  simp [stopBudget]
@[simp] theorem stopBudget_mdc (s : State) : (stopBudget s).mdc = s.mdc := by
  simp [stopBudget]
@[simp] theorem stopBudget_pins (s : State) : (stopBudget s).pins = s.pins := by
  simp [stopBudget]
@[simp] theorem stopBudget_store (s : State) : (stopBudget s).store = s.store := by
  simp [stopBudget]
@[simp] theorem stopBudget_freeCount (s : State) : (stopBudget s).freeCount = s.freeCount := by
  simp [stopBudget]
@[simp] theorem stopBudget_pending (s : State) : (stopBudget s).pending = s.pending := by
  simp [stopBudget]

@[simp] theorem applyPending_clt (s : State) : (applyPending s).clt = s.clt := by
  simp [applyPending]
@[simp] theorem applyPending_sbu (s : State) : (applyPending s).sbu = s.sbu := by
  simp [applyPending]
@[simp] theorem applyPending_fls (s : State) : (applyPending s).fls = s.fls := by
  simp [applyPending]
@[simp] theorem applyPending_chd (s : State) : (applyPending s).chd = s.chd := by
  simp [applyPending]
@[simp] theorem applyPending_sws (s : State) : (applyPending s).sws = s.sws := by
  simp [applyPending]
@[simp] theorem applyPending_bde (s : State) : (applyPending s).bde = s.bde := by
  simp [applyPending]
@[simp] theorem applyPending_gau (s : State) : (applyPending s).gau = s.gau := by
  simp [applyPending]
@[simp] theorem applyPending_lif (s : State) : (applyPending s).lif = s.lif := by
  simp [applyPending]
@[simp] theorem applyPending_mdc (s : State) : (applyPending s).mdc = s.mdc := by
  simp [applyPending]
@[simp] theorem applyPending_pins (s : State) : (applyPending s).pins = s.pins := by
  simp [applyPending]
@[simp] theorem applyPending_store (s : State) : (applyPending s).store = s.store := by
  simp [applyPending]
@[simp] theorem applyPending_freeCount (s : State) : (applyPending s).freeCount = s.freeCount := by
  simp [applyPending]
@[simp] theorem applyPending_pending (s : State) : (applyPending s).pending = s.pending := by
  simp [applyPending]

@[simp] theorem abandonLoad_clt (s : State) : (abandonLoad s).clt = s.clt := by
  unfold abandonLoad; split <;> rfl
@[simp] theorem abandonLoad_sbu (s : State) : (abandonLoad s).sbu = s.sbu := by
  unfold abandonLoad; split <;> rfl
@[simp] theorem abandonLoad_crs (s : State) : (abandonLoad s).crs = s.crs := by
  unfold abandonLoad; split <;> rfl
@[simp] theorem abandonLoad_fls (s : State) : (abandonLoad s).fls = s.fls := by
  unfold abandonLoad; split <;> rfl
@[simp] theorem abandonLoad_chd (s : State) : (abandonLoad s).chd = s.chd := by
  unfold abandonLoad; split <;> rfl
@[simp] theorem abandonLoad_sws (s : State) : (abandonLoad s).sws = s.sws := by
  unfold abandonLoad; split <;> rfl
@[simp] theorem abandonLoad_bde (s : State) : (abandonLoad s).bde = s.bde := by
  unfold abandonLoad; split <;> rfl
@[simp] theorem abandonLoad_gau (s : State) : (abandonLoad s).gau = s.gau := by
  unfold abandonLoad; split <;> rfl
@[simp] theorem abandonLoad_pins (s : State) : (abandonLoad s).pins = s.pins := by
  unfold abandonLoad; split <;> rfl
@[simp] theorem abandonLoad_store (s : State) : (abandonLoad s).store = s.store := by
  unfold abandonLoad; split <;> rfl
@[simp] theorem abandonLoad_freeCount (s : State) : (abandonLoad s).freeCount = s.freeCount := by
  unfold abandonLoad; split <;> rfl
@[simp] theorem abandonLoad_pending (s : State) : (abandonLoad s).pending = s.pending := by
  unfold abandonLoad; split <;> rfl

@[simp] theorem settleTimer_clt (s : State) : (settleTimer s).clt = s.clt := by
  simp [settleTimer]
@[simp] theorem settleTimer_sbu (s : State) : (settleTimer s).sbu = s.sbu := by
  simp [settleTimer]
@[simp] theorem settleTimer_crs (s : State) : (settleTimer s).crs = s.crs := by
  simp [settleTimer]
@[simp] theorem settleTimer_fls (s : State) : (settleTimer s).fls = s.fls := by
  simp [settleTimer]
@[simp] theorem settleTimer_chd (s : State) : (settleTimer s).chd = s.chd := by
  simp [settleTimer]
@[simp] theorem settleTimer_sws (s : State) : (settleTimer s).sws = s.sws := by
  simp [settleTimer]
@[simp] theorem settleTimer_bde (s : State) : (settleTimer s).bde = s.bde := by
  simp [settleTimer]
@[simp] theorem settleTimer_gau (s : State) : (settleTimer s).gau = s.gau := by
  simp [settleTimer]
@[simp] theorem settleTimer_lif (s : State) : (settleTimer s).lif = s.lif := by
  simp [settleTimer]
@[simp] theorem settleTimer_pins (s : State) : (settleTimer s).pins = s.pins := by
  simp [settleTimer]
@[simp] theorem settleTimer_store (s : State) : (settleTimer s).store = s.store := by
  simp [settleTimer]
@[simp] theorem settleTimer_freeCount (s : State) : (settleTimer s).freeCount = s.freeCount := by
  simp [settleTimer]
@[simp] theorem settleTimer_pending (s : State) : (settleTimer s).pending = s.pending := by
  simp [settleTimer]
@[simp] theorem settleTimer_mode (s : State) : (settleTimer s).mdc.mode = s.mdc.mode := rfl
@[simp] theorem settleTimer_op (s : State) : (settleTimer s).mdc.op = s.mdc.op := rfl
@[simp] theorem settleTimer_cause (s : State) : (settleTimer s).mdc.cause = s.mdc.cause := rfl
@[simp] theorem settleTimer_source (s : State) : (settleTimer s).mdc.source = s.mdc.source := rfl
@[simp] theorem settleTimer_held (s : State) : (settleTimer s).mdc.heldInReset = s.mdc.heldInReset := rfl

@[simp] theorem restartTimer_clt (s : State) : (restartTimer s).clt = s.clt := by
  simp [restartTimer]
@[simp] theorem restartTimer_sbu (s : State) : (restartTimer s).sbu = s.sbu := by
  simp [restartTimer]
@[simp] theorem restartTimer_crs (s : State) : (restartTimer s).crs = s.crs := by
  simp [restartTimer]
@[simp] theorem restartTimer_fls (s : State) : (restartTimer s).fls = s.fls := by
  simp [restartTimer]
@[simp] theorem restartTimer_chd (s : State) : (restartTimer s).chd = s.chd := by
  simp [restartTimer]
@[simp] theorem restartTimer_sws (s : State) : (restartTimer s).sws = s.sws := by
  simp [restartTimer]
@[simp] theorem restartTimer_bde (s : State) : (restartTimer s).bde = s.bde := by
  simp [restartTimer]
@[simp] theorem restartTimer_gau (s : State) : (restartTimer s).gau = s.gau := by
  simp [restartTimer]
@[simp] theorem restartTimer_lif (s : State) : (restartTimer s).lif = s.lif := by
  simp [restartTimer]
@[simp] theorem restartTimer_pins (s : State) : (restartTimer s).pins = s.pins := by
  simp [restartTimer]
@[simp] theorem restartTimer_store (s : State) : (restartTimer s).store = s.store := by
  simp [restartTimer]
@[simp] theorem restartTimer_freeCount (s : State) : (restartTimer s).freeCount = s.freeCount := by
  simp [restartTimer]
@[simp] theorem restartTimer_pending (s : State) : (restartTimer s).pending = s.pending := by
  simp [restartTimer]
@[simp] theorem restartTimer_mode (s : State) : (restartTimer s).mdc.mode = s.mdc.mode := rfl

/-! ### Link (Machine/Link.lean) -/

@[simp] theorem setLinkState_clt (l : Link) (s : State) : (setLinkState l s).clt = s.clt := by
  simp [setLinkState]
@[simp] theorem setLinkState_sbu (l : Link) (s : State) : (setLinkState l s).sbu = s.sbu := by
  simp [setLinkState]
@[simp] theorem setLinkState_crs (l : Link) (s : State) : (setLinkState l s).crs = s.crs := by
  simp [setLinkState]
@[simp] theorem setLinkState_fls (l : Link) (s : State) : (setLinkState l s).fls = s.fls := by
  simp [setLinkState]
@[simp] theorem setLinkState_chd (l : Link) (s : State) : (setLinkState l s).chd = s.chd := by
  simp [setLinkState]
@[simp] theorem setLinkState_sws (l : Link) (s : State) : (setLinkState l s).sws = s.sws := by
  simp [setLinkState]
@[simp] theorem setLinkState_bde (l : Link) (s : State) : (setLinkState l s).bde = s.bde := by
  simp [setLinkState]
@[simp] theorem setLinkState_gau (l : Link) (s : State) : (setLinkState l s).gau = s.gau := by
  simp [setLinkState]
@[simp] theorem setLinkState_mdc (l : Link) (s : State) : (setLinkState l s).mdc = s.mdc := by
  simp [setLinkState]
@[simp] theorem setLinkState_pins (l : Link) (s : State) : (setLinkState l s).pins = s.pins := by
  simp [setLinkState]
@[simp] theorem setLinkState_store (l : Link) (s : State) : (setLinkState l s).store = s.store := by
  simp [setLinkState]
@[simp] theorem setLinkState_freeCount (l : Link) (s : State) : (setLinkState l s).freeCount = s.freeCount := by
  simp [setLinkState]
@[simp] theorem setLinkState_pending (l : Link) (s : State) : (setLinkState l s).pending = s.pending := by
  simp [setLinkState]
@[simp] theorem setLinkState_link (l : Link) (s : State) : (setLinkState l s).lif.link = l := rfl
@[simp] theorem setLinkState_status (l : Link) (s : State) : (setLinkState l s).lif.status = s.lif.status := rfl
@[simp] theorem setLinkState_enable (l : Link) (s : State) : (setLinkState l s).lif.enable = s.lif.enable := rfl

@[simp] theorem answer_clt (r : Reply) (s : State) : (answer r s).clt = s.clt := by
  simp [answer]
@[simp] theorem answer_sbu (r : Reply) (s : State) : (answer r s).sbu = s.sbu := by
  simp [answer]
@[simp] theorem answer_crs (r : Reply) (s : State) : (answer r s).crs = s.crs := by
  simp [answer]
@[simp] theorem answer_fls (r : Reply) (s : State) : (answer r s).fls = s.fls := by
  simp [answer]
@[simp] theorem answer_chd (r : Reply) (s : State) : (answer r s).chd = s.chd := by
  simp [answer]
@[simp] theorem answer_sws (r : Reply) (s : State) : (answer r s).sws = s.sws := by
  simp [answer]
@[simp] theorem answer_bde (r : Reply) (s : State) : (answer r s).bde = s.bde := by
  simp [answer]
@[simp] theorem answer_gau (r : Reply) (s : State) : (answer r s).gau = s.gau := by
  simp [answer]
@[simp] theorem answer_mdc (r : Reply) (s : State) : (answer r s).mdc = s.mdc := by
  simp [answer]
@[simp] theorem answer_pins (r : Reply) (s : State) : (answer r s).pins = s.pins := by
  simp [answer]
@[simp] theorem answer_store (r : Reply) (s : State) : (answer r s).store = s.store := by
  simp [answer]
@[simp] theorem answer_freeCount (r : Reply) (s : State) : (answer r s).freeCount = s.freeCount := by
  simp [answer]
@[simp] theorem answer_pending (r : Reply) (s : State) : (answer r s).pending = s.pending := by
  simp [answer]
@[simp] theorem answer_link (r : Reply) (s : State) : (answer r s).lif.link = .replyReady r := rfl
@[simp] theorem answer_status (r : Reply) (s : State) : (answer r s).lif.status = s.lif.status := rfl
@[simp] theorem answer_enable (r : Reply) (s : State) : (answer r s).lif.enable = s.lif.enable := rfl

@[simp] theorem takeFetch_clt (n : Nat) (s : State) : (takeFetch n s).clt = s.clt := by
  unfold takeFetch; split <;> rfl
@[simp] theorem takeFetch_sbu (n : Nat) (s : State) : (takeFetch n s).sbu = s.sbu := by
  unfold takeFetch; split <;> rfl
@[simp] theorem takeFetch_crs (n : Nat) (s : State) : (takeFetch n s).crs = s.crs := by
  unfold takeFetch; split <;> rfl
@[simp] theorem takeFetch_fls (n : Nat) (s : State) : (takeFetch n s).fls = s.fls := by
  unfold takeFetch; split <;> rfl
@[simp] theorem takeFetch_chd (n : Nat) (s : State) : (takeFetch n s).chd = s.chd := by
  unfold takeFetch; split <;> rfl
@[simp] theorem takeFetch_sws (n : Nat) (s : State) : (takeFetch n s).sws = s.sws := by
  unfold takeFetch; split <;> rfl
@[simp] theorem takeFetch_bde (n : Nat) (s : State) : (takeFetch n s).bde = s.bde := by
  unfold takeFetch; split <;> rfl
@[simp] theorem takeFetch_gau (n : Nat) (s : State) : (takeFetch n s).gau = s.gau := by
  unfold takeFetch; split <;> rfl
@[simp] theorem takeFetch_mdc (n : Nat) (s : State) : (takeFetch n s).mdc = s.mdc := by
  unfold takeFetch; split <;> rfl
@[simp] theorem takeFetch_pins (n : Nat) (s : State) : (takeFetch n s).pins = s.pins := by
  unfold takeFetch; split <;> rfl
@[simp] theorem takeFetch_store (n : Nat) (s : State) : (takeFetch n s).store = s.store := by
  unfold takeFetch; split <;> rfl
@[simp] theorem takeFetch_freeCount (n : Nat) (s : State) : (takeFetch n s).freeCount = s.freeCount := by
  unfold takeFetch; split <;> rfl
@[simp] theorem takeFetch_pending (n : Nat) (s : State) : (takeFetch n s).pending = s.pending := by
  unfold takeFetch; split <;> rfl

/-! ### Budget (Machine/Supply.lean) -/

@[simp] theorem setRuns_clt (d u : Nat) (s : State) : (setRuns d u s).clt = s.clt := by
  simp [setRuns]
@[simp] theorem setRuns_crs (d u : Nat) (s : State) : (setRuns d u s).crs = s.crs := by
  simp [setRuns]
@[simp] theorem setRuns_fls (d u : Nat) (s : State) : (setRuns d u s).fls = s.fls := by
  simp [setRuns]
@[simp] theorem setRuns_chd (d u : Nat) (s : State) : (setRuns d u s).chd = s.chd := by
  simp [setRuns]
@[simp] theorem setRuns_sws (d u : Nat) (s : State) : (setRuns d u s).sws = s.sws := by
  simp [setRuns]
@[simp] theorem setRuns_bde (d u : Nat) (s : State) : (setRuns d u s).bde = s.bde := by
  simp [setRuns]
@[simp] theorem setRuns_gau (d u : Nat) (s : State) : (setRuns d u s).gau = s.gau := by
  simp [setRuns]
@[simp] theorem setRuns_lif (d u : Nat) (s : State) : (setRuns d u s).lif = s.lif := by
  simp [setRuns]
@[simp] theorem setRuns_mdc (d u : Nat) (s : State) : (setRuns d u s).mdc = s.mdc := by
  simp [setRuns]
@[simp] theorem setRuns_pins (d u : Nat) (s : State) : (setRuns d u s).pins = s.pins := by
  simp [setRuns]
@[simp] theorem setRuns_store (d u : Nat) (s : State) : (setRuns d u s).store = s.store := by
  simp [setRuns]
@[simp] theorem setRuns_freeCount (d u : Nat) (s : State) : (setRuns d u s).freeCount = s.freeCount := by
  simp [setRuns]
@[simp] theorem setRuns_pending (d u : Nat) (s : State) : (setRuns d u s).pending = s.pending := by
  simp [setRuns]

@[simp] theorem setBand_clt (s : State) : (setBand s).clt = s.clt := by
  unfold setBand; split <;> simp
@[simp] theorem setBand_crs (s : State) : (setBand s).crs = s.crs := by
  unfold setBand; split <;> simp
@[simp] theorem setBand_fls (s : State) : (setBand s).fls = s.fls := by
  unfold setBand; split <;> simp
@[simp] theorem setBand_chd (s : State) : (setBand s).chd = s.chd := by
  unfold setBand; split <;> simp
@[simp] theorem setBand_sws (s : State) : (setBand s).sws = s.sws := by
  unfold setBand; split <;> simp
@[simp] theorem setBand_bde (s : State) : (setBand s).bde = s.bde := by
  unfold setBand; split <;> simp
@[simp] theorem setBand_gau (s : State) : (setBand s).gau = s.gau := by
  unfold setBand; split <;> simp
@[simp] theorem setBand_mdc (s : State) : (setBand s).mdc = s.mdc := by
  unfold setBand; split <;> simp
@[simp] theorem setBand_pins (s : State) : (setBand s).pins = s.pins := by
  unfold setBand; split <;> simp
@[simp] theorem setBand_store (s : State) : (setBand s).store = s.store := by
  unfold setBand; split <;> simp
@[simp] theorem setBand_freeCount (s : State) : (setBand s).freeCount = s.freeCount := by
  unfold setBand; split <;> simp
@[simp] theorem setBand_pending (s : State) : (setBand s).pending = s.pending := by
  unfold setBand; split <;> simp

@[simp] theorem setCharging_clt (s : State) : (setCharging s).clt = s.clt := by
  simp [setCharging]
@[simp] theorem setCharging_crs (s : State) : (setCharging s).crs = s.crs := by
  simp [setCharging]
@[simp] theorem setCharging_fls (s : State) : (setCharging s).fls = s.fls := by
  simp [setCharging]
@[simp] theorem setCharging_chd (s : State) : (setCharging s).chd = s.chd := by
  simp [setCharging]
@[simp] theorem setCharging_sws (s : State) : (setCharging s).sws = s.sws := by
  simp [setCharging]
@[simp] theorem setCharging_bde (s : State) : (setCharging s).bde = s.bde := by
  simp [setCharging]
@[simp] theorem setCharging_gau (s : State) : (setCharging s).gau = s.gau := by
  simp [setCharging]
@[simp] theorem setCharging_mdc (s : State) : (setCharging s).mdc = s.mdc := by
  simp [setCharging]
@[simp] theorem setCharging_pins (s : State) : (setCharging s).pins = s.pins := by
  simp [setCharging]
@[simp] theorem setCharging_store (s : State) : (setCharging s).store = s.store := by
  simp [setCharging]
@[simp] theorem setCharging_freeCount (s : State) : (setCharging s).freeCount = s.freeCount := by
  simp [setCharging]
@[simp] theorem setCharging_pending (s : State) : (setCharging s).pending = s.pending := by
  simp [setCharging]

@[simp] theorem countRecovery_crs (s : State) : (countRecovery s).crs = s.crs := by
  unfold countRecovery; (repeat' split) <;> simp
@[simp] theorem countRecovery_fls (s : State) : (countRecovery s).fls = s.fls := by
  unfold countRecovery; (repeat' split) <;> simp
@[simp] theorem countRecovery_chd (s : State) : (countRecovery s).chd = s.chd := by
  unfold countRecovery; (repeat' split) <;> simp
@[simp] theorem countRecovery_sws (s : State) : (countRecovery s).sws = s.sws := by
  unfold countRecovery; (repeat' split) <;> simp
@[simp] theorem countRecovery_bde (s : State) : (countRecovery s).bde = s.bde := by
  unfold countRecovery; (repeat' split) <;> simp
@[simp] theorem countRecovery_gau (s : State) : (countRecovery s).gau = s.gau := by
  unfold countRecovery; (repeat' split) <;> simp
@[simp] theorem countRecovery_lif (s : State) : (countRecovery s).lif = s.lif := by
  unfold countRecovery; (repeat' split) <;> simp
@[simp] theorem countRecovery_mdc (s : State) : (countRecovery s).mdc = s.mdc := by
  unfold countRecovery; (repeat' split) <;> simp
@[simp] theorem countRecovery_pins (s : State) : (countRecovery s).pins = s.pins := by
  unfold countRecovery; (repeat' split) <;> simp
@[simp] theorem countRecovery_store (s : State) : (countRecovery s).store = s.store := by
  unfold countRecovery; (repeat' split) <;> simp
@[simp] theorem countRecovery_freeCount (s : State) : (countRecovery s).freeCount = s.freeCount := by
  unfold countRecovery; (repeat' split) <;> simp
@[simp] theorem countRecovery_pending (s : State) : (countRecovery s).pending = s.pending := by
  unfold countRecovery; (repeat' split) <;> simp

@[simp] theorem countHostHold_crs (s : State) : (countHostHold s).crs = s.crs := by
  unfold countHostHold; (repeat' split) <;> simp
@[simp] theorem countHostHold_fls (s : State) : (countHostHold s).fls = s.fls := by
  unfold countHostHold; (repeat' split) <;> simp
@[simp] theorem countHostHold_chd (s : State) : (countHostHold s).chd = s.chd := by
  unfold countHostHold; (repeat' split) <;> simp
@[simp] theorem countHostHold_sws (s : State) : (countHostHold s).sws = s.sws := by
  unfold countHostHold; (repeat' split) <;> simp
@[simp] theorem countHostHold_bde (s : State) : (countHostHold s).bde = s.bde := by
  unfold countHostHold; (repeat' split) <;> simp
@[simp] theorem countHostHold_gau (s : State) : (countHostHold s).gau = s.gau := by
  unfold countHostHold; (repeat' split) <;> simp
@[simp] theorem countHostHold_lif (s : State) : (countHostHold s).lif = s.lif := by
  unfold countHostHold; (repeat' split) <;> simp
@[simp] theorem countHostHold_mdc (s : State) : (countHostHold s).mdc = s.mdc := by
  unfold countHostHold; (repeat' split) <;> simp
@[simp] theorem countHostHold_pins (s : State) : (countHostHold s).pins = s.pins := by
  unfold countHostHold; (repeat' split) <;> simp
@[simp] theorem countHostHold_store (s : State) : (countHostHold s).store = s.store := by
  unfold countHostHold; (repeat' split) <;> simp
@[simp] theorem countHostHold_freeCount (s : State) : (countHostHold s).freeCount = s.freeCount := by
  unfold countHostHold; (repeat' split) <;> simp
@[simp] theorem countHostHold_pending (s : State) : (countHostHold s).pending = s.pending := by
  unfold countHostHold; (repeat' split) <;> simp

@[simp] theorem countExpiry_sbu (s : State) (i : SlotIx) : (countExpiry s i).sbu = s.sbu := by
  unfold countExpiry; repeat' split
  all_goals simp
@[simp] theorem countExpiry_crs (s : State) (i : SlotIx) : (countExpiry s i).crs = s.crs := by
  unfold countExpiry; repeat' split
  all_goals simp
@[simp] theorem countExpiry_fls (s : State) (i : SlotIx) : (countExpiry s i).fls = s.fls := by
  unfold countExpiry; repeat' split
  all_goals simp
@[simp] theorem countExpiry_chd (s : State) (i : SlotIx) : (countExpiry s i).chd = s.chd := by
  unfold countExpiry; repeat' split
  all_goals simp
@[simp] theorem countExpiry_sws (s : State) (i : SlotIx) : (countExpiry s i).sws = s.sws := by
  unfold countExpiry; repeat' split
  all_goals simp
@[simp] theorem countExpiry_gau (s : State) (i : SlotIx) : (countExpiry s i).gau = s.gau := by
  unfold countExpiry; repeat' split
  all_goals simp
@[simp] theorem countExpiry_mdc (s : State) (i : SlotIx) : (countExpiry s i).mdc = s.mdc := by
  unfold countExpiry; repeat' split
  all_goals simp
@[simp] theorem countExpiry_pins (s : State) (i : SlotIx) : (countExpiry s i).pins = s.pins := by
  unfold countExpiry; repeat' split
  all_goals simp
@[simp] theorem countExpiry_store (s : State) (i : SlotIx) : (countExpiry s i).store = s.store := by
  unfold countExpiry; repeat' split
  all_goals simp
@[simp] theorem countExpiry_freeCount (s : State) (i : SlotIx) : (countExpiry s i).freeCount = s.freeCount := by
  unfold countExpiry; repeat' split
  all_goals simp
@[simp] theorem countExpiry_pending (s : State) (i : SlotIx) : (countExpiry s i).pending = s.pending := by
  unfold countExpiry; repeat' split
  all_goals simp

@[simp] theorem countExpiries_sbu (s : State) : (countExpiries s).sbu = s.sbu := by
  exact foldl_frame (fun s : State => s.sbu) countExpiry (by simp) _ s
@[simp] theorem countExpiries_crs (s : State) : (countExpiries s).crs = s.crs := by
  exact foldl_frame (fun s : State => s.crs) countExpiry (by simp) _ s
@[simp] theorem countExpiries_fls (s : State) : (countExpiries s).fls = s.fls := by
  exact foldl_frame (fun s : State => s.fls) countExpiry (by simp) _ s
@[simp] theorem countExpiries_chd (s : State) : (countExpiries s).chd = s.chd := by
  exact foldl_frame (fun s : State => s.chd) countExpiry (by simp) _ s
@[simp] theorem countExpiries_sws (s : State) : (countExpiries s).sws = s.sws := by
  exact foldl_frame (fun s : State => s.sws) countExpiry (by simp) _ s
@[simp] theorem countExpiries_gau (s : State) : (countExpiries s).gau = s.gau := by
  exact foldl_frame (fun s : State => s.gau) countExpiry (by simp) _ s
@[simp] theorem countExpiries_mdc (s : State) : (countExpiries s).mdc = s.mdc := by
  exact foldl_frame (fun s : State => s.mdc) countExpiry (by simp) _ s
@[simp] theorem countExpiries_pins (s : State) : (countExpiries s).pins = s.pins := by
  exact foldl_frame (fun s : State => s.pins) countExpiry (by simp) _ s
@[simp] theorem countExpiries_store (s : State) : (countExpiries s).store = s.store := by
  exact foldl_frame (fun s : State => s.store) countExpiry (by simp) _ s
@[simp] theorem countExpiries_freeCount (s : State) : (countExpiries s).freeCount = s.freeCount := by
  exact foldl_frame (fun s : State => s.freeCount) countExpiry (by simp) _ s
@[simp] theorem countExpiries_pending (s : State) : (countExpiries s).pending = s.pending := by
  exact foldl_frame (fun s : State => s.pending) countExpiry (by simp) _ s

@[simp] theorem shed_sbu (i : SlotIx) (s : State) : (shed i s).sbu = s.sbu := by
  unfold shed; repeat' split
  all_goals simp
@[simp] theorem shed_crs (i : SlotIx) (s : State) : (shed i s).crs = s.crs := by
  unfold shed; repeat' split
  all_goals simp
@[simp] theorem shed_fls (i : SlotIx) (s : State) : (shed i s).fls = s.fls := by
  unfold shed; repeat' split
  all_goals simp
@[simp] theorem shed_chd (i : SlotIx) (s : State) : (shed i s).chd = s.chd := by
  unfold shed; repeat' split
  all_goals simp
@[simp] theorem shed_sws (i : SlotIx) (s : State) : (shed i s).sws = s.sws := by
  unfold shed; repeat' split
  all_goals simp
@[simp] theorem shed_bde (i : SlotIx) (s : State) : (shed i s).bde = s.bde := by
  unfold shed; repeat' split
  all_goals simp
@[simp] theorem shed_gau (i : SlotIx) (s : State) : (shed i s).gau = s.gau := by
  unfold shed; repeat' split
  all_goals simp
@[simp] theorem shed_mdc (i : SlotIx) (s : State) : (shed i s).mdc = s.mdc := by
  unfold shed; repeat' split
  all_goals simp
@[simp] theorem shed_pins (i : SlotIx) (s : State) : (shed i s).pins = s.pins := by
  unfold shed; repeat' split
  all_goals simp
@[simp] theorem shed_store (i : SlotIx) (s : State) : (shed i s).store = s.store := by
  unfold shed; repeat' split
  all_goals simp
@[simp] theorem shed_freeCount (i : SlotIx) (s : State) : (shed i s).freeCount = s.freeCount := by
  unfold shed; repeat' split
  all_goals simp
@[simp] theorem shed_pending (i : SlotIx) (s : State) : (shed i s).pending = s.pending := by
  unfold shed; repeat' split
  all_goals simp

@[simp] theorem takeBack_sbu (h : Int) (i : SlotIx) (s : State) : (takeBack h i s).sbu = s.sbu := by
  unfold takeBack; repeat' split
  all_goals simp
@[simp] theorem takeBack_crs (h : Int) (i : SlotIx) (s : State) : (takeBack h i s).crs = s.crs := by
  unfold takeBack; repeat' split
  all_goals simp
@[simp] theorem takeBack_fls (h : Int) (i : SlotIx) (s : State) : (takeBack h i s).fls = s.fls := by
  unfold takeBack; repeat' split
  all_goals simp
@[simp] theorem takeBack_chd (h : Int) (i : SlotIx) (s : State) : (takeBack h i s).chd = s.chd := by
  unfold takeBack; repeat' split
  all_goals simp
@[simp] theorem takeBack_sws (h : Int) (i : SlotIx) (s : State) : (takeBack h i s).sws = s.sws := by
  unfold takeBack; repeat' split
  all_goals simp
@[simp] theorem takeBack_bde (h : Int) (i : SlotIx) (s : State) : (takeBack h i s).bde = s.bde := by
  unfold takeBack; repeat' split
  all_goals simp
@[simp] theorem takeBack_gau (h : Int) (i : SlotIx) (s : State) : (takeBack h i s).gau = s.gau := by
  unfold takeBack; repeat' split
  all_goals simp
@[simp] theorem takeBack_mdc (h : Int) (i : SlotIx) (s : State) : (takeBack h i s).mdc = s.mdc := by
  unfold takeBack; repeat' split
  all_goals simp
@[simp] theorem takeBack_pins (h : Int) (i : SlotIx) (s : State) : (takeBack h i s).pins = s.pins := by
  unfold takeBack; repeat' split
  all_goals simp
@[simp] theorem takeBack_store (h : Int) (i : SlotIx) (s : State) : (takeBack h i s).store = s.store := by
  unfold takeBack; repeat' split
  all_goals simp
@[simp] theorem takeBack_freeCount (h : Int) (i : SlotIx) (s : State) : (takeBack h i s).freeCount = s.freeCount := by
  unfold takeBack; repeat' split
  all_goals simp
@[simp] theorem takeBack_pending (h : Int) (i : SlotIx) (s : State) : (takeBack h i s).pending = s.pending := by
  unfold takeBack; repeat' split
  all_goals simp

@[simp] theorem deficitStage_crs (s : State) : (deficitStage s).crs = s.crs := by
  unfold deficitStage; dsimp only; repeat' split
  all_goals simp
@[simp] theorem deficitStage_fls (s : State) : (deficitStage s).fls = s.fls := by
  unfold deficitStage; dsimp only; repeat' split
  all_goals simp
@[simp] theorem deficitStage_chd (s : State) : (deficitStage s).chd = s.chd := by
  unfold deficitStage; dsimp only; repeat' split
  all_goals simp
@[simp] theorem deficitStage_sws (s : State) : (deficitStage s).sws = s.sws := by
  unfold deficitStage; dsimp only; repeat' split
  all_goals simp
@[simp] theorem deficitStage_bde (s : State) : (deficitStage s).bde = s.bde := by
  unfold deficitStage; dsimp only; repeat' split
  all_goals simp
@[simp] theorem deficitStage_gau (s : State) : (deficitStage s).gau = s.gau := by
  unfold deficitStage; dsimp only; repeat' split
  all_goals simp
@[simp] theorem deficitStage_mdc (s : State) : (deficitStage s).mdc = s.mdc := by
  unfold deficitStage; dsimp only; repeat' split
  all_goals simp
@[simp] theorem deficitStage_pins (s : State) : (deficitStage s).pins = s.pins := by
  unfold deficitStage; dsimp only; repeat' split
  all_goals simp
@[simp] theorem deficitStage_store (s : State) : (deficitStage s).store = s.store := by
  unfold deficitStage; dsimp only; repeat' split
  all_goals simp
@[simp] theorem deficitStage_freeCount (s : State) : (deficitStage s).freeCount = s.freeCount := by
  unfold deficitStage; dsimp only; repeat' split
  all_goals simp
@[simp] theorem deficitStage_pending (s : State) : (deficitStage s).pending = s.pending := by
  unfold deficitStage; dsimp only; repeat' split
  all_goals simp

@[simp] theorem surplusStage_crs (h : Int) (s : State) : (surplusStage h s).crs = s.crs := by
  unfold surplusStage; dsimp only; repeat' split
  all_goals simp
@[simp] theorem surplusStage_fls (h : Int) (s : State) : (surplusStage h s).fls = s.fls := by
  unfold surplusStage; dsimp only; repeat' split
  all_goals simp
@[simp] theorem surplusStage_chd (h : Int) (s : State) : (surplusStage h s).chd = s.chd := by
  unfold surplusStage; dsimp only; repeat' split
  all_goals simp
@[simp] theorem surplusStage_sws (h : Int) (s : State) : (surplusStage h s).sws = s.sws := by
  unfold surplusStage; dsimp only; repeat' split
  all_goals simp
@[simp] theorem surplusStage_bde (h : Int) (s : State) : (surplusStage h s).bde = s.bde := by
  unfold surplusStage; dsimp only; repeat' split
  all_goals simp
@[simp] theorem surplusStage_gau (h : Int) (s : State) : (surplusStage h s).gau = s.gau := by
  unfold surplusStage; dsimp only; repeat' split
  all_goals simp
@[simp] theorem surplusStage_mdc (h : Int) (s : State) : (surplusStage h s).mdc = s.mdc := by
  unfold surplusStage; dsimp only; repeat' split
  all_goals simp
@[simp] theorem surplusStage_pins (h : Int) (s : State) : (surplusStage h s).pins = s.pins := by
  unfold surplusStage; dsimp only; repeat' split
  all_goals simp
@[simp] theorem surplusStage_store (h : Int) (s : State) : (surplusStage h s).store = s.store := by
  unfold surplusStage; dsimp only; repeat' split
  all_goals simp
@[simp] theorem surplusStage_freeCount (h : Int) (s : State) : (surplusStage h s).freeCount = s.freeCount := by
  unfold surplusStage; dsimp only; repeat' split
  all_goals simp
@[simp] theorem surplusStage_pending (h : Int) (s : State) : (surplusStage h s).pending = s.pending := by
  unfold surplusStage; dsimp only; repeat' split
  all_goals simp

@[simp] theorem actionStage_crs (s : State) : (actionStage s).crs = s.crs := by
  unfold actionStage; dsimp only; repeat' split
  all_goals simp
@[simp] theorem actionStage_fls (s : State) : (actionStage s).fls = s.fls := by
  unfold actionStage; dsimp only; repeat' split
  all_goals simp
@[simp] theorem actionStage_chd (s : State) : (actionStage s).chd = s.chd := by
  unfold actionStage; dsimp only; repeat' split
  all_goals simp
@[simp] theorem actionStage_sws (s : State) : (actionStage s).sws = s.sws := by
  unfold actionStage; dsimp only; repeat' split
  all_goals simp
@[simp] theorem actionStage_bde (s : State) : (actionStage s).bde = s.bde := by
  unfold actionStage; dsimp only; repeat' split
  all_goals simp
@[simp] theorem actionStage_gau (s : State) : (actionStage s).gau = s.gau := by
  unfold actionStage; dsimp only; repeat' split
  all_goals simp
@[simp] theorem actionStage_mdc (s : State) : (actionStage s).mdc = s.mdc := by
  unfold actionStage; dsimp only; repeat' split
  all_goals simp
@[simp] theorem actionStage_pins (s : State) : (actionStage s).pins = s.pins := by
  unfold actionStage; dsimp only; repeat' split
  all_goals simp
@[simp] theorem actionStage_store (s : State) : (actionStage s).store = s.store := by
  unfold actionStage; dsimp only; repeat' split
  all_goals simp
@[simp] theorem actionStage_freeCount (s : State) : (actionStage s).freeCount = s.freeCount := by
  unfold actionStage; dsimp only; repeat' split
  all_goals simp
@[simp] theorem actionStage_pending (s : State) : (actionStage s).pending = s.pending := by
  unfold actionStage; dsimp only; repeat' split
  all_goals simp

end Sys2Proof.Machine
end

