-- ==== Sys2Proof/Laws/Claims.lean ====
section
/-! SUPPORT. What the claim operations of Machine/Ops.lean do to the slots and to the two collections: one lemma per
operation and part of the table, which later proofs cite in place of unfolding. -/

namespace Sys2Proof.Machine

/-! ### Slots -/

theorem slots_modifyClaim (i j : SlotIx) (f : Claim → Claim) (s : State) :
    (modifyClaim i f s).clt.slots.get j
      = if i = j then { s.clt.slots.get i with claim := (claimAt s i).map f } else s.clt.slots.get j := by
  simp only [modifyClaim, upd_get, claimAt]

theorem claimAt_modifyClaim (i j : SlotIx) (f : Claim → Claim) (s : State) :
    claimAt (modifyClaim i f s) j = if i = j then (claimAt s i).map f else claimAt s j := by
  unfold claimAt; rw [slots_modifyClaim]; split <;> rfl

@[simp] theorem modifyClaim_grantList (i : SlotIx) (f : Claim → Claim) (s : State) :
    (modifyClaim i f s).clt.grantList = s.clt.grantList := by simp only [modifyClaim]

@[simp] theorem modifyClaim_heldQueue (i : SlotIx) (f : Claim → Claim) (s : State) :
    (modifyClaim i f s).clt.heldQueue = s.clt.heldQueue := by simp only [modifyClaim]

theorem slots_mapClaims (f : Claim → Claim) (s : State) (i : SlotIx) :
    (mapClaims f s).clt.slots.get i = { s.clt.slots.get i with claim := (claimAt s i).map f } := by
  simp only [mapClaims, mapTbl_get, claimAt]

theorem claimAt_mapClaims (f : Claim → Claim) (s : State) (i : SlotIx) :
    claimAt (mapClaims f s) i = (claimAt s i).map f := by
  unfold claimAt; rw [slots_mapClaims]; rfl

@[simp] theorem mapClaims_grantList (f : Claim → Claim) (s : State) :
    (mapClaims f s).clt.grantList = s.clt.grantList := by simp only [mapClaims]

@[simp] theorem mapClaims_heldQueue (f : Claim → Claim) (s : State) :
    (mapClaims f s).clt.heldQueue = s.clt.heldQueue := by simp only [mapClaims]

/-- Two states with the same claim table have the same claims. -/
theorem claimAt_congr {s t : State} (h : s.clt = t.clt) (i : SlotIx) : claimAt s i = claimAt t i := by
  unfold claimAt; rw [h]

theorem mem_liveSlots (t : ClaimTable) (i : SlotIx) : i ∈ liveSlots t ↔ (t.slots.get i).claim.isSome = true := by
  simp [liveSlots]

theorem freeSlot_free {t : ClaimTable} {i : SlotIx} (h : freeSlot t = some i) : (t.slots.get i).claim = none := by
  have := List.find?_some h
  simpa using this

theorem freeSlot_none {t : ClaimTable} (h : freeSlot t = none) (i : SlotIx) : (t.slots.get i).claim.isSome = true := by
  have := (List.find?_eq_none.mp h) i (List.mem_finRange i)
  simpa [Option.isSome_iff_ne_none] using this

theorem noClaims_iff (t : ClaimTable) : noClaims t = true ↔ ∀ i : SlotIx, (t.slots.get i).claim = none := by
  simp [noClaims, liveSlots, List.filter_eq_nil_iff]

/-! ### The held queue -/

/-- Entering the queue adds the slot and keeps every entry (R7). -/
theorem mem_enqueue (t : ClaimTable) (i j : SlotIx) (q : List SlotIx) : j ∈ enqueue t i q ↔ j = i ∨ j ∈ q := by
  unfold enqueue
  simp only [List.mem_append, List.mem_cons]
  constructor
  · rintro (h | rfl | h)
    · exact .inr ((List.takeWhile_sublist _).subset h)
    · exact .inl rfl
    · exact .inr ((List.dropWhile_sublist _).subset h)
  · rintro (rfl | h)
    · exact .inr (.inl rfl)
    · rw [← List.takeWhile_append_dropWhile (p := fun j => decide (slotRank t j ≤ slotRank t i)) (l := q)] at h
      rcases List.mem_append.mp h with h | h
      · exact .inl h
      · exact .inr (.inr h)

theorem nodup_enqueue {t : ClaimTable} {i : SlotIx} {q : List SlotIx} (hq : q.Nodup) (hi : i ∉ q) :
    (enqueue t i q).Nodup := by
  unfold enqueue
  have hsplit : q.takeWhile (fun j => decide (slotRank t j ≤ slotRank t i))
      ++ q.dropWhile (fun j => decide (slotRank t j ≤ slotRank t i)) = q := List.takeWhile_append_dropWhile
  have hq' := hq
  rw [← hsplit] at hq' hi
  rw [List.nodup_append] at hq' ⊢
  simp only [List.mem_append, not_or] at hi
  refine ⟨hq'.1, List.nodup_cons.mpr ⟨hi.2, hq'.2.1⟩, ?_⟩
  intro a ha b hb
  rcases List.mem_cons.mp hb with rfl | hb
  · exact fun h => hi.1 (h ▸ ha)
  · exact hq'.2.2 a ha b hb

/-! ### Becoming GRANTED and HELD -/

theorem claimAt_makeGranted (i j : SlotIx) (l sh : Nat) (s : State) :
    claimAt (makeGranted i l sh s) j
      = if i = j then (claimAt s i).map (fun c => { c with state := .granted l, settle := addSettle sh c.settle })
        else claimAt s j := by
  rw [← claimAt_modifyClaim]; rfl

@[simp] theorem makeGranted_grantList (i : SlotIx) (l sh : Nat) (s : State) :
    (makeGranted i l sh s).clt.grantList = s.clt.grantList.filter (· ≠ i) ++ [i] := by
  simp [makeGranted, ClaimTable.leave]

@[simp] theorem makeGranted_heldQueue (i : SlotIx) (l sh : Nat) (s : State) :
    (makeGranted i l sh s).clt.heldQueue = s.clt.heldQueue.filter (· ≠ i) := by
  simp [makeGranted, ClaimTable.leave]

theorem claimAt_makeHeld (i j : SlotIx) (r : HoldReasons) (s : State) :
    claimAt (makeHeld i r s) j
      = if i = j then (claimAt s i).map (fun c => { c with state := .held r, settle := none }) else claimAt s j := by
  rw [← claimAt_modifyClaim]; rfl

@[simp] theorem makeHeld_grantList (i : SlotIx) (r : HoldReasons) (s : State) :
    (makeHeld i r s).clt.grantList = s.clt.grantList.filter (· ≠ i) := by
  simp [makeHeld, ClaimTable.leave]

theorem mem_makeHeld_heldQueue (i j : SlotIx) (r : HoldReasons) (s : State) :
    j ∈ (makeHeld i r s).clt.heldQueue ↔ j = i ∨ j ∈ s.clt.heldQueue := by
  simp only [makeHeld, mem_enqueue, ClaimTable.leave, List.mem_filter, modifyClaim_heldQueue, ne_eq, decide_not,
    Bool.not_eq_eq_eq_not, Bool.not_true, decide_eq_false_iff_not]
  by_cases h : j = i <;> simp [h]

theorem makeHeld_heldQueue_nodup {i : SlotIx} {r : HoldReasons} {s : State} (h : s.clt.heldQueue.Nodup) :
    (makeHeld i r s).clt.heldQueue.Nodup := by
  refine nodup_enqueue (List.Nodup.filter _ (by simpa using h)) ?_
  simp [ClaimTable.leave]

theorem claimAt_stepLevel (i j : SlotIx) (l a : Nat) (s : State) :
    claimAt (stepLevel i l a s) j
      = if i = j then (claimAt s i).map (fun c => { c with state := .granted l, settle := addSettle a c.settle })
        else claimAt s j := claimAt_modifyClaim ..

/-! ### Retirement -/

theorem retire_of_free {i : SlotIx} {s : State} (h : claimAt s i = none) : retire i s = s := by
  unfold retire; rw [h]

/-- The claim table after a retirement (R12). -/
theorem retire_clt {i : SlotIx} {c : Claim} {s : State} (h : claimAt s i = some c) :
    (retire i s).clt
      = { slots := put s.clt.slots i { gen := (s.clt.slots.get i).gen + 1, claim := none }
          grantList := s.clt.grantList.filter (· ≠ i), heldQueue := s.clt.heldQueue.filter (· ≠ i) } := by
  unfold retire
  rw [h]
  dsimp only
  rw [slotFreed_clt]
  cases c.origin <;> rfl

theorem claimAt_retire (i j : SlotIx) (s : State) :
    claimAt (retire i s) j = if i = j then none else claimAt s j := by
  cases h : claimAt s i with
  | none =>
    rw [retire_of_free h]
    split
    · next hij => rw [← hij, h]
    · rfl
  | some c =>
    unfold claimAt
    rw [retire_clt h]
    simp only [put_get]
    split <;> rfl

/-- A retirement moves its slot to the next generation and leaves every other slot (R3). -/
theorem gen_retire {i : SlotIx} {c : Claim} {s : State} (h : claimAt s i = some c) (j : SlotIx) :
    ((retire i s).clt.slots.get j).gen
      = if i = j then (s.clt.slots.get i).gen + 1 else (s.clt.slots.get j).gen := by
  rw [retire_clt h]
  simp only [put_get]
  split <;> rfl

/-! ### Admission and the raise -/

/-- What admission does with a claim (R34): its slot becomes GRANTED with its share added to the settle part, or HELD
with the reasons admission gives. -/
theorem claimAt_admitSlot {i : SlotIx} {c : Claim} {s : State} (h : claimAt s i = some c) (j : SlotIx) :
    claimAt (admitSlot i s) j
      = if i = j then
          some (match admissionOf s c with
            | .grant l => { c with state := .granted l, settle := addSettle (claimShare s c l) c.settle }
            | .hold r => { c with state := .held r, settle := none })
        else claimAt s j := by
  unfold admitSlot
  rw [h]
  dsimp only
  cases admissionOf s c with
  | grant l => simp only [claimAt_makeGranted, h, Option.map_some]
  | hold r =>
    rw [claimAt_congr (t := makeHeld i r s) (by simp)]
    simp only [claimAt_makeHeld, h, Option.map_some]

/-- A raise fills its slot with the new claim as admission leaves it, and touches no other (R9). -/
theorem claimAt_raiseInto (i j : SlotIx) (r : Raise) (s : State) (hij : i ≠ j) :
    claimAt (raiseInto i r s) j = claimAt s j := by
  have h : claimAt { s with clt := s.clt.setClaim i (some (newClaim s r)) } i = some (newClaim s r) := by
    simp [claimAt, ClaimTable.setClaim]
  unfold raiseInto
  rw [claimAt_admitSlot h, if_neg hij]
  simp [claimAt, ClaimTable.setClaim, upd_get, hij]

end Sys2Proof.Machine
end

