-- ==== Sys2Proof/Laws/Keeps.lean ====
section
/-! SUPPORT. How a command answers, and how a property of the state passes through the frame of a command: `act`, the
hand-over of a request to its owner, and folds. -/

namespace Sys2Proof.Machine

/-! ### The answer of a command -/

theorem act_eq (f : State → State) (s : State) :
    act f s = .next (if s.mdc.heldInReset then s else settleTimer (f s)) := rfl

theorem act_run {s : State} (h : s.mdc.heldInReset = false) (f : State → State) :
    act f s = .next (settleTimer (f s)) := by
  simp [act, h]

theorem act_held {s : State} (h : s.mdc.heldInReset = true) (f : State → State) : act f s = .next s := by
  simp [act, h]

theorem inWork_iff (r : Req) (params : List Byte) (s : State) :
    inWork r params s = true ↔ s.lif.link = .working { req := r, params := params } := by
  simp [inWork]

/-- A request in work at the link is answered by its owner (R156). -/
theorem serve_inWork {r : Req} {params : List Byte} {s : State} (held : s.mdc.heldInReset = false)
    (h : s.lif.link = .working { req := r, params := params }) (body : List Byte → State → State × Reply) :
    serve r body params s = .next (settleTimer (answer (body params s).2 (body params s).1)) := by
  have hr : reach r params s = s := by simp [reach, h]
  unfold serve
  rw [act_run held]
  dsimp only
  rw [hr, if_pos ((inWork_iff ..).mpr h)]

/-- The frame of a request, taken by an IDLE link in RUN, in QUIESCED or in LOADING (R156). -/
theorem reach_idle {r : Req} {params : List Byte} {s : State} (h : s.lif.link = .idle) :
    reach r params s = takeFrame (frameOf r params) s := by
  simp [reach, h]

/-! ### Properties kept -/

/-- A change of the state keeps a property. -/
def Keeps (P : State → Prop) (f : State → State) : Prop := ∀ s, P s → P (f s)

variable {P : State → Prop}

theorem Keeps.id : Keeps P fun s => s := fun _ h => h

theorem Keeps.comp {f g : State → State} (hf : Keeps P f) (hg : Keeps P g) : Keeps P fun s => g (f s) :=
  fun s h => hg _ (hf s h)

theorem Keeps.ite {p : State → Prop} [∀ s, Decidable (p s)] {f g : State → State} (hf : Keeps P f) (hg : Keeps P g) :
    Keeps P fun s => if p s then f s else g s := by
  intro s h
  dsimp only
  split
  · exact hf s h
  · exact hg s h

theorem Keeps.foldl {α : Type} {f : State → α → State} (hf : ∀ a, Keeps P (f · a)) (xs : List α) :
    Keeps P fun s => xs.foldl f s := by
  intro s h
  induction xs generalizing s with
  | nil => exact h
  | cons x xs ih => exact ih _ (hf x s h)

/-- A command keeps what its effect and the sleep entry timer's settling keep. -/
theorem act_keeps {f : State → State} (hs : Keeps P settleTimer) (hf : Keeps P f) {s t : State}
    (h : act f s = .next t) (hP : P s) : P t := by
  rw [act_eq] at h
  injection h with h
  subst h
  split
  · exact hP
  · exact hs _ (hf _ hP)

/-- A request keeps what its frame, its owner's effect, the answer and the settling keep. -/
theorem serve_keeps {r : Req} {body : List Byte → State → State × Reply} (hs : Keeps P settleTimer)
    (hr : ∀ params, Keeps P (takeFrame (frameOf r params))) (ha : ∀ reply, Keeps P (answer reply))
    (hb : ∀ params s, P s → P (body params s).1) {params : List Byte} {s t : State}
    (h : serve r body params s = .next t) (hP : P s) : P t := by
  refine act_keeps hs ?_ h hP
  intro s hP
  have hreach : P (reach r params s) := by
    unfold reach
    split
    · exact hP
    · exact hr params s hP
  dsimp only
  split
  · exact ha _ _ (hb _ _ hreach)
  · exact hreach

end Sys2Proof.Machine
end

