-- ==== Sys2Proof/Laws/Outputs.lean ====
section
/-! SUPPORT. What the output operations of Machine/Outputs.lean do to the channels: the channel changed and the others,
the fields of a record that a demand never touches, and how a property of every channel passes through resolution. -/

namespace Sys2Proof.Machine

/-! ### One channel in the state -/

theorem chd_modifyChannel (ch k : Chan) (f : Channel → Channel) (s : State) :
    (modifyChannel ch f s).chd.get k = if ch = k then f (s.chd.get ch) else s.chd.get k := by
  have : (modifyChannel ch f s).chd = put s.chd ch (f (s.chd.get ch)) := by
    unfold modifyChannel; dsimp only; split <;> rfl
  rw [this, put_get]

theorem chd_tripChannel (ch k : Chan) (kind : TripKind) (s : State) :
    (tripChannel ch kind s).chd.get k = if ch = k then (s.chd.get ch).trip kind else s.chd.get k := by
  simp only [tripChannel, setFlag_chd, setFlagIf_chd, chd_modifyChannel]

theorem chd_handDemand (ch k : Chan) (d : Nat) (s : State) :
    (handDemand ch d s).chd.get k
      = if ch = k then (s.chd.get ch).takeDemand (s.mdc.mode == .run) d else s.chd.get k :=
  chd_modifyChannel ..

/-! ### What a start, a cut and a demand leave in a record -/

section record

variable (c : Channel) (st : ChanState) (run : Bool) (d : Nat)

@[simp] theorem cut_profile : (c.cut st).profile = c.profile := rfl
@[simp] theorem cut_demand : (c.cut st).demand = c.demand := rfl
@[simp] theorem cut_tripCount : (c.cut st).tripCount = c.tripCount := rfl
@[simp] theorem cut_lastTrip : (c.cut st).lastTrip = c.lastTrip := rfl
@[simp] theorem cut_openLoadFlag : (c.cut st).openLoadFlag = c.openLoadFlag := rfl
@[simp] theorem cut_lifetime : (c.cut st).lifetime = c.lifetime := rfl
@[simp] theorem cut_state : (c.cut st).state = st := rfl
@[simp] theorem cut_applied : (c.cut st).applied = 0 := rfl
@[simp] theorem cut_target : (c.cut st).target = 0 := rfl
@[simp] theorem cut_samples : (c.cut st).samples = [] := rfl

@[simp] theorem start_profile : c.start.profile = c.profile := by unfold Channel.start; dsimp only; split <;> rfl
@[simp] theorem start_demand : c.start.demand = c.demand := by unfold Channel.start; dsimp only; split <;> rfl
@[simp] theorem start_tripCount : c.start.tripCount = c.tripCount := by
  unfold Channel.start; dsimp only; split <;> rfl
@[simp] theorem start_lastTrip : c.start.lastTrip = c.lastTrip := by unfold Channel.start; dsimp only; split <;> rfl
@[simp] theorem start_openLoadFlag : c.start.openLoadFlag = c.openLoadFlag := by
  unfold Channel.start; dsimp only; split <;> rfl
@[simp] theorem start_lifetime : c.start.lifetime = c.lifetime := by unfold Channel.start; dsimp only; split <;> rfl

/-- A start leads into SOFTSTART or ON, but for an UNUSED channel, which it leaves as it is (R90). -/
theorem start_driven (h : c.profile.kind ≠ .unused) : c.start.state.driven = true := by
  unfold Channel.start
  dsimp only
  split
  · contradiction
  · dsimp only; split <;> rfl
  · dsimp only; split <;> rfl
  · rfl
  · rfl

theorem start_unused (h : c.profile.kind = .unused) : c.start = c := by
  unfold Channel.start; rw [h]

@[simp] theorem takeDemand_profile : (c.takeDemand run d).profile = c.profile := by
  unfold Channel.takeDemand; dsimp only; split <;> (try split) <;> (try split) <;> simp
@[simp] theorem takeDemand_demand : (c.takeDemand run d).demand = d := by
  unfold Channel.takeDemand; dsimp only; split <;> (try split) <;> (try split) <;> simp
@[simp] theorem takeDemand_lastTrip : (c.takeDemand run d).lastTrip = c.lastTrip := by
  unfold Channel.takeDemand; dsimp only; split <;> (try split) <;> (try split) <;> simp
@[simp] theorem takeDemand_openLoadFlag : (c.takeDemand run d).openLoadFlag = c.openLoadFlag := by
  unfold Channel.takeDemand; dsimp only; split <;> (try split) <;> (try split) <;> simp
@[simp] theorem takeDemand_lifetime : (c.takeDemand run d).lifetime = c.lifetime := by
  unfold Channel.takeDemand; dsimp only; split <;> (try split) <;> (try split) <;> simp

end record

/-! ### A property of every channel through resolution -/

section every

variable {P : Channel → Prop} {s : State}

/-- A property that a demand keeps, and that does not read the open-load times, passes through a hand-over of
demands. -/
theorem refreshDemand_every (hP : ∀ c d, P c → P (c.takeDemand (s.mdc.mode == .run) d)) (h : ∀ k, P (s.chd.get k))
    (ch : Chan) : ∀ k, P ((refreshDemand s ch).chd.get k) := by
  intro k
  unfold refreshDemand
  dsimp only
  split
  · exact h k
  · rw [chd_handDemand]
    split
    · exact hP _ _ (h ch)
    · exact h k

/-- A property of every channel that one step of a fold keeps, in a mode that the fold keeps, the whole fold keeps. -/
theorem foldl_every {α : Type} (f : State → α → State) (m : Mode) (hm : ∀ t a, (f t a).mdc.mode = t.mdc.mode)
    (hf : ∀ t a, t.mdc.mode = m → (∀ k, P (t.chd.get k)) → ∀ k, P ((f t a).chd.get k)) (xs : List α) (t : State)
    (ht : t.mdc.mode = m) (h : ∀ k, P (t.chd.get k)) : ∀ k, P ((xs.foldl f t).chd.get k) := by
  induction xs generalizing t with
  | nil => exact h
  | cons x xs ih => exact ih (f t x) ((hm t x).trans ht) (hf t x ht h)

theorem refreshDemands_every (hP : ∀ c d, P c → P (c.takeDemand (s.mdc.mode == .run) d))
    (h : ∀ k, P (s.chd.get k)) : ∀ k, P ((refreshDemands s).chd.get k) :=
  foldl_every refreshDemand s.mdc.mode (by simp)
    (fun t a ht h => refreshDemand_every (s := t) (by rw [ht]; exact hP) h a) _ s rfl h

theorem handAllDemands_every (hP : ∀ c d, P c → P (c.takeDemand (s.mdc.mode == .run) d))
    (h : ∀ k, P (s.chd.get k)) : ∀ k, P ((handAllDemands s).chd.get k) :=
  foldl_every _ s.mdc.mode (by simp)
    (fun t a ht h k => by
      rw [chd_handDemand]
      split
      · rw [ht]; exact hP _ _ (h a)
      · exact h k) _ s rfl h

/-- The open-load times set to 0, as a channel that enters the flash set has them (R102). -/
def Channel.clearTimes (c : Channel) : Channel := { c with lowTime := 0, goodTime := 0 }

theorem reformFlashSet_every (hT : ∀ c, P c → P c.clearTimes) (h : ∀ k, P (s.chd.get k)) :
    ∀ k, P ((reformFlashSet s).chd.get k) := by
  intro k
  simp only [reformFlashSet, tabulate_get]
  split
  · exact hT _ (h k)
  · exact h k

theorem resolveCircuit_every (hP : ∀ c d, P c → P (c.takeDemand (s.mdc.mode == .run) d))
    (hT : ∀ c, P c → P c.clearTimes) (h : ∀ k, P (s.chd.get k)) (c : Circ) :
    ∀ k, P ((resolveCircuit s c).chd.get k) := by
  unfold resolveCircuit
  dsimp only
  refine refreshDemands_every (by simpa using hP) ?_
  simp only [indicate, syncFlasher_chd]
  exact reformFlashSet_every hT (by simpa using h)

theorem handOver_every (v : Vector Bool 16) (hP : ∀ c d, P c → P (c.takeDemand (s.mdc.mode == .run) d))
    (hT : ∀ c, P c → P c.clearTimes) (h : ∀ k, P (s.chd.get k)) : ∀ k, P ((handOver v s).chd.get k) :=
  foldl_every _ s.mdc.mode (by intro t c; split <;> simp)
    (fun t c ht h => by
      split
      · exact resolveCircuit_every (by rw [ht]; exact hP) hT h c
      · exact h) _ s rfl h

theorem resolveAll_every (hP : ∀ c d, P c → P (c.takeDemand (s.mdc.mode == .run) d)) (hT : ∀ c, P c → P c.clearTimes)
    (h : ∀ k, P (s.chd.get k)) : ∀ k, P ((resolveAll s).chd.get k) := by
  unfold resolveAll
  dsimp only
  refine handAllDemands_every (by simpa using hP) ?_
  simp only [indicate, syncFlasher_chd]
  exact reformFlashSet_every hT (by simpa using h)

end every

/-! ### The circuit table through resolution -/

@[simp] theorem reformFlashSet_inForce (s : State) : (reformFlashSet s).crs.inForce = s.crs.inForce := by
  simp [reformFlashSet]
@[simp] theorem reformFlashSet_pendingEntry (s : State) :
    (reformFlashSet s).crs.pendingEntry = s.crs.pendingEntry := by simp [reformFlashSet]
@[simp] theorem indicate_inForce (s : State) : (indicate s).crs.inForce = s.crs.inForce := by simp [indicate]
@[simp] theorem indicate_pendingEntry (s : State) : (indicate s).crs.pendingEntry = s.crs.pendingEntry := by
  simp [indicate]
@[simp] theorem resolveCircuit_inForce (s : State) (c : Circ) :
    (resolveCircuit s c).crs.inForce = s.crs.inForce := by simp [resolveCircuit]
@[simp] theorem resolveCircuit_pendingEntry (s : State) (c : Circ) :
    (resolveCircuit s c).crs.pendingEntry = s.crs.pendingEntry := by simp [resolveCircuit]
@[simp] theorem resolveAll_inForce (s : State) : (resolveAll s).crs.inForce = s.crs.inForce := by simp [resolveAll]
@[simp] theorem resolveAll_pendingEntry (s : State) : (resolveAll s).crs.pendingEntry = s.crs.pendingEntry := by
  simp [resolveAll]
@[simp] theorem handOver_inForce (v : Vector Bool 16) (s : State) : (handOver v s).crs.inForce = s.crs.inForce :=
  foldl_frame (fun s : State => s.crs.inForce) _ (by intro s c; split <;> simp) _ s
@[simp] theorem handOver_pendingEntry (v : Vector Bool 16) (s : State) :
    (handOver v s).crs.pendingEntry = s.crs.pendingEntry :=
  foldl_frame (fun s : State => s.crs.pendingEntry) _ (by intro s c; split <;> simp) _ s

end Sys2Proof.Machine
end

