-- ==== Sys2Proof/WellFormed.lean ====
section
/-! DEFINITION. Which terms of `Instr` stand for a command the wiring or the host can give: the bounds a frame puts on
its bytes (R155, R156) and the ranges of R25 and R87. A term outside them still has its meaning: `exec` is total. -/

namespace Sys2Proof

/-- A request's parameters fit a frame: at most 30 bytes (R156). -/
def paramsFit (params : List Byte) : Bool := decide (params.length ≤ 30)

/-- The bytes are those of a request frame: at least one byte, and the first is not 255, which opens a fetch frame
(R155). -/
def opensRequest (bytes : List Byte) : Bool :=
  match bytes with
  | [] => false
  | b :: _ => b != 255

/-- The supply inputs lie in the ranges of R25. -/
def supplyInRange (vbat vgen : Nat) (ibat : Int) : Bool :=
  decide (vbat ≤ 2000) && decide (vgen ≤ 2000) && decide (-800 ≤ ibat) && decide (ibat ≤ 800)

/-- The commands that can be given as they stand. -/
def Instr.wellFormed : Instr → Bool
  | .claimRaise p | .claimAlter p | .claimRetire p | .claimLookup p | .claimScan p | .supplyRead p | .holdSet p
  | .circuitRead p | .circuitWrite p | .flasherRead p | .flasherSet p | .channelRead p | .channelRestore p
  | .profileRead p | .profileWrite p | .groupRead p | .groupWrite p | .bindRead p | .bindWrite p | .gaugeRead p
  | .gaugeSet p | .statusRead p | .statusClear p | .enableRead p | .enableSet p | .enableClear p | .pendingRead p
  | .deviceRead p | .quiesce p | .resume p | .storeSave p | .storeLoad p => paramsFit p
  | .requestFrame bytes => opensRequest bytes
  | .fetchFrame n => decide (1 ≤ n)
  | .supplySample v g i => supplyInRange v g i
  | .currentSample _ r => decide (r ≤ 500)
  | .switchScan _ | .passStep | .budgetEvaluation | .settlePartExpiry _ | .holdTimerExpiry _ | .crankRecoveryEnd
  | .hostHoldEnd | .claimExpiry _ | .litExpiry | .darkExpiry | .bulbCheckReading _ | .tickPulseEnd | .stallTrip _
  | .channelPeriodEnd _ | .motorRampStep _ | .inrushWindowEnd _ | .continuousOnForgive _ | .backOffExpiry _
  | .openLoadDetected _ | .openLoadCleared _ | .senderSample _ _ _ | .gaugeUpdate | .faultHoldEnd _
  | .heaterPeriodEnd _ | .reset _ | .loadingComplete _ | .storeSaveComplete | .storeSaveFail | .storeLoadComplete _
  | .sleepEntry | .leaveReset => true

end Sys2Proof
end

