-- ==== Sys2Proof/Laws/PerInstr.lean ====
section
/-! SUPPORT. The family `Bounds`: a well-formed command fits its frame or its range (R25, R87, R155, R156), one lemma
per constructor of `Instr`. -/

namespace Sys2Proof.Laws.Bounds

/-- What a command's operands are held to: at most 30 parameter bytes for a request, a first byte other than 255 for a
request frame, at least one byte shifted in a fetch frame, and the ranges of the inputs. -/
def fits : Instr → Prop
  | .claimRaise p => p.length ≤ 30
  | .claimAlter p => p.length ≤ 30
  | .claimRetire p => p.length ≤ 30
  | .claimLookup p => p.length ≤ 30
  | .claimScan p => p.length ≤ 30
  | .supplyRead p => p.length ≤ 30
  | .holdSet p => p.length ≤ 30
  | .circuitRead p => p.length ≤ 30
  | .circuitWrite p => p.length ≤ 30
  | .flasherRead p => p.length ≤ 30
  | .flasherSet p => p.length ≤ 30
  | .channelRead p => p.length ≤ 30
  | .channelRestore p => p.length ≤ 30
  | .profileRead p => p.length ≤ 30
  | .profileWrite p => p.length ≤ 30
  | .groupRead p => p.length ≤ 30
  | .groupWrite p => p.length ≤ 30
  | .bindRead p => p.length ≤ 30
  | .bindWrite p => p.length ≤ 30
  | .gaugeRead p => p.length ≤ 30
  | .gaugeSet p => p.length ≤ 30
  | .statusRead p => p.length ≤ 30
  | .statusClear p => p.length ≤ 30
  | .enableRead p => p.length ≤ 30
  | .enableSet p => p.length ≤ 30
  | .enableClear p => p.length ≤ 30
  | .pendingRead p => p.length ≤ 30
  | .deviceRead p => p.length ≤ 30
  | .quiesce p => p.length ≤ 30
  | .resume p => p.length ≤ 30
  | .storeSave p => p.length ≤ 30
  | .storeLoad p => p.length ≤ 30
  | .requestFrame bytes => opensRequest bytes = true
  | .fetchFrame n => 1 ≤ n
  | .switchScan _ => True
  | .passStep => True
  | .supplySample v g x => ((v ≤ 2000 ∧ g ≤ 2000) ∧ -800 ≤ x) ∧ x ≤ 800
  | .budgetEvaluation => True
  | .settlePartExpiry _ => True
  | .holdTimerExpiry _ => True
  | .crankRecoveryEnd => True
  | .hostHoldEnd => True
  | .claimExpiry _ => True
  | .litExpiry => True
  | .darkExpiry => True
  | .bulbCheckReading _ => True
  | .tickPulseEnd => True
  | .currentSample _ r => r ≤ 500
  | .stallTrip _ => True
  | .channelPeriodEnd _ => True
  | .motorRampStep _ => True
  | .inrushWindowEnd _ => True
  | .continuousOnForgive _ => True
  | .backOffExpiry _ => True
  | .openLoadDetected _ => True
  | .openLoadCleared _ => True
  | .senderSample _ _ _ => True
  | .gaugeUpdate => True
  | .faultHoldEnd _ => True
  | .heaterPeriodEnd _ => True
  | .reset _ => True
  | .loadingComplete _ => True
  | .storeSaveComplete => True
  | .storeSaveFail => True
  | .storeLoadComplete _ => True
  | .sleepEntry => True
  | .leaveReset => True

/-- A well-formed command fits. -/
def Statement (i : Instr) : Prop := i.wellFormed = true → fits i

theorem claimRaise (params : List Byte) : Statement (.claimRaise params) :=
  fun h => of_decide_eq_true (p := params.length ≤ 30) h

theorem claimAlter (params : List Byte) : Statement (.claimAlter params) :=
  fun h => of_decide_eq_true (p := params.length ≤ 30) h

theorem claimRetire (params : List Byte) : Statement (.claimRetire params) :=
  fun h => of_decide_eq_true (p := params.length ≤ 30) h

theorem claimLookup (params : List Byte) : Statement (.claimLookup params) :=
  fun h => of_decide_eq_true (p := params.length ≤ 30) h

theorem claimScan (params : List Byte) : Statement (.claimScan params) :=
  fun h => of_decide_eq_true (p := params.length ≤ 30) h

theorem supplyRead (params : List Byte) : Statement (.supplyRead params) :=
  fun h => of_decide_eq_true (p := params.length ≤ 30) h

theorem holdSet (params : List Byte) : Statement (.holdSet params) :=
  fun h => of_decide_eq_true (p := params.length ≤ 30) h

theorem circuitRead (params : List Byte) : Statement (.circuitRead params) :=
  fun h => of_decide_eq_true (p := params.length ≤ 30) h

theorem circuitWrite (params : List Byte) : Statement (.circuitWrite params) :=
  fun h => of_decide_eq_true (p := params.length ≤ 30) h

theorem flasherRead (params : List Byte) : Statement (.flasherRead params) :=
  fun h => of_decide_eq_true (p := params.length ≤ 30) h

theorem flasherSet (params : List Byte) : Statement (.flasherSet params) :=
  fun h => of_decide_eq_true (p := params.length ≤ 30) h

theorem channelRead (params : List Byte) : Statement (.channelRead params) :=
  fun h => of_decide_eq_true (p := params.length ≤ 30) h

theorem channelRestore (params : List Byte) : Statement (.channelRestore params) :=
  fun h => of_decide_eq_true (p := params.length ≤ 30) h

theorem profileRead (params : List Byte) : Statement (.profileRead params) :=
  fun h => of_decide_eq_true (p := params.length ≤ 30) h

theorem profileWrite (params : List Byte) : Statement (.profileWrite params) :=
  fun h => of_decide_eq_true (p := params.length ≤ 30) h

theorem groupRead (params : List Byte) : Statement (.groupRead params) :=
  fun h => of_decide_eq_true (p := params.length ≤ 30) h

theorem groupWrite (params : List Byte) : Statement (.groupWrite params) :=
  fun h => of_decide_eq_true (p := params.length ≤ 30) h

theorem bindRead (params : List Byte) : Statement (.bindRead params) :=
  fun h => of_decide_eq_true (p := params.length ≤ 30) h

theorem bindWrite (params : List Byte) : Statement (.bindWrite params) :=
  fun h => of_decide_eq_true (p := params.length ≤ 30) h

theorem gaugeRead (params : List Byte) : Statement (.gaugeRead params) :=
  fun h => of_decide_eq_true (p := params.length ≤ 30) h

theorem gaugeSet (params : List Byte) : Statement (.gaugeSet params) :=
  fun h => of_decide_eq_true (p := params.length ≤ 30) h

theorem statusRead (params : List Byte) : Statement (.statusRead params) :=
  fun h => of_decide_eq_true (p := params.length ≤ 30) h

theorem statusClear (params : List Byte) : Statement (.statusClear params) :=
  fun h => of_decide_eq_true (p := params.length ≤ 30) h

theorem enableRead (params : List Byte) : Statement (.enableRead params) :=
  fun h => of_decide_eq_true (p := params.length ≤ 30) h

theorem enableSet (params : List Byte) : Statement (.enableSet params) :=
  fun h => of_decide_eq_true (p := params.length ≤ 30) h

theorem enableClear (params : List Byte) : Statement (.enableClear params) :=
  fun h => of_decide_eq_true (p := params.length ≤ 30) h

theorem pendingRead (params : List Byte) : Statement (.pendingRead params) :=
  fun h => of_decide_eq_true (p := params.length ≤ 30) h

theorem deviceRead (params : List Byte) : Statement (.deviceRead params) :=
  fun h => of_decide_eq_true (p := params.length ≤ 30) h

theorem quiesce (params : List Byte) : Statement (.quiesce params) :=
  fun h => of_decide_eq_true (p := params.length ≤ 30) h

theorem resume (params : List Byte) : Statement (.resume params) :=
  fun h => of_decide_eq_true (p := params.length ≤ 30) h

theorem storeSave (params : List Byte) : Statement (.storeSave params) :=
  fun h => of_decide_eq_true (p := params.length ≤ 30) h

theorem storeLoad (params : List Byte) : Statement (.storeLoad params) :=
  fun h => of_decide_eq_true (p := params.length ≤ 30) h

theorem requestFrame (bytes : List Byte) : Statement (.requestFrame bytes) := fun h => h

theorem fetchFrame (count : Nat) : Statement (.fetchFrame count) := fun h => of_decide_eq_true (p := 1 ≤ count) h

theorem switchScan (levels : BitVec 26) : Statement (.switchScan levels) := fun _ => trivial

theorem passStep : Statement (.passStep) := fun _ => trivial

theorem supplySample (vbat vgen : Nat) (ibat : Int) : Statement (.supplySample vbat vgen ibat) := fun h => by
  have h : supplyInRange vbat vgen ibat = true := h
  unfold supplyInRange at h
  simpa only [Bool.and_eq_true, decide_eq_true_eq, fits] using h

theorem budgetEvaluation : Statement (.budgetEvaluation) := fun _ => trivial

theorem settlePartExpiry (slot : SlotIx) : Statement (.settlePartExpiry slot) := fun _ => trivial

theorem holdTimerExpiry (slot : SlotIx) : Statement (.holdTimerExpiry slot) := fun _ => trivial

theorem crankRecoveryEnd : Statement (.crankRecoveryEnd) := fun _ => trivial

theorem hostHoldEnd : Statement (.hostHoldEnd) := fun _ => trivial

theorem claimExpiry (slot : SlotIx) : Statement (.claimExpiry slot) := fun _ => trivial

theorem litExpiry : Statement (.litExpiry) := fun _ => trivial

theorem darkExpiry : Statement (.darkExpiry) := fun _ => trivial

theorem bulbCheckReading (ch : Chan) : Statement (.bulbCheckReading ch) := fun _ => trivial

theorem tickPulseEnd : Statement (.tickPulseEnd) := fun _ => trivial

theorem currentSample (ch : Chan) (reading : Nat) : Statement (.currentSample ch reading) :=
  fun h => of_decide_eq_true (p := reading ≤ 500) h

theorem stallTrip (ch : Chan) : Statement (.stallTrip ch) := fun _ => trivial

theorem channelPeriodEnd (ch : Chan) : Statement (.channelPeriodEnd ch) := fun _ => trivial

theorem motorRampStep (ch : Chan) : Statement (.motorRampStep ch) := fun _ => trivial

theorem inrushWindowEnd (ch : Chan) : Statement (.inrushWindowEnd ch) := fun _ => trivial

theorem continuousOnForgive (ch : Chan) : Statement (.continuousOnForgive ch) := fun _ => trivial

theorem backOffExpiry (ch : Chan) : Statement (.backOffExpiry ch) := fun _ => trivial

theorem openLoadDetected (ch : Chan) : Statement (.openLoadDetected ch) := fun _ => trivial

theorem openLoadCleared (ch : Chan) : Statement (.openLoadCleared ch) := fun _ => trivial

theorem senderSample (a0 a1 a2 : BitVec 12) : Statement (.senderSample a0 a1 a2) := fun _ => trivial

theorem gaugeUpdate : Statement (.gaugeUpdate) := fun _ => trivial

theorem faultHoldEnd (g : GaugeIx) : Statement (.faultHoldEnd g) := fun _ => trivial

theorem heaterPeriodEnd (g : GaugeIx) : Statement (.heaterPeriodEnd g) := fun _ => trivial

theorem reset (cause : ResetCause) : Statement (.reset cause) := fun _ => trivial

theorem loadingComplete (read : StoreRead) : Statement (.loadingComplete read) := fun _ => trivial

theorem storeSaveComplete : Statement (.storeSaveComplete) := fun _ => trivial

theorem storeSaveFail : Statement (.storeSaveFail) := fun _ => trivial

theorem storeLoadComplete (read : StoreRead) : Statement (.storeLoadComplete read) := fun _ => trivial

theorem sleepEntry : Statement (.sleepEntry) := fun _ => trivial

theorem leaveReset : Statement (.leaveReset) := fun _ => trivial

end Sys2Proof.Laws.Bounds
end

