-- ==== Sys2Proof/Tests/Slice0.lean ====
section
/-! SUPPORT. The model's own tests: ill-formed terms that `wellFormed` refuses, one or two steps of each command on small
states with results taken from the manual, and for each statement with hypotheses a state that meets them. -/

namespace Sys2Proof.Tests

set_option Elab.async false

open Sys2Proof Sys2Proof.Machine

/-! ### Ill-formed terms -/

theorem test_params_fit : (Instr.statusRead (List.replicate 31 0)).wellFormed = false
    ∧ (Instr.statusRead (List.replicate 30 0)).wellFormed = true := by decide
theorem test_frame_empty : (Instr.requestFrame []).wellFormed = false := by decide
theorem test_frame_fetch_byte : (Instr.requestFrame [255]).wellFormed = false
    ∧ (Instr.requestFrame [254]).wellFormed = true := by decide
theorem test_fetch_no_byte : (Instr.fetchFrame 0).wellFormed = false ∧ (Instr.fetchFrame 1).wellFormed = true := by decide
theorem test_supply_vbat : (Instr.supplySample 2001 0 0).wellFormed = false := by decide
theorem test_supply_vgen : (Instr.supplySample 0 2001 0).wellFormed = false := by decide
theorem test_supply_ibat : (Instr.supplySample 0 0 801).wellFormed = false
    ∧ (Instr.supplySample 0 0 (-801)).wellFormed = false ∧ (Instr.supplySample 2000 2000 (-800)).wellFormed = true := by
  decide
theorem test_current : (Instr.currentSample 0 501).wellFormed = false ∧ (Instr.currentSample 0 500).wellFormed = true := by
  decide

/-! ### Small states -/

/-- The next state of a command. -/
def ran (c : Instr) (s : State) : State :=
  match exec c s with
  | .next t => t
  | .fault _ => s
  | .refused _ => s

/-- The reply that the link holds. -/
def replyOf (s : State) : Option Reply :=
  match s.lif.link with
  | .replyReady r => some r
  | .working _ => none
  | .idle => none

/-- A state in a mode. -/
def inMode (m : Mode) (s : State) : State := { s with mdc := { s.mdc with mode := m } }

/-- A request in work at the link. -/
def given (r : Req) (p : List Byte) (s : State) : State :=
  { s with lif := { s.lif with link := .working { req := r, params := p } } }

/-- The reply of a request given to a state. -/
def asks (r : Req) (p : List Byte) (s : State) : Option Reply := replyOf (ran (r.command p) (given r p s))

/-- RUN with a sample of 12.30 V, 12.50 V and 0.5 A to hand, and CI9 with a maximum level of 3. -/
def run0 : State :=
  let s := inMode .run State.reset
  { s with
    crs := { s.crs with inForce := put s.crs.inForce 9 { channels := [9], maxLevel := 3 } }
    sbu := { s.sbu with samples := [{ vbat := 1230, vgen := 1250, ibat := 5 }], ibatF := 5 } }

/-- The same state in QUIESCED. -/
def quiet0 : State := inMode .quiesced run0

/-- A COMFORT claim on CI9 with a share of 60 dA, granted at level 2 of 3. -/
def fan : Claim :=
  { origin := .link, circuit := 9, mode := .steady, cls := .comfort, requested := 3, floor := 1, shareFull := 60
    source := .given, state := .granted 2, expiry := none, settle := none }

/-- A FLASH claim of LIGHTING on CI4. -/
def turn : Claim :=
  { origin := .link, circuit := 4, mode := .flash, cls := .lighting, requested := 1, floor := 1, shareFull := 40
    source := .circuit, state := .granted 1, expiry := none, settle := none }

/-- Hold reasons with nothing but a hold timer. -/
def timed (n : Option Nat) : HoldReasons := { budgetTimer := n, crank := false, host := false }

/-- A claim in a slot, in the collection of its state. -/
def holding (i : SlotIx) (c : Claim) (s : State) : State :=
  let t := s.clt.setClaim i (some c)
  { s with clt := if c.isHeld then { t with heldQueue := t.heldQueue ++ [i] }
                  else { t with grantList := t.grantList ++ [i] } }

/-- The fan's claim in slot 0. -/
def fanned : State := holding 0 fan run0

/-- A state with other filtered current. -/
def current (i : Int) (s : State) : State := { s with sbu := { s.sbu with ibatF := i } }

/-- A channel's record replaced. -/
def chan (ch : Chan) (f : Channel → Channel) (s : State) : State := { s with chd := upd s.chd ch f }

/-- A channel ON at full demand with measured current `n`. -/
def lampOn (n : Nat) (c : Channel) : Channel :=
  { c with state := .on 0, demand := 1000, target := 1000, applied := 1000, ramp := 1000, samples := [n] }

/-- A MOTOR channel of CH16 in a state at a duty, on its way to 800 ‰. -/
def motorAt (st : ChanState) (d : Nat) (c : Channel) : Channel :=
  { c with
    profile := { c.profile with kind := .motor, inrush := 0, minDuty := 300, stall := 90 }
    state := st, demand := 700, target := 800, applied := d, ramp := d, samples := [95] }

/-- A gauge changed. -/
def gauge (f : Gauge → Gauge) (s : State) : State := { s with gau := upd s.gau 0 f }

/-- The accepted code of a group. -/
def accepted (g : GroupIx) (c : BitVec 4) (s : State) : State :=
  { s with sws := { s.sws with recs := upd s.sws.recs g fun r => { r with accepted := some c } } }

/-- A group's candidate with its run. -/
def candidate (g : GroupIx) (c : BitVec 4) (n : Nat) (s : State) : State :=
  { s with sws := { s.sws with recs := upd s.sws.recs g fun r => { r with candidate := some c, run := n } } }

/-- A phase of the Flasher. -/
def phased (p : Phase) (s : State) : State := { s with fls := { s.fls with phase := p } }

/-- A LIT phase at 80 in which CH4 is PENDING from its start and CH5 from within it. -/
def lit0 : Phase :=
  .lit 80 200 (tabulate fun ch => if ch = 4 then some (.pending false 0) else if ch = 5 then some (.pending true 0)
    else none)

/-- A pass about to take a binding. -/
def passing (b : BindIx) (s : State) : State := { s with bde := { s.bde with pass := some { freshPass s with next := b } } }

/-! ### The claim requests -/

/-- R35's example: with H = 45 a claim of 60 dA asked at level 3 of 3, floor 1, is granted at 2 and DEGRADED. -/
theorem test_raise_degraded : asks .claimRaise [9, 0, 2, 3, 1, 1, 60, 0, 0] run0
    = some { code := .degraded, fields := [0, 0, 0, 3, 1, 2, 0] } := by decide +kernel
/-- R35's example: with H = 15 it is HELD with BUDGET_TIMER. -/
theorem test_raise_held : asks .claimRaise [9, 0, 2, 3, 1, 1, 60, 0, 0] (current (-25) run0)
    = some { code := .held, fields := [0, 0, 1, 3, 1, 0, 1] } := by decide +kernel
/-- R19: the granted level follows the requested level down at once. -/
theorem test_alter_down : asks .claimAlter [0, 0, 1, 1, 0, 0, 0, 0] fanned
    = some { code := .granted, fields := [0, 0, 0, 1, 1, 1, 0] } := by decide +kernel
/-- R19: a lowered floor below the granted level of a DEGRADED claim is stored, and the level stays though H = 45. -/
theorem test_alter_floor : asks .claimAlter [0, 0, 2, 0, 1, 0, 0, 0] (holding 0 { fan with floor := 2 } run0)
    = some { code := .degraded, fields := [0, 0, 0, 3, 1, 2, 0] } := by decide +kernel
/-- R12: the slot's generation is increased. -/
theorem test_retire : ((ran (.claimRetire [0, 0]) (given .claimRetire [0, 0] fanned)).clt.slots.get 0)
    = { gen := 1, claim := none } := by decide +kernel
/-- R4: a handle of another generation. -/
theorem test_lookup_stale : asks .claimLookup [0, 1] fanned = some { code := .staleHandle, fields := [] } := by
  decide +kernel
/-- R173: the record's seventeen bytes. -/
theorem test_lookup : asks .claimLookup [0, 0] fanned
    = some { code := .ok, fields := [0, 0, 64, 9, 0, 2, 3, 1, 2, 60, 0, 0, 0, 0, 0, 0, 0] } := by decide +kernel
/-- R23: nothing further matches. -/
theorem test_scan : asks .claimScan [255, 0] fanned = some { code := .ok, fields := [32, 1, 0, 0] } := by decide +kernel

/-! ### The budget -/

/-- R49: 12.30 V is 1230 cV, 4 CEH; H = 5 + 40. -/
theorem test_supply_read : asks .supplyRead [] { run0 with sbu := { run0.sbu with vbatF := 1230, vgenF := 1250 } }
    = some { code := .ok, fields := [4, 206, 4, 226, 0, 5, 0, 0, 0, 45, 0, 0, 0, 0, 0, 0, 0] } := by decide +kernel
/-- R48: the COMFORT claim is HELD by the host. -/
theorem test_hold_set : asks .holdSet [4, 5] fanned = some { code := .ok, fields := [4, 5, 1] } := by decide +kernel
/-- R25: the sample saturates. -/
theorem test_supply_sample : (ran (.supplySample 2100 0 (-900)) quiet0).sbu.samples
    = run0.sbu.samples ++ [{ vbat := 2000, vgen := 0, ibat := -800 }] := by decide +kernel
/-- R26's example: 25 current samples summing to −37 give −1. -/
theorem test_evaluation_mean : (ran .budgetEvaluation
    { run0 with sbu := { run0.sbu with
        samples := { vbat := 1179, vgen := 0, ibat := -13 } :: List.replicate 24 { vbat := 1179, vgen := 0, ibat := -1 } } }).sbu.ibatF
      = -1 := by decide +kernel
/-- R29: 11.79 V in NORMAL gives LOW. -/
theorem test_evaluation_band : (ran .budgetEvaluation
    { run0 with sbu := { run0.sbu with samples := [{ vbat := 1179, vgen := 0, ibat := 5 }] } }).sbu.band = .low := by
  decide +kernel
/-- R32: the settle part goes. -/
theorem test_settle_expiry : (claimAt (ran (.settlePartExpiry 0)
    (holding 0 { fan with settle := some { share := 20, left := 1 } } run0)) 0) = some fan := by decide +kernel
/-- R37: BUDGET_TIMER goes with its timer. -/
theorem test_hold_timer_expiry : (claimAt (ran (.holdTimerExpiry 0)
    (holding 0 { fan with state := .held (timed (some 1)) } run0)) 0) = some { fan with state := .held (timed none) } := by
  decide +kernel
/-- R46: the recovery ends. -/
theorem test_recovery_end : (ran .crankRecoveryEnd { run0 with sbu := { run0.sbu with crank := .recovery 1 } }).sbu.crank
    = .none := by decide +kernel
/-- R47: the host hold ends. -/
theorem test_host_hold_end : (ran .hostHoldEnd { run0 with sbu := { run0.sbu with
    hostHold := some { lighting := true, comfort := false, auxiliary := false, count := 1 } } }).sbu.hostHold = none := by
  decide +kernel
/-- R11: the claim is retired with CLAIM_EXPIRED. -/
theorem test_claim_expiry : let t := ran (.claimExpiry 0) (holding 0 { fan with expiry := some 1 } run0)
    (claimAt t 0).isNone = true ∧ hasFlag .claimExpired t = true := by decide +kernel

/-! ### Circuits and the Flasher -/

/-- R64: the pending view shows the entry in force, 40 dA, no entry pending. -/
theorem test_circuit_read : asks .circuitRead [0, 1] run0 = some { code := .ok, fields := [1, 0, 0, 0, 0, 1, 40, 0] } := by
  decide +kernel
/-- R65: a maximum level of 16 is clamped to 15. -/
theorem test_circuit_write : asks .circuitWrite [2, 16, 2, 6, 7] quiet0
    = some { code := .clamped, fields := [2, 6, 7, 0, 0, 15, 2] } := by decide +kernel
/-- R80: IDLE, rate set 80, ticker on. -/
theorem test_flasher_read : asks .flasherRead [] run0
    = some { code := .ok, fields := [0, 0, 0, 80, 0, 2, 0, 0, 0, 0, 0, 0, 0, 0, 0, 0, 0] } := by decide +kernel
/-- R81's example: 100 and ticker off in a LIT phase at 80. -/
theorem test_flasher_set : asks .flasherSet [100, 0] (phased lit0 run0) = some { code := .ok, fields := [100, 0, 80] } := by
  decide +kernel
/-- R72, R75: the entry still PENDING from the start is a FAIL, the late joiner is not, and the fast DARK phase is 188 ms. -/
theorem test_lit_expiry : (ran .litExpiry (phased lit0 run0)).fls.phase = .dark 80 188 := by decide +kernel
/-- R81's example: the next LIT phase is 300 ms at 100. -/
theorem test_dark_expiry : (ran .darkExpiry
    { run0 with fls := { run0.fls with rateSet := 100, phase := .dark 80 1 } }).fls.phase.remaining = 300 := by decide +kernel
/-- R75: 9 dA is below the threshold of 10 dA. -/
theorem test_bulb_fail : (ran (.bulbCheckReading 4) (chan 4 (lampOn 9) (phased lit0 run0))).fls.phase.check 4 = some .fail := by
  decide +kernel
/-- R75: 10 dA passes. -/
theorem test_bulb_pass : (ran (.bulbCheckReading 4) (chan 4 (lampOn 10) (phased lit0 run0))).fls.phase.check 4 = some .pass := by
  decide +kernel
/-- R79. -/
theorem test_tick_end : (ran .tickPulseEnd { run0 with fls := { run0.fls with tickPulse := some 1 } }).fls.tickPulse = none := by
  decide +kernel

/-! ### Channels -/

/-- R96: 240 dA on CH0 is a hard trip. -/
theorem test_hard_trip : ((ran (.currentSample 0 240) (chan 0 (lampOn 40) run0)).chd.get 0).lastTrip = some .hard := by
  decide +kernel
/-- R95: the fortieth sample above 70 dA is an ordinary trip. -/
theorem test_ordinary_trip : ((ran (.currentSample 0 71) (chan 0 (fun c => { lampOn 40 c with overRun := 39 }) run0)).chd.get 0).state
    = .tripped 500 := by decide +kernel
/-- R97, R98: the third trip locks. -/
theorem test_stall_trip : ((ran (.stallTrip 16) (chan 16 (fun c => { motorAt (.on 5) 800 c with tripCount := 2 }) run0)).chd.get 16).state
    = .locked false := by decide +kernel
/-- R88: the period end applies the target. -/
theorem test_period_end : ((ran (.channelPeriodEnd 0) (chan 0 (fun c => { lampOn 40 c with target := 500 }) run0)).chd.get 0).applied
    = 500 := by decide +kernel
/-- R89: 10 ‰ to a step. -/
theorem test_ramp_step : ((ran (.motorRampStep 16) (chan 16 (motorAt (.softstart none) 300) run0)).chd.get 16).ramp = 310 := by
  decide +kernel
/-- R92: the ramp that reaches the target enters ON. -/
theorem test_ramp_reaches : ((ran (.motorRampStep 16) (chan 16 (motorAt (.softstart none) 795) run0)).chd.get 16).state = .on 0 := by
  decide +kernel
/-- R91. -/
theorem test_inrush_end : ((ran (.inrushWindowEnd 0) (chan 0 (fun c => { lampOn 40 c with state := .softstart (some 60) }) run0)).chd.get 0).state
    = .on 0 := by decide +kernel
/-- R93. -/
theorem test_forgive : ((ran (.continuousOnForgive 0) (chan 0 (fun c => { lampOn 40 c with tripCount := 2 }) run0)).chd.get 0).tripCount
    = 0 := by decide +kernel
/-- R99: a back-off ends with demand 1000 in a start. -/
theorem test_back_off : ((ran (.backOffExpiry 0) (chan 0 (fun c => { c with state := .tripped 1, demand := 1000, tripCount := 1 }) run0)).chd.get 0).state
    = .softstart (some 0) := by decide +kernel
/-- R102. -/
theorem test_open_load : ((ran (.openLoadDetected 0) (chan 0 (lampOn 9) run0)).chd.get 0).openLoadFlag = true := by
  decide +kernel
/-- R102. -/
theorem test_open_load_clear : ((ran (.openLoadCleared 0) (chan 0 (fun c => { lampOn 10 c with openLoadFlag := true }) run0)).chd.get 0).openLoadFlag
    = false := by decide +kernel
/-- R106: ON at 1000 with 40 dA, and the clear option. -/
theorem test_channel_read : asks .channelRead [0, 1] (chan 0 (fun c => { lampOn 40 c with lifetime := 7 }) run0)
    = some { code := .ok, fields := [2, 3, 232, 3, 232, 3, 232, 0, 40, 0, 0, 0, 0, 0, 0, 0, 0, 0, 7] } := by decide +kernel
/-- R107's example: a LOCKED lamp with demand 1000 starts. -/
theorem test_channel_restore : asks .channelRestore [6] (chan 6 (fun c => { c with state := .locked false, demand := 1000, tripCount := 3 }) run0)
    = some { code := .ok, fields := [1] } := by decide +kernel
/-- R85, R108: the default profile of CH0. -/
theorem test_profile_read : asks .profileRead [0] run0
    = some { code := .ok, fields := [80, 1, 40, 70, 10, 60, 0, 0, 0, 0, 0, 0, 0] } := by decide +kernel
/-- R109: MOTOR on CH15 is refused. -/
theorem test_profile_motor : asks .profileWrite [15, 3, 40, 70, 10, 0, 1, 44, 50, 0, 0, 0, 0] quiet0
    = some { code := .badTable, fields := [] } := by decide +kernel
/-- R109: MOTOR on CH16, its duty of 1000 clamped to 900. -/
theorem test_profile_write : asks .profileWrite [16, 3, 40, 70, 10, 9, 3, 232, 50, 0, 0, 0, 0] quiet0
    = some { code := .clamped, fields := [3, 40, 70, 10, 0, 3, 132, 50, 0, 0, 0, 0] } := by decide +kernel

/-! ### Switches and bindings -/

/-- R114: the fourth scan of IGN high accepts it. -/
theorem test_scan_accepts : acceptedCode (ran (.switchScan 0x1FFFFFF) (candidate ign 1 3 quiet0)) ign = some 1 := by
  decide +kernel
/-- R114, R112: the first scan of SW0 low makes SG0's raw code 1 its candidate. -/
theorem test_scan_candidate : ((ran (.switchScan 0x0FFFFFE) quiet0).sws.recs.get 0)
    = { accepted := none, raw := some 1, candidate := some 1, run := 1 } := by decide +kernel
/-- R120, R123: B0 MATCHED raises a claim on CI0. -/
theorem test_pass_step : ((ran .passStep (passing 0 (accepted 0 1 run0))).bde.recs.get 0)
    = { link := .claim { slot := 0, gen := 0 }, result := some true, verdict := some true } := by decide +kernel
/-- R128, R134: SG0 as defined by default, UNKNOWN, all inputs high at no scan yet. -/
theorem test_group_read : asks .groupRead [0] run0
    = some { code := .ok, fields := [0, 1, 0, 4, 255, 255, 255, 0, 0, 0, 0, 0] } := by decide +kernel
/-- R129: four inputs from SW21 do not fit. -/
theorem test_group_write : asks .groupWrite [0, 21, 4, 0, 4] quiet0 = some { code := .badTable, fields := [] } := by
  decide +kernel
/-- R131: an UNUSED binding with no claim. -/
theorem test_bind_read : asks .bindRead [63] run0
    = some { code := .ok, fields := [0, 0, 0, 0, 0, 0, 0, 0, 0, 0, 0, 0, 0, 0, 255, 255, 0, 0] } := by decide +kernel
/-- R132: a GATE on IGN = 1; the fields it does not use are not held. -/
theorem test_bind_write : asks .bindWrite [63, 2, 16, 1, 0, 1, 9, 9, 9, 9, 9, 9, 9, 9, 9] run0
    = some { code := .ok, fields := [2, 16, 1, 0, 1, 0, 0, 0, 0, 0, 0, 0, 0, 0, 255, 255] } := by decide +kernel
/-- R127: a BIND.WRITE waits while a pass runs. -/
theorem test_bind_waits : (ran (.bindWrite [1]) (given .bindWrite [1] (passing 0 run0))).bde.waiting = some [1] := by
  decide +kernel

/-! ### Gauges -/

/-- R138: in RUN a sample of each. -/
theorem test_sender_sample : ((ran (.senderSample 1180 0 0) run0).gau.get 0).samples = [1180] := by decide +kernel
/-- R153's example: the reading 1180 under the moved middle point gives T 571, and F goes from 610 to 606. -/
theorem test_gauge_update : let g := (ran .gaugeUpdate (gauge (fun g => { g with
    settings := { points := [(330, 1000), (1050, 450), (2400, 0)], k := 32, vstab := 1000 }, samples := [1180]
    state := .active, target := 610, lastGood := 610, filtered := 610 })
      { run0 with gau := mapTbl (fun g => { g with samples := [2048] }) run0.gau })).gau.get 0
    g.target = 571 ∧ g.filtered = 606 := by decide +kernel
/-- R140's table: 2048 gives 2201, 3900 the cap. -/
theorem test_class : classOf 2048 = .inRange 2201 ∧ classOf 3900 = .inRange 9999 ∧ classOf 16 = .inRange 9
    ∧ classOf 10 = .short ∧ classOf 4090 = .openSender := by decide +kernel
/-- R146. -/
theorem test_fault_hold_end : ((ran (.faultHoldEnd 0) (gauge (fun g => { g with state := .faultHold .short 79 1, target := 610 }) run0)).gau.get 0).state
    = .faultRest .short 1 := by decide +kernel
/-- R144. -/
theorem test_heater_period : ((ran (.heaterPeriodEnd 0) (gauge (fun g => { g with duty := 610 }) run0)).gau.get 0).applied = 610 := by
  decide +kernel
/-- R136, R152: the default settings. -/
theorem test_gauge_read : (asks .gaugeRead [0, 1] run0).map (fun r => (r.fields.take 7, r.fields.drop 25))
    = some ([2, 0, 0, 0, 156, 63, 232], [0, 32, 3, 232]) := by decide +kernel
/-- R153: a k of 0 and a Vstab of 0 are clamped. -/
theorem test_gauge_set : (asks .gaugeSet [0, 2, 0, 0, 0, 156, 63, 232, 0, 0, 0, 0] run0).map (fun r => (r.code, r.fields.drop 25))
    = some (.clamped, [0, 1, 3, 32]) := by decide +kernel

/-! ### Link and status -/

/-- R156, R170: DEVICE.READ's frame goes to its owner. -/
theorem test_request_frame : (ran (.requestFrame [96, 0]) run0).lif.link = .working { req := .deviceRead, params := [] } := by
  decide +kernel
/-- R158: a second frame is dropped with OVERRUN. -/
theorem test_overrun : hasFlag .overrun (ran (.requestFrame [96, 0]) (given .statusRead [] run0)) = true := by decide +kernel
/-- R157: EMPTY and length 0. -/
theorem test_fetch_empty : (ran (.fetchFrame 4) run0).lif.dataOut = [0, 241, 0, 0] := by decide +kernel
/-- R161: RESET stands after a reset. -/
theorem test_status_read : asks .statusRead [] run0 = some { code := .ok, fields := [0, 0, 1] } := by decide +kernel
/-- R164's example. -/
theorem test_status_clear : asks .statusClear [0, 129, 1] { run0 with lif := { run0.lif with status := 0x501 } }
    = some { code := .ok, fields := [0, 1, 1, 0, 4, 0] } := by decide +kernel
theorem test_enable_read : asks .enableRead [0] run0 = some { code := .badRequest, fields := [] } := by decide +kernel
/-- R166: positions beyond the seventeen flags are ignored. -/
theorem test_enable_set : asks .enableSet [255, 0, 1] run0 = some { code := .ok, fields := [1, 0, 1] } := by decide +kernel
theorem test_enable_clear : asks .enableClear [0, 0, 1] { run0 with lif := { run0.lif with enable := 3 } }
    = some { code := .ok, fields := [0, 0, 2] } := by decide +kernel
/-- R162: RESET is pending once it is enabled, and ATTN is low. -/
theorem test_pending_read : asks .pendingRead [] { run0 with lif := { run0.lif with enable := 1 } }
    = some { code := .ok, fields := [0, 0, 1] } ∧ attnLow { run0 with lif := { run0.lif with enable := 1 } } = true := by
  decide +kernel

/-! ### Modes and the image store -/

/-- R189: RUN, power-on, DEFAULT, revision 1. -/
theorem test_device_read : asks .deviceRead [] run0 = some { code := .ok, fields := [1, 0, 1, 1] } := by decide +kernel
theorem test_quiesce : asks .quiesce [] run0 = some { code := .ok, fields := [2] } := by decide +kernel
/-- R183: with IGN accepted at 1 it is refused. -/
theorem test_quiesce_ignition : asks .quiesce [] (accepted ign 1 run0) = some { code := .ignitionOn, fields := [] } := by
  decide +kernel
theorem test_resume : asks .resume [] quiet0 = some { code := .ok, fields := [1, 0] } := by decide +kernel
/-- R185: the format number in the store is 0 while the save runs. -/
theorem test_store_save : (ran (.storeSave []) (given .storeSave [] run0)).store.take 3 = [0, 0, 255] := by decide +kernel
theorem test_store_load : asks .storeLoad [] quiet0 = some { code := .accepted, fields := [] } := by decide +kernel
/-- R185: the image opens with format number 1 and length 1391. -/
theorem test_save_complete : (ran .storeSaveComplete
    { run0 with mdc := { run0.mdc with op := .save [0, 1, 5, 111] } }).store.take 5 = [0, 1, 5, 111, 255] := by decide +kernel
theorem test_save_fail : hasFlag .storeFail (ran .storeSaveFail { run0 with mdc := { run0.mdc with op := .save [] } }) = true := by
  decide +kernel
/-- R185: a save cut off by a reset leaves the format number 0. -/
theorem test_reset_in_save : (ran (.reset .resetPin)
    { run0 with mdc := { run0.mdc with op := .save [0, 1, 5, 111] } }).store.take 2 = [0, 0] := by decide +kernel
theorem test_load_fails : hasFlag .storeFail (ran (.storeLoadComplete .noAck)
    { quiet0 with mdc := { quiet0.mdc with op := .load } }) = true := by decide +kernel
/-- R180: an erased store gives the built-in default with LOAD_DEFAULT, and RUN follows. -/
theorem test_loading : let t := ran (.loadingComplete .held) State.reset
    t.mdc.mode = .run ∧ hasFlag .loadDefault t = true := by decide +kernel
/-- R187. -/
theorem test_sleep : (ran .sleepEntry { accepted ign 0 run0 with mdc := { run0.mdc with sleepTimer := some 1 } }).mdc.mode
    = .sleep := by decide +kernel
theorem test_reset : (ran (.reset .brownOut) fanned).mdc
    = { mode := .loading, cause := .brownOut, source := .builtIn, op := .none, sleepTimer := none, heldInReset := true } := by
  decide +kernel
theorem test_leave_reset : (ran .leaveReset (ran (.reset .resetPin) run0)).mdc.heldInReset = false := by decide +kernel

/-! ### The host's questions -/

/-- The table gives no row any bits. -/
theorem test_no_words : decodeTableWord 16 0 = none ∧ (State.reset.withFetchWord 16 0).pending = [] := by decide +kernel

/-! ### Witnesses: each statement's hypotheses, met together -/

theorem ran_next {c : Instr} {s t : State} (h : exec c s = .next t) : exec c s = .next (ran c s) := by
  simp [ran, h]

/-- A request given to a part not held in reset stands in work. -/
theorem given_handed {r : Req} {p : List Byte} {s : State} (h : Awake s) : Handed r p (given r p s) := ⟨h, rfl⟩

/-- Without a claim, nothing is said of any. -/
theorem no_claim {s : State} {P : SlotIx → Claim → Prop} (h : ∀ i, claimAt s i = none) :
    ∀ i c, claimAt s i = some c → P i c := by
  intro i c e
  rw [h i] at e
  cases e

/-- Without a claim link, a binding holds none. -/
theorem no_link {s : State} {b : BindIx} (h : (s.bde.recs.get b).link = .none) : ∀ x : Handle, (s.bde.recs.get b).link ≠ .claim x := by
  intro x e
  rw [h] at e
  cases e

theorem run0_awake : Awake run0 := by decide
theorem quiet0_awake : Awake quiet0 := by decide
theorem run0_no_claim : ∀ i, claimAt run0 i = none := by decide +kernel

/-- The fan's claim raised on the link: a state that a run reaches. -/
def raised : State :=
  let t := ran (.claimRaise [9, 0, 2, 3, 1, 1, 60, 0, 0]) (given .claimRaise [9, 0, 2, 3, 1, 1, 60, 0, 0] run0)
  { t with lif := { t.lif with link := .idle } }

/-- A turn signal on CI4 flashing: a state that a run reaches. -/
def flashing : State :=
  let t := ran (.claimRaise [4, 1, 0, 0, 0, 0, 0, 0, 0]) (given .claimRaise [4, 1, 0, 0, 0, 0, 0, 0, 0] run0)
  { t with lif := { t.lif with link := .idle } }

/-- The part asleep, and held in reset. -/
def asleep : State := inMode .sleep run0
def held0 : State := { run0 with mdc := { run0.mdc with heldInReset := true } }

/-- An image operation in flight, in RUN and in QUIESCED. -/
def saving0 : State := { run0 with mdc := { run0.mdc with op := .save [] } }
def saves0 : State := { quiet0 with mdc := { quiet0.mdc with op := .save [] } }
def loads0 : State := { quiet0 with mdc := { quiet0.mdc with op := .load } }

/-- Any state has a step on an empty queue. -/
theorem step_idle {s : State} (h : s.pending = []) : step s = .next (tick s) := by simp [step, h]

/-! #### The step and the link -/

theorem witness_QuietStep : run0.pending = [] ∧ held0.pending = [] ∧ held0.mdc.heldInReset = true
    ∧ Awake { run0 with mdc := { run0.mdc with sleepTimer := some 1 } } ∧ run0.fls.phase = .idle
    ∧ (phased (.dark 80 1) run0).fls.phase = .dark 80 1 ∧ (phased lit0 run0).fls.phase = lit0 := by
  decide +kernel

theorem witness_ResetAndRelease : (Awake run0 ∧ run0.mdc.op = .none) ∧ (Awake saving0 ∧ saving0.mdc.op = .save [])
    ∧ held0.mdc.heldInReset = true ∧ Instr.gaugeUpdate ≠ .leaveReset :=
  ⟨⟨run0_awake, rfl⟩, ⟨run0_awake, rfl⟩, rfl, nofun⟩

theorem witness_StatusRequests : Handed .statusRead [] (given .statusRead [] run0)
    ∧ Handed .enableRead [] (given .enableRead [] run0) ∧ Handed .pendingRead [] (given .pendingRead [] run0)
    ∧ (∀ r ∈ [Req.statusRead, .enableRead, .pendingRead], ([0] : List Byte) ≠ [] ∧ Handed r [0] (given r [0] run0))
    ∧ (∀ r ∈ [Req.statusClear, .enableSet, .enableClear],
        Handed r [255, 255, 255] (given r [255, 255, 255] run0) ∧ ([0, 0] : List Byte).length ≠ 3
          ∧ Handed r [0, 0] (given r [0, 0] run0)) := by
  decide +kernel

theorem witness_BlockReads : (∀ r ∈ [Req.supplyRead, .flasherRead, .deviceRead], Handed r [] (given r [] run0)
      ∧ ([0] : List Byte) ≠ [] ∧ Handed r [0] (given r [0] run0))
    ∧ (let p (e : CheckEntry) : Phase := .lit 80 200 (tabulate fun ch => if ch = 19 then some e else none)
       ∀ e ∈ [CheckEntry.pending false 0, .pass, .fail, .pending true 0],
         Handed .flasherRead [] (given .flasherRead [] (phased (p e) run0)) ∧ (phased (p e) run0).fls.phase.check 19 = some e
           ∧ (phased (p e) run0).fls.phase.check 0 = none) := by
  decide +kernel

theorem witness_LinkFrames :
    ((0 : Byte) ≠ 255 ∧ Awake run0 ∧ run0.lif.link = .idle ∧ run0.mdc.mode ≠ .sleep
      ∧ (∀ r : Req, r.code ≠ 0) ∧ Req.code .deviceRead = 96 ∧ ([] : List Byte).length = (0 : Byte).toNat)
    ∧ (Awake State.reset ∧ State.reset.lif.link = .idle ∧ State.reset.mdc.mode = .loading)
    ∧ (30 < (31 : Byte).toNat ∧ (List.replicate 30 (0 : Byte)).length = (30 : Byte).toNat)
    ∧ (Awake (given .statusRead [] run0) ∧ (given .statusRead [] run0).lif.link ≠ .idle
      ∧ (given .statusRead [] run0).mdc.mode ≠ .sleep)
    ∧ Awake { run0 with lif := { run0.lif with link := .replyReady { code := .ok, fields := [] } } } :=
  ⟨⟨by decide, run0_awake, rfl, by decide, fun r => by cases r <;> decide, rfl, rfl⟩, by decide +kernel, by decide,
    by decide +kernel, by decide +kernel⟩

theorem witness_RequestWakes : Awake asleep ∧ asleep.mdc.mode = .sleep ∧ asleep.lif.link = .idle
    ∧ noClaims asleep.clt = true ∧ (96 : Byte) ≠ 255
    ∧ ([0] : List Byte) = byte ([] : List Byte).length :: [] ∧ (96 : Byte) = Req.code .deviceRead
    ∧ (let s := accepted start 1 asleep
       Awake s ∧ s.mdc.mode = .sleep ∧ s.lif.link = .idle ∧ noClaims s.clt = true ∧ acceptedCode s start = some 1
        ∧ s.sbu.crank ≠ .cranking)
    ∧ ∀ (r : Req) (params : List Byte), params.length ≤ 30 → (96 : Byte) :: [] ≠ frameOf r params :=
  ⟨by decide, by decide, by decide, by decide +kernel, by decide, by decide, by decide, by decide +kernel,
    fun r params _ h => by simp [frameOf] at h⟩

theorem witness_RowIsWholeTransaction :
    (Awake run0 ∧ (List.replicate 30 (0 : Byte)).length ≤ 30 ∧ run0.lif.link = .idle ∧ run0.mdc.mode ≠ .loading)
    ∧ (Awake State.reset ∧ State.reset.lif.link = .idle ∧ State.reset.mdc.mode = .loading)
    ∧ (given .statusRead [] run0).lif.link ≠ .idle
    ∧ (given .statusRead [] run0).lif.link ≠ .working { req := .deviceRead, params := [] } := by
  decide +kernel

theorem witness_RepliesHoldTheirForm :
    (∃ (s t : State) (reply : Reply), Handed .statusRead [0] s ∧ exec (Req.statusRead.command [0]) s = .next t
      ∧ t.lif.link = .replyReady reply ∧ 128 ≤ reply.code.code.toNat)
    ∧ (∃ (s t : State) (reply : Reply), Handed .statusRead [] s ∧ exec (Req.statusRead.command []) s = .next t
      ∧ t.lif.link = .replyReady reply ∧ reply.code.code.toNat < 128)
    ∧ (∀ q ∈ [(Req.claimRaise, 8), (.claimAlter, 9), (.holdSet, 1), (.quiesce, 1), (.gaugeSet, 1), (.storeSave, 1),
          (.claimScan, 3), (.bindWrite, 14), (.channelRestore, 0)],
        Handed q.1 (List.replicate q.2 0) (given q.1 (List.replicate q.2 0) run0))
    ∧ (run0.mdc.mode = .run ∧ run0.mdc.op = .none ∧ run0.bde.pass = none)
    ∧ (∀ q ∈ [(Req.profileWrite, 12), (.groupWrite, 6), (.storeLoad, 1), (.resume, 1)],
        Handed q.1 (List.replicate q.2 0) (given q.1 (List.replicate q.2 0) quiet0))
    ∧ (quiet0.mdc.mode = .quiesced ∧ quiet0.mdc.op = .none)
    ∧ (Handed .circuitWrite [0, 1, 4, 0] (given .circuitWrite [0, 1, 4, 0] quiet0)
      ∧ ¬∃ (c m n : Byte) (channels : List Byte), ([0, 1, 4, 0] : List Byte) = c :: m :: n :: channels
          ∧ (4 < n.toNat ∨ channels.length = n.toNat))
    ∧ (Handed .gaugeSet [0, 8, 1, 0] (given .gaugeSet [0, 8, 1, 0] run0)
      ∧ ¬∃ (g n : Byte) (rest : List Byte), ([0, 8, 1, 0] : List Byte) = g :: n :: rest
          ∧ (n.toNat < 2 ∨ 8 < n.toNat ∨ rest.length = 3 * n.toNat + 4)) :=
  ⟨⟨given .statusRead [0] run0, ran (.statusRead [0]) (given .statusRead [0] run0), { code := .badRequest, fields := [] },
      given_handed run0_awake, ran_next (t := _) rfl, by decide +kernel, by decide⟩,
    ⟨given .statusRead [] run0, ran (.statusRead []) (given .statusRead [] run0), { code := .ok, fields := [0, 0, 1] },
      given_handed run0_awake, ran_next (t := _) rfl, by decide +kernel, by decide⟩,
    by decide +kernel, by decide +kernel, by decide +kernel, by decide +kernel,
    ⟨by decide +kernel, by rintro ⟨c, m, n, x, h, k⟩; injections; subst_vars; revert k; decide⟩,
    ⟨by decide +kernel, by rintro ⟨g, n, x, h, k⟩; injections; subst_vars; revert k; decide⟩⟩

/-! #### Claims -/

theorem witness_SharesAndHeadroom : 0 < 3 ∧ 3 ≤ 3 ∧ fan.mode = .steady ∧ turn.mode = .flash ∧ fan.shareFull ≤ 250
    ∧ 0 < (run0.crs.inForce.get fan.circuit).maxLevel := by
  decide +kernel

/-- Handles 512, a free slot, another generation, a binding's claim, and the host's own. -/
theorem witness_ClaimRequestChecks :
    (Handed .claimRetire [2, 0] (given .claimRetire [2, 0] fanned) ∧ 511 < (2 : Byte).toNat * 256 + (0 : Byte).toNat)
    ∧ (Handed .claimLookup [1, 255] (given .claimLookup [1, 255] fanned)
        ∧ ((1 : Byte).toNat * 256 + (255 : Byte).toNat) / 16 = (31 : SlotIx).val ∧ claimAt fanned 31 = none)
    ∧ (claimAt fanned 0 = some fan ∧ ((0 : Byte).toNat * 256 + (1 : Byte).toNat) % 16 ≠ (fanned.clt.slots.get 0).gen.val)
    ∧ (((0 : Byte).toNat * 256 + (0 : Byte).toNat) % 16 = (fanned.clt.slots.get 0).gen.val ∧ fan.origin = .link)
    ∧ ({ fan with origin := .binding 0 } : Claim).origin ≠ .link
    ∧ (Handed .claimAlter [0, 0, 8, 0, 0, 0, 0, 1] (given .claimAlter [0, 0, 8, 0, 0, 0, 0, 1] fanned)
        ∧ fanned.mdc.mode = .run ∧ (1 : Byte).toNat ≤ 1)
    ∧ (Handed .claimAlter [2, 0, 8, 0, 0, 0, 0, 2] (given .claimAlter [2, 0, 8, 0, 0, 0, 0, 2] fanned)
        ∧ (8 : Byte).getLsbD 3 = true ∧ 1 < (2 : Byte).toNat)
    ∧ (Handed .claimAlter [] (given .claimAlter [] quiet0) ∧ quiet0.mdc.mode ≠ .run)
    ∧ (Handed .claimRaise [] (given .claimRaise [] quiet0) ∧ quiet0.mdc.mode ≠ .run ∧ ([] : List Byte).length ≠ 9)
    ∧ (Handed .claimRaise [9, 2, 0, 0, 0, 0, 0, 0, 0] (given .claimRaise [9, 2, 0, 0, 0, 0, 0, 0, 0] run0)
        ∧ 1 < (2 : Byte).toNat ∧ 3 < (4 : Byte).toNat ∧ 15 < (16 : Byte).toNat)
    ∧ (OneLinkClaim fanned ∧ (run0.crs.inForce.get 9).channels ≠ []) := by
  decide +kernel

/-- A claim in every slot, none of them the link's on CI0. -/
def crowded : State := (List.finRange 32).foldl (fun s i => holding i { fan with origin := .binding (i.castLE (by decide)) } s) run0

theorem witness_TableFull : (∀ i, (claimAt crowded i).isSome = true)
    ∧ (∀ i cl, claimAt crowded i = some cl → ¬(cl.circuit = 9 ∧ cl.origin = .link))
    ∧ (crowded.crs.inForce.get 9).channels ≠ [] :=
  ⟨by decide +kernel, fun i cl h e => by
    have all : ∀ i, ((claimAt crowded i).any fun c => decide (c.origin = .link)) = false := by decide +kernel
    have := all i
    rw [h] at this
    simp [e.2] at this, by decide +kernel⟩

theorem witness_RaiseFillsRecord :
    let p := [byte (9 : Circ).val, ClaimMode.steady.code, ClaimClass.comfort.code, 0, 0, 0, 0, 0, 0]
    let s := given .claimRaise p run0
    Handed .claimRaise p s ∧ s.mdc.mode = .run ∧ (s.crs.inForce.get 9).channels ≠ [] ∧ 1 ≤ maxLevelOf s 9
      ∧ CollectionsExact s ∧ (∀ j x, claimAt s j = some x → ¬(x.circuit = 9 ∧ x.origin = .link)) ∧ claimAt s 0 = none
      ∧ ∀ j : SlotIx, j < 0 → (claimAt s j).isSome = true :=
  ⟨given_handed run0_awake, rfl, by decide +kernel, by decide +kernel, by decide +kernel,
    no_claim (s := run0) (P := fun _ x => ¬(x.circuit = 9 ∧ x.origin = .link)) run0_no_claim, by decide +kernel, by decide +kernel⟩

/-- Each class of admission, at the share that just fits and the one that does not. -/
theorem witness_AdmissionRules :
    (((claimShare fanned fan 2 : Nat) : Int) ≤ headroom fanned ∧ headroom fanned < (claimShare fanned fan 3 : Nat))
    ∧ (fan.cls ≠ .safety ∧ fan.mode = .steady) ∧ (turn.cls ≠ .safety ∧ turn.mode = .flash)
    ∧ (∀ l ∈ [1, 2, 3], headroom (current (-21) run0) < (steadyShare 60 3 l : Nat))
    ∧ ({ fan with cls := .safety } : Claim).cls = .safety
    ∧ ({ run0 with sbu := { run0.sbu with crank := .cranking } } : State).sbu.crank ≠ .none := by
  decide +kernel

theorem witness_AlterLevels :
    let p : List Byte := [0, 0, 7, 255, 0, 255, 255, 0]
    let s := given .claimAlter p fanned
    Handed .claimAlter p s ∧ s.mdc.mode = .run ∧ claimAt s 0 = some fan ∧ fan.origin = .link ∧ fan.mode = .steady
      ∧ fan.state = .granted 2 ∧ ((7 : Byte).getLsbD 3 = true → (0 : Byte) = 0) ∧ CollectionsExact s ∧ LevelsInOrder s
      ∧ (0 : Byte).toNat * 256 + (0 : Byte).toNat = (0 : SlotIx).val * 16 + (s.clt.slots.get 0).gen.val := by
  decide +kernel

theorem witness_AlterModeOrHeld :
    (let p : List Byte := [0, 0, 8, 0, 0, 0, 0, 1]
     let s := given .claimAlter p fanned
     Handed .claimAlter p s ∧ s.mdc.mode = .run ∧ claimAt s 0 = some fan ∧ fan.origin = .link
      ∧ ((8 : Byte).getLsbD 3 = true → (1 : Byte) = ClaimMode.flash.code) ∧ ((8 : Byte).getLsbD 3 = false → ClaimMode.flash = fan.mode)
      ∧ (fan.isHeld = true ∨ ClaimMode.flash ≠ fan.mode ∨ ClaimMode.flash = .flash) ∧ CollectionsExact s ∧ LevelsInOrder s)
    ∧ (let x : Claim := { fan with state := .held (timed (some 8)) }
       let s := holding 0 x run0
       claimAt s 0 = some x ∧ x.isHeld = true ∧ CollectionsExact s ∧ LevelsInOrder s) := by
  decide +kernel

theorem witness_RetireFreesSlot :
    let s := given .claimRetire [0, 0] fanned
    Handed .claimRetire [0, 0] s ∧ claimAt s 0 = some fan ∧ fan.origin = .link
      ∧ (0 : Byte).toNat * 256 + (0 : Byte).toNat = (0 : SlotIx).val * 16 + (s.clt.slots.get 0).gen.val
      ∧ (s.mdc.mode = .run → s.bde.passRequested = true → s.bde.pass.isSome = true) := by
  decide +kernel

theorem witness_ClaimReads :
    (Handed .claimLookup [0, 0] (given .claimLookup [0, 0] fanned) ∧ claimAt fanned 0 = some fan
      ∧ (0 : Byte).toNat * 256 + (0 : Byte).toNat = (0 : SlotIx).val * 16 + (fanned.clt.slots.get 0).gen.val)
    ∧ (Handed .claimScan [255, 31] (given .claimScan [255, 31] fanned) ∧ (31 : Byte).toNat ≤ 31 ∧ (15 : Byte).toNat ≤ 15)
    ∧ (15 < (16 : Byte).toNat ∧ (16 : Byte) ≠ 255 ∧ 31 < (32 : Byte).toNat)
    ∧ (([0] : List Byte).length ≠ 2 ∧ Handed .claimScan [0] (given .claimScan [0] fanned)) := by
  decide +kernel

theorem witness_CollectionsKept : CollectionsExact raised ∧ SafetyGranted raised ∧ step raised = .next (tick raised) :=
  ⟨by decide +kernel, by decide +kernel, step_idle (by decide +kernel)⟩

theorem witness_ClaimsSoundKept : ClaimsSound raised ∧ step raised = .next (tick raised) :=
  ⟨by decide +kernel, step_idle (by decide +kernel)⟩

/-- A binding owns the fan's claim. -/
def owned : State :=
  let s := holding 0 { fan with origin := .binding 0 } run0
  { s with bde := { s.bde with recs := upd s.bde.recs 0 fun r => { r with link := .claim { slot := 0, gen := 0 } } } }

/-- A binding's links, as facts of each binding and each slot alone. -/
theorem links_agree {s : State}
    (h : ∀ b : BindIx, (match (s.bde.recs.get b).link with
      | .claim h => decide ((s.clt.slots.get h.slot).gen = h.gen ∧ (claimAt s h.slot).map (·.origin) = some (.binding b))
      | .none | .wanting => true) = true)
    (k : ∀ i : SlotIx, (match (claimAt s i).map (·.origin) with
      | some (.binding b) => decide ((s.bde.recs.get b).link = .claim (handleAt s i))
      | some .link | none => true) = true) : LinksAgree s := by
  constructor
  · intro b x e
    have := h b
    rw [e] at this
    simpa using this
  · intro i b e
    have := k i
    rw [e] at this
    simpa using this

theorem run0_links : LinksAgree run0 := links_agree (by decide +kernel) (by decide +kernel)
theorem owned_links : LinksAgree owned := links_agree (by decide +kernel) (by decide +kernel)

theorem witness_OwnersSoundKept : OwnersSound owned ∧ step owned = .next (tick owned) :=
  ⟨⟨owned_links, by decide +kernel, by decide +kernel⟩, step_idle (by decide +kernel)⟩

/-! #### The budget -/

theorem witness_SamplesAndMeasures : (Awake run0 ∧ run0.mdc.mode = .run) ∧ (Awake quiet0 ∧ quiet0.mdc.mode = .quiesced)
    ∧ (Awake State.reset ∧ State.reset.mdc.mode = .loading) ∧ (Awake asleep ∧ asleep.mdc.mode = .sleep)
    ∧ run0.sbu.samples = { vbat := 1230, vgen := 1250, ibat := 5 } :: [] := by
  decide +kernel

theorem witness_EvaluationCounts :
    let s := holding 0 { fan with expiry := some 1 } quiet0
    Awake s ∧ s.mdc.mode = .quiesced ∧ claimAt s 0 = some { fan with expiry := some 1 } ∧ claimAt s 1 = none
      ∧ ({ run0 with sbu := { run0.sbu with crank := .cranking } } : State).sbu.crank = .cranking := by
  decide +kernel

theorem witness_OneActionNeverSafety : ∃ s t : State, Awake s ∧ SafetyGranted s ∧ exec .budgetEvaluation s = .next t :=
  ⟨raised, _, by decide +kernel, by decide +kernel, rfl⟩

/-- The fan above its floor and at it, with the headroom at −1 dA. -/
theorem witness_ShedRule :
    (Awake run0 ∧ run0.mdc.mode = .run)
    ∧ (let s := current (-41) fanned
       s.mdc.mode = .run ∧ s.sbu.crank ≠ .cranking ∧ headroom s = -1 ∧ s.sbu.deficitRun = 0
        ∧ s.clt.grantList = [] ++ 0 :: [] ∧ claimAt s 0 = some fan ∧ fan.state = .granted 2 ∧ fan.cls ≠ .safety ∧ fan.floor < 2)
    ∧ (let s := { current (-41) fanned with sbu := { (current (-41) fanned).sbu with deficitRun := 1 } }
       0 < s.sbu.deficitRun ∧ headroom s = -1)
    ∧ (let c : Claim := { fan with state := .granted 1 }
       claimAt (holding 0 c run0) 0 = some c ∧ 1 ≤ c.floor ∧ CollectionsExact (holding 0 c run0))
    ∧ ∀ j ∈ (current (-41) run0).clt.grantList, claimAt (current (-41) run0) j = none := by
  decide +kernel

/-- The headroom at 0, one short of the need, and at the need; the claim HELD without a reason, and DEGRADED. -/
theorem witness_RestoreRule :
    (headroom (current (-40) run0) = 0 ∧ run0.sbu.crank ≠ .cranking ∧ run0.clt.heldQueue = [] ∧ run0.clt.grantList = [])
    ∧ (let x : Claim := { fan with state := .held (timed none) }
       let s := holding 0 x (current (-10) run0)
       headroom s = 30 ∧ s.clt.heldQueue = [] ++ 0 :: [] ∧ claimAt s 0 = some x
        ∧ (claimShare s x x.floor : Int) + 10 ≤ headroom s ∧ ¬(claimShare s x (x.floor + 1) : Int) + 10 ≤ headroom s
        ∧ ¬(claimShare s x x.floor : Int) + 10 ≤ headroom (current (-11) s)
        ∧ ({ s with sbu := { s.sbu with surplusRun := 1 } } : State).sbu.surplusRun = 1)
    ∧ (let s := holding 0 fan (current (-10) run0)
       s.clt.heldQueue = [] ∧ s.clt.grantList = [] ++ 0 :: [] ∧ claimAt s 0 = some fan ∧ fan.state = .granted 2
        ∧ 2 < fan.requested ∧ fan.cls ≠ .safety
        ∧ ((claimShare s fan 3 : Int) - claimShare s fan 2) + 10 = headroom s) := by
  decide +kernel

theorem witness_CountEnds :
    (Awake run0 ∧ run0.mdc.mode = .run ∧ claimAt run0 0 = none ∧ run0.sbu.crank ≠ .recovery 1
      ∧ run0.sbu.hostHold = none)
    ∧ (let c : Claim := { fan with settle := some { share := 250, left := 1 }, expiry := some 1 }
       claimAt (holding 0 c run0) 0 = some c ∧ c.settle = some { share := 250, left := 1 } ∧ c.expiry = some 1)
    ∧ (let c : Claim := { fan with state := .held (timed (some 1)), expiry := some 2 }
       claimAt (holding 0 c run0) 0 = some c ∧ c.state = .held { budgetTimer := some 1, crank := false, host := false }
        ∧ c.settle = none ∧ c.expiry ≠ some 1)
    ∧ (claimAt fanned 0 = some fan ∧ fan.state = .granted 2) := by
  decide +kernel

theorem witness_HoldSetRule :
    (let p : List Byte := [15, 241]
     let s := given .holdSet p fanned
     Handed .holdSet p s ∧ (15 : Byte).toNat ≤ 15 ∧ s.mdc.mode = .run ∧ CollectionsExact s ∧ (241 : Byte) ≠ 0)
    ∧ (Handed .holdSet [15, 0] (given .holdSet [15, 0] run0) ∧ Handed .holdSet [1, 1] (given .holdSet [1, 1] run0))
    ∧ (Handed .holdSet [4, 1] (given .holdSet [4, 1] quiet0) ∧ quiet0.mdc.mode ≠ .run) := by
  decide +kernel

/-- A run of three scans of START high, after which the fourth accepts it and no other group. -/
def startRun : State :=
  let s := candidate start 1 3 fanned
  { s with sws := { s.sws with recs := tabulate fun g =>
      if g = start then s.sws.recs.get g else { accepted := some 0, raw := some 0, candidate := none, run := 0 } } }

theorem witness_CrankRule :
    (let recs := scanRecs startRun 0x2FFFFFF
     Awake startRun ∧ CollectionsExact startRun ∧ (∀ g : GroupIx, (recs.get g).2 = decide (g = start))
      ∧ startRun.mdc.mode = .run ∧ (recs.get start).1.accepted = some 1 ∧ startRun.sbu.crank ≠ .cranking)
    ∧ (let s := candidate start 0 3 { startRun with sbu := { startRun.sbu with crank := .cranking } }
       let recs := scanRecs s 0x0FFFFFF
       Awake s ∧ (∀ g : GroupIx, (recs.get g).2 = decide (g = start)) ∧ (recs.get start).1.accepted ≠ some 1)
    ∧ (let s := inMode .quiesced (accepted start 1 fanned)
       CollectionsExact s ∧ acceptedCode s start = some 1 ∧ s.sbu.crank ≠ .cranking ∧ claimAt s 0 = some fan)
    ∧ (CollectionsExact fanned ∧ acceptedCode fanned start ≠ some 1) :=
  ⟨by decide +kernel, by decide +kernel, by decide +kernel, by decide +kernel⟩

/-! #### Circuits and the Flasher -/

theorem witness_ResolutionRule :
    (∃ x, (∃ i, claimAt flashing i = some x ∧ x.circuit = 4 ∧ x.isHeld = false) ∧ x.mode = .flash)
    ∧ (∀ x, (∃ i, claimAt fanned i = some x ∧ x.circuit = 9 ∧ x.isHeld = false) → x.mode = .steady)
    ∧ (∃ i, claimAt fanned i = some fan ∧ fan.circuit = 9 ∧ fan.isHeld = false)
    ∧ (∀ x, ¬∃ i, claimAt run0 i = some x ∧ x.circuit = 9 ∧ x.isHeld = false)
    ∧ (run0.mdc.mode = .run ∧ DemandsFollow run0 ∧ FlasherFollows run0
        ∧ (run0.crs.flashPresent = run0.crs.resolved.toList.any fun r => r = .flashing)
        ∧ (∀ ch, run0.crs.flashSet.get ch = flashes run0 ch) ∧ (run0.chd.get 0).profile.kind ≠ .telltale
        ∧ ∀ c : Circ, (tabulate (n := 16) fun c => decide (c = 9)).get c = true → (0 : Chan) ∉ (run0.crs.inForce.get c).channels) := by
  refine ⟨?_, ?_, ⟨0, by decide +kernel⟩, ?_, by decide +kernel⟩
  · have h : (claimAt flashing 0).any (fun x => decide (x.circuit = 4) && !x.isHeld && decide (x.mode = .flash)) = true := by
      decide +kernel
    revert h
    cases e : claimAt flashing 0 with
    | none => simp
    | some x =>
      intro h
      simp only [Option.any_some, Bool.and_eq_true, decide_eq_true_eq, Bool.not_eq_true'] at h
      exact ⟨x, ⟨0, e, h.1.1, h.1.2⟩, h.2⟩
  · rintro x ⟨i, e, -, -⟩
    have h : ∀ i, (claimAt fanned i).all (fun x => decide (x.mode = .steady)) = true := by decide +kernel
    have := h i
    rw [e] at this
    simpa using this
  · rintro x ⟨i, e, -, -⟩
    rw [run0_no_claim i] at e
    cases e

theorem witness_DemandRule : quiet0.mdc.mode ≠ .run
    ∧ (let s := chan 0 (fun c => { c with profile := { c.profile with kind := .unused } }) run0
       (s.chd.get 0).profile.kind = .unused)
    ∧ (run0.mdc.mode = .run ∧ (run0.chd.get 0).profile.kind = .filament)
    ∧ ((4 : Chan) ∈ (flashing.crs.inForce.get 4).channels ∧ flashing.crs.resolved.get 4 = .flashing)
    ∧ (let s := chan 0 (fun c => { c with profile := { c.profile with kind := .telltale, source := some (.gaugeHigh 0 1) } }) run0
       (s.chd.get 0).profile.kind = .telltale ∧ (s.chd.get 0).profile.source = some (.gaugeHigh 0 1)) := by
  decide +kernel

theorem witness_CircuitRequests :
    (Handed .circuitRead [15, 1] (given .circuitRead [15, 1] run0) ∧ (15 : Byte).toNat = (15 : Circ).val ∧ (1 : Byte).toNat ≤ 1)
    ∧ (1 < (2 : Byte).toNat ∧ 15 < (16 : Byte).toNat)
    ∧ (Handed .circuitWrite [0, 0, 5] (given .circuitWrite [0, 0, 5] run0) ∧ run0.mdc.mode ≠ .quiesced)
    ∧ (saves0.mdc.mode = .quiesced ∧ saves0.mdc.op ≠ .none ∧ quiet0.mdc.op = .none ∧ 4 < (5 : Byte).toNat
        ∧ ([0, 1, 2, 3, 20] : List Byte).length = (5 : Byte).toNat ∧ ∃ b ∈ ([0, 1, 2, 3, 20] : List Byte), 19 < b.toNat)
    ∧ (Handed .circuitWrite [15, 255, 2, 19, 19] (given .circuitWrite [15, 255, 2, 19, 19] quiet0)
        ∧ ([19, 19] : List Byte) = [(19 : Chan), 19].map (fun ch => byte ch.val) ∧ ¬[(19 : Chan), 19].Nodup)
    ∧ (([19, 0] : List Byte) = [(19 : Chan), 0].map (fun ch => byte ch.val) ∧ [(19 : Chan), 0].Nodup
        ∧ ([19, 0] : List Byte).length = (2 : Byte).toNat ∧ ([20] : List Byte).length ≠ (2 : Byte).toNat
        ∧ ∃ b ∈ ([20] : List Byte), 19 < b.toNat) := by
  decide +kernel

/-- A state whose Flasher is IDLE is neither LIT nor DARK. -/
theorem idle_phase {s : State} (e : s.fls.phase = .idle) :
    (∀ rate n checks, s.fls.phase ≠ .lit rate n checks) ∧ ∀ rate n, s.fls.phase ≠ .dark rate n := by
  constructor
  · intro rate n checks h
    rw [e] at h
    cases h
  · intro rate n h
    rw [e] at h
    cases h

theorem witness_PhaseExpiries : Awake run0 ∧ (phased lit0 run0).fls.phase = lit0
    ∧ (phased (.dark 80 375) run0).fls.phase = .dark 80 375
    ∧ ((∀ rate n checks, run0.fls.phase ≠ .lit rate n checks) ∧ ∀ rate n, run0.fls.phase ≠ .dark rate n)
    ∧ (let s : State := { run0 with crs := { run0.crs with flashPresent := true } }
       s.crs.flashPresent = true ∧ s.mdc.mode = .run ∧ s.fls.phase = .idle ∧ (phased lit0 s).fls.phase ≠ .idle)
    ∧ ¬(run0.crs.flashPresent = true ∧ run0.mdc.mode = .run) :=
  ⟨run0_awake, by decide +kernel, by decide +kernel, idle_phase (by decide +kernel), by decide +kernel, by decide +kernel⟩

theorem no_check {s : State} {ch : Chan} (e : s.fls.phase.check ch = none) :
    ∀ joined time, s.fls.phase.check ch ≠ some (.pending joined time) := by
  intro joined time h
  rw [e] at h
  cases h

theorem off_not_on {c : Channel} (e : c.state = .off) : ∀ n, c.state ≠ .on n := by
  intro n h
  rw [e] at h
  cases h

theorem witness_BulbCheckRule :
    (let s := chan 4 (lampOn 10) (phased lit0 run0)
     Awake s ∧ s.fls.phase.check 4 = some (.pending false 0) ∧ (s.chd.get 4).state = .on 0)
    ∧ (∀ joined time, (phased lit0 run0).fls.phase.check 0 ≠ some (.pending joined time))
    ∧ (∀ n, ((phased lit0 run0).chd.get 4).state ≠ .on n) ∧ (phased lit0 run0).fls.phase = lit0 :=
  ⟨by decide +kernel, no_check (by decide +kernel), off_not_on (by decide +kernel), by decide +kernel⟩

theorem witness_OutputsKept : FlasherFollows flashing ∧ (ResolutionFollows flashing ∧ LoadsQuiesced flashing)
    ∧ DemandsFollow flashing ∧ step flashing = .next (tick flashing) :=
  ⟨by decide +kernel, ⟨by decide +kernel, by decide +kernel⟩, by decide +kernel, step_idle (by decide +kernel)⟩

/-- The raise of the one FLASH claim starts the Flasher, and its retirement stops it. -/
theorem witness_OutputsKept_flasher :
    (let r : List Byte := [4, 1, 1, 0, 0, 0, 0, 0, 0]
     let s := given .claimRaise r run0
     SleepQuiet s ∧ LoadsQuiesced s ∧ s.fls.phase = .idle ∧ s.pending = []
      ∧ (ran (.claimRaise r) s).fls.phase ≠ .idle)
    ∧ (let s := given .claimRetire [0, 0] flashing
       SleepQuiet s ∧ LoadsQuiesced s ∧ s.fls.phase ≠ .idle ∧ s.pending = []
        ∧ (ran (.claimRetire [0, 0]) s).fls.phase = .idle) := by
  decide +kernel

/-! #### Channels -/

/-- A sample at and below three times the rating, the fortieth of a run and before it, and a motor that stalls. -/
theorem witness_TripRule :
    (let c := (chan 0 (lampOn 40) run0).chd.get 0
     Awake (chan 0 (lampOn 40) run0) ∧ c.state.driven = true ∧ 0 < c.applied ∧ 3 * 80 ≤ min 500 240 ∧ min 500 239 < 3 * 80
      ∧ c.overRun + 1 < 40 ∧ c.profile.trip < 71)
    ∧ (let c := (chan 0 (fun c => { lampOn 40 c with overRun := 39 }) run0).chd.get 0
       40 ≤ c.overRun + 1 ∧ c.profile.trip < 71)
    ∧ (run0.chd.get 0).state.driven = false
    ∧ (let c := (chan 16 (motorAt (.on 0) 800) run0).chd.get 16
       c.profile.kind = .motor ∧ c.state.isOn = true ∧ 0 < c.profile.stall ∧ c.profile.stall ≤ c.measured) := by
  decide +kernel

theorem witness_DemandActs :
    ((run0.chd.get 0).profile.kind = .filament ∧ (run0.chd.get 0).state = .off)
    ∧ ((chan 16 (motorAt (.softstart none) 300) run0).chd.get 16).profile.kind = .motor
    ∧ ((chan 0 (lampOn 40) run0).chd.get 0).state.driven = true
    ∧ ((chan 0 (fun c => { c with state := .tripped 1 }) run0).chd.get 0).state = .tripped 1
    ∧ (((chan 0 (fun c => { c with state := .locked true }) run0).chd.get 0).state = .locked true
      ∧ ((chan 0 (fun c => { c with state := .locked true }) run0).chd.get 0).profile.kind ≠ .unused)
    ∧ ((chan 0 (fun c => { c with profile := { c.profile with kind := .led } }) run0).chd.get 0).profile.kind = .led := by
  decide +kernel

theorem witness_ChannelTimes :
    (Awake run0 ∧ (run0.chd.get 0).state.driven = false ∧ (run0.chd.get 0).state = .off)
    ∧ (let c := (chan 0 (lampOn 40) run0).chd.get 0
       c.state.driven = true ∧ c.profile.kind ≠ .motor ∧ c.state = .on 0)
    ∧ (let c := (chan 16 (motorAt (.softstart none) 795) run0).chd.get 16
       c.state.driven = true ∧ c.profile.kind = .motor ∧ c.ramp < c.target ∧ c.state.isOn = false ∧ c.target ≤ c.ramp + 10)
    ∧ (let c := (chan 16 (motorAt (.softstart none) 800) run0).chd.get 16
       c.target ≤ c.ramp)
    ∧ (let c := (chan 0 (fun c => { lampOn 40 c with state := .softstart (some 60) }) run0).chd.get 0
       c.state = .softstart (some 60) ∧ c.profile.kind = .filament)
    ∧ ((chan 0 (fun c => { c with state := .tripped 1 }) run0).chd.get 0).state = .tripped 1 ∧ (1 : Chan) ≠ 0 := by
  decide +kernel

theorem witness_OpenLoadRule :
    (let s := chan 0 (lampOn 9) run0
     let c := s.chd.get 0
     Awake s ∧ s.mdc.mode = .run ∧ c.state.isOn = true ∧ c.demand = 1000 ∧ s.crs.flashSet.get 0 = false
      ∧ c.measured < c.profile.openLoad)
    ∧ (let s := chan 0 (lampOn 10) run0
       let c := s.chd.get 0
       Awake s ∧ s.mdc.mode = .run ∧ c.state.isOn = true ∧ c.demand = 1000 ∧ s.crs.flashSet.get 0 = false
        ∧ c.profile.openLoad ≤ c.measured)
    ∧ (run0.chd.get 0).state.isOn = false := by
  decide +kernel

theorem witness_ChannelRequests :
    (Handed .channelRead [19, 1] (given .channelRead [19, 1] run0) ∧ (1 : Byte).toNat ≤ 1 ∧ (19 : Byte).toNat = (19 : Chan).val
      ∧ 19 < (20 : Byte).toNat ∧ 1 < (2 : Byte).toNat)
    ∧ Handed .channelRestore [19] (given .channelRestore [19] run0) ∧ Handed .profileRead [19] (given .profileRead [19] run0) := by
  decide +kernel

/-- Each kind at the edges of its bounds. -/
theorem witness_ProfileWriteRule :
    (let p : List Byte := [19, 3, 160, 160, 160, 0, 3, 133, 160, 0, 0, 0, 0]
     Handed .profileWrite p (given .profileWrite p quiet0) ∧ quiet0.mdc.mode = .quiesced ∧ quiet0.mdc.op = .none
      ∧ (19 : Byte).toNat = (19 : Chan).val ∧ 16 ≤ (19 : Chan).val ∧ (160 : Byte).toNat ≤ 160 ∧ 10 ≤ (160 : Byte).toNat)
    ∧ (let p : List Byte := [0, 1, 80, 10, 10, 251, 0, 0, 0, 0, 0, 0, 0]
       Handed .profileWrite p (given .profileWrite p quiet0) ∧ (80 : Byte).toNat ≤ 80 ∧ (10 : Byte).toNat ≤ (10 : Byte).toNat
        ∧ 250 < (251 : Byte).toNat)
    ∧ (let p : List Byte := [0, 4, 0, 10, 0, 0, 0, 0, 0, 4, 2, 3, 233]
       Handed .profileWrite p (given .profileWrite p quiet0) ∧ (2 : Byte).toNat = (2 : GaugeIx).val
        ∧ 1000 < (3 : Byte).toNat * 256 + (233 : Byte).toNat ∧ 5 < (6 : Byte).toNat ∧ 15 < (16 : Byte).toNat)
    ∧ (let p : List Byte := [0, 4, 81, 10, 0, 0, 0, 0, 0, 2, 0, 0, 0]
       Handed .profileWrite p (given .profileWrite p quiet0))
    ∧ (run0.mdc.mode ≠ .quiesced ∧ saves0.mdc.op ≠ .none ∧ 19 < (20 : Byte).toNat ∧ 4 < (5 : Byte).toNat
        ∧ ¬(81 : Byte).toNat ≤ 80) := by
  decide +kernel

theorem witness_HardwareKept : HeatersSafe flashing ∧ ChannelsSound flashing ∧ (DrivesFollow flashing ∧ LoadsQuiesced flashing)
    ∧ step flashing = .next (tick flashing) :=
  ⟨by decide +kernel, by decide +kernel, by decide +kernel, step_idle (by decide +kernel)⟩

/-! #### Switches and bindings -/

theorem witness_ScanRecords :
    (Awake State.reset ∧ State.reset.mdc.mode = .loading) ∧ (Awake run0 ∧ run0.mdc.mode ≠ .loading)
    ∧ (let d : GroupDef := { first := 0, width := 1, polarity := .activeLow, debounce := 4 }
       (∀ i : Fin 16, (0 : GroupIx).val = i.val → d = run0.sws.defs.get i) ∧ (0 : GroupIx) ≠ ign ∧ (0 : GroupIx) ≠ start
        ∧ d.width ≤ 4)
    ∧ (let d : GroupDef := { first := 25, width := 1, polarity := .activeHigh, debounce := 4 }
       (∀ i : Fin 16, start.val = i.val → d = run0.sws.defs.get i) ∧ start ≠ ign ∧ d.width ≤ 4) := by
  decide +kernel

/-- No part of a pass waits in a state without one. -/
theorem passes_sound {s : State} (h : s.bde.pass = none) (k : s.bde.waiting = none) (r : s.bde.passRequested = false) :
    PassesSound s := by
  refine ⟨fun e => ?_, fun _ e => ?_, fun p e => ?_⟩
  · rw [h] at e; cases e
  · rw [r] at e; cases e
  · rw [k] at e; cases e

theorem not_save {s : State} (h : s.mdc.op = .none) : ∀ image, s.mdc.op ≠ .save image := by
  intro image e
  rw [h] at e
  cases e

theorem not_working {s : State} (h : s.lif.link = .idle) : ∀ r, s.lif.link ≠ .working r := by
  intro r e
  rw [h] at e
  cases e

/-- IGN about to be accepted: at 1 in RUN, in QUIESCED and in SLEEP, and at 0. -/
theorem witness_AcceptanceRules :
    (let s := candidate ign 1 3 run0
     Awake s ∧ PassesSound s ∧ s.mdc.mode = .run ∧ ((scanRecs s 0x1FFFFFF).get ign).2 = true
      ∧ ((scanRecs s 0x1FFFFFF).get ign).1.accepted = some 1 ∧ s.bde.pass = none)
    ∧ (let s := candidate ign 1 3 loads0
       Awake s ∧ PassesSound s ∧ s.mdc.mode = .quiesced ∧ ((scanRecs s 0x1FFFFFF).get ign).2 = true ∧ s.mdc.op = .load)
    ∧ (let s := candidate ign 0 3 asleep
       Awake s ∧ PassesSound s ∧ s.mdc.mode = .sleep ∧ ((scanRecs s 0x0FFFFFF).get ign).2 = true
        ∧ ((scanRecs s 0x0FFFFFF).get ign).1.accepted ≠ some 1)
    ∧ (let s := candidate ign 1 3 (accepted start 1 quiet0)
       Awake s ∧ PassesSound s ∧ s.mdc.mode = .quiesced ∧ ((scanRecs s 0x3FFFFFF).get ign).2 = true
        ∧ ((scanRecs s 0x3FFFFFF).get start).1.accepted = some 1 ∧ s.sbu.crank ≠ .cranking)
    ∧ (Awake run0 ∧ PassesSound run0 ∧ ∀ g, ¬((scanRecs run0 0x0FFFFFF).get g).2 = true)
    ∧ (let s := candidate ign 0 3 run0
       Awake s ∧ PassesSound s ∧ s.mdc.mode = .run ∧ ((scanRecs s 0x0FFFFFF).get ign).2 = true
        ∧ ((scanRecs s 0x0FFFFFF).get ign).1.accepted = some 0 ∧ (∀ i, claimAt s i = none)
        ∧ (∀ image, s.mdc.op ≠ .save image) ∧ ∀ r, s.lif.link ≠ .working r)
    ∧ (let s := candidate ign 1 3 asleep
       Awake s ∧ PassesSound s ∧ s.mdc.mode = .sleep ∧ ((scanRecs s 0x1FFFFFF).get ign).2 = true
        ∧ ((scanRecs s 0x1FFFFFF).get ign).1.accepted = some 1 ∧ (s.gau.get 0).state = .off) :=
  ⟨⟨by decide, passes_sound (by decide +kernel) (by decide +kernel) (by decide +kernel), by decide +kernel⟩,
    ⟨by decide, passes_sound (by decide +kernel) (by decide +kernel) (by decide +kernel), by decide +kernel⟩,
    ⟨by decide, passes_sound (by decide +kernel) (by decide +kernel) (by decide +kernel), by decide +kernel⟩,
    ⟨by decide, passes_sound (by decide +kernel) (by decide +kernel) (by decide +kernel), by decide +kernel⟩,
    ⟨by decide, passes_sound (by decide +kernel) (by decide +kernel) (by decide +kernel), by decide +kernel⟩,
    ⟨by decide, passes_sound (by decide +kernel) (by decide +kernel) (by decide +kernel), by decide, by decide +kernel,
      by decide +kernel, by decide +kernel, not_save (by decide +kernel), not_working (by decide +kernel)⟩,
    by decide, passes_sound (by decide +kernel) (by decide +kernel) (by decide +kernel), by decide +kernel⟩

theorem witness_GroupRequests :
    (Handed .groupRead [17] (given .groupRead [17] run0) ∧ (17 : Byte).toNat = start.val ∧ 17 < (18 : Byte).toNat
      ∧ (15 : Byte).toNat = (15 : Fin 16).val)
    ∧ (let p : List Byte := [15, 20, 4, 1, 17]
       Handed .groupWrite p (given .groupWrite p quiet0) ∧ quiet0.mdc.mode = .quiesced ∧ quiet0.mdc.op = .none
        ∧ (1 : Byte).toNat ≤ 1 ∧ (20 : Byte).toNat + (4 : Byte).toNat ≤ 24 ∧ 24 < (21 : Byte).toNat + (4 : Byte).toNat
        ∧ 23 < (24 : Byte).toNat ∧ 15 < (16 : Byte).toNat ∧ 1 < (2 : Byte).toNat ∧ 4 < (5 : Byte).toNat)
    ∧ run0.mdc.mode ≠ .quiesced ∧ saves0.mdc.op ≠ .none := by
  decide +kernel

theorem unused_entry {e : BindEntry} (h : e = .unused) : ∀ x a, e ≠ .test x false (some a) := by
  intro x a k
  rw [h] at k
  cases k

theorem witness_PassRule :
    (let s := passing 62 (accepted 0 1 run0)
     Awake s ∧ s.mdc.mode = .run ∧ s.bde.pass = some { freshPass (accepted 0 1 run0) with next := 62 } ∧ (62 : BindIx).val < 63)
    ∧ (let s := passing 63 run0
       Awake s ∧ s.mdc.mode = .run ∧ s.bde.pass = some { freshPass run0 with next := 63 } ∧ (63 : BindIx).val = 63
        ∧ s.bde.waiting = none ∧ s.bde.passRequested = false)
    ∧ (let s := given .bindWrite [] { passing 63 run0 with bde := { (passing 63 run0).bde with waiting := some [] } }
       Awake s ∧ s.mdc.mode = .run ∧ s.bde.pass = some { freshPass run0 with next := 63 }
        ∧ s.bde.waiting = some [] ∧ s.lif.link = .working { req := .bindWrite, params := [] } ∧ s.mdc.sleepTimer = none)
    ∧ (quiet0.mdc.mode ≠ .run ∧ run0.bde.pass = none)
    ∧ (∀ x a, (passing 63 run0).bde.entries.get 63 ≠ .test x false (some a))
    ∧ ((freshPass run0).codes.get 0 = none ∧ (freshPass (accepted 0 1 run0)).codes.get 0 = some 1) :=
  ⟨by decide +kernel, by decide +kernel, by decide +kernel, by decide +kernel, unused_entry (by decide +kernel),
    by decide +kernel⟩

/-- B63 with a test, its action that of B0. -/
def lastBinding : State :=
  let s := passing 63 (accepted 0 1 run0)
  { s with bde := { s.bde with entries := put s.bde.entries 63 (s.bde.entries.get 0) } }

/-- B0, and B63 as the last, MATCHED without a claim, and B0 with one. -/
theorem witness_ReconcileRule :
    (let s := passing 0 (accepted 0 1 run0)
     let x : Test := { group := 0, mask := 1, op := .eq, value := 1 }
     let a : Action := { circuit := 0, mode := .steady, cls := .safety, level := 1, floor := none, share := none, offDelay := 0 }
     Awake s ∧ s.mdc.mode = .run ∧ s.bde.pass = some { freshPass (accepted 0 1 run0) with next := 0 }
      ∧ ((0 : BindIx).val = 63 → s.bde.waiting = none)
      ∧ s.bde.entries.get 0 = .test x false (some a) ∧ LinksAgree s ∧ CollectionsExact s
      ∧ (s.crs.inForce.get a.circuit).maxLevel ≠ 0 ∧ x.passes (freshPass (accepted 0 1 run0)).codes = true
      ∧ (∀ h, (s.bde.recs.get 0).link ≠ .claim h) ∧ claimAt s 0 = none)
    ∧ (let s := passing 0 (accepted 0 0 owned)
       LinksAgree s ∧ CollectionsExact s ∧ (s.bde.recs.get 0).link = .claim { slot := 0, gen := 0 }
        ∧ claimAt s 0 = some { fan with origin := .binding 0 })
    ∧ (let s := lastBinding
       let x : Test := { group := 0, mask := 1, op := .eq, value := 1 }
       let a : Action := { circuit := 0, mode := .steady, cls := .safety, level := 1, floor := none, share := none, offDelay := 0 }
       Awake s ∧ s.mdc.mode = .run ∧ s.bde.pass = some { freshPass (accepted 0 1 run0) with next := 63 }
        ∧ s.bde.waiting = none ∧ s.bde.entries.get 63 = .test x false (some a) ∧ LinksAgree s ∧ CollectionsExact s
        ∧ (s.crs.inForce.get a.circuit).maxLevel ≠ 0) :=
  ⟨⟨by decide, by decide, by decide +kernel, by decide, by decide +kernel,
      links_agree (by decide +kernel) (by decide +kernel), by decide +kernel, by decide +kernel, by decide +kernel,
      no_link (by decide +kernel), by decide +kernel⟩,
    ⟨links_agree (by decide +kernel) (by decide +kernel), by decide +kernel, by decide +kernel, by decide +kernel⟩,
    ⟨by decide, by decide, by decide +kernel, by decide +kernel, by decide +kernel,
      links_agree (by decide +kernel) (by decide +kernel), by decide +kernel, by decide +kernel⟩⟩

/-- Each kind of entry at the edges of its codes. -/
theorem witness_BindRequests :
    (Handed .bindRead [byte (63 : BindIx).val] (given .bindRead [byte (63 : BindIx).val] run0)
      ∧ 63 < (64 : Byte).toNat ∧ Handed .bindRead [64] (given .bindRead [64] run0))
    ∧ (Handed .bindWrite [] (given .bindWrite [] (passing 0 run0)) ∧ (given .bindWrite [] (passing 0 run0)).bde.pass.isSome = true)
    ∧ (let p : List Byte := [63, 1, 17, 255, 3, 255, 7, 15, 1, 3, 16, 16, 251, 56, 65]
       let s := given .bindWrite p run0
       Handed .bindWrite p s ∧ s.bde.pass = none ∧ (s.mdc.mode = .run → s.bde.passRequested = false) ∧ s.mdc.op = .none
        ∧ (63 : Byte).toNat = (63 : BindIx).val ∧ (17 : Byte).toNat = (17 : GroupIx).val ∧ TestOp.none.code = 3
        ∧ (15 : Byte).toNat = (15 : Circ).val ∧ ClaimMode.flash.code = 1 ∧ ClaimClass.auxiliary.code = 3
        ∧ (7 : Byte).getLsbD 1 = true ∧ 14400 < (56 : Byte).toNat * 256 + (65 : Byte).toNat)
    ∧ LinksAgree owned ∧ (owned.bde.recs.get 0).link = .claim { slot := 0, gen := 0 }
    ∧ (saving0.mdc.op ≠ .none ∧ quiet0.mdc.mode ≠ .run ∧ 17 < (18 : Byte).toNat ∧ 3 < (4 : Byte).toNat
        ∧ 15 < (16 : Byte).toNat ∧ (5 : Byte).getLsbD 1 = false) :=
  ⟨by decide +kernel, by decide +kernel, by decide +kernel, owned_links, by decide +kernel, by decide +kernel⟩

/-! #### Gauges -/

/-- A gauge in a state, with a reading in its samples. -/
def reading (a : Nat) (st : GaugeState) : State := gauge (fun g => { g with samples := [a], state := st }) run0

theorem witness_GaugeUpdateRule :
    (Awake quiet0 ∧ quiet0.mdc.mode ≠ .run)
    ∧ (Awake (reading 16 .active) ∧ (reading 16 .active).mdc.mode = .run ∧ ((reading 16 .active).gau.get 0).samples = 16 :: []
      ∧ ((reading 16 .active).gau.get 0).state ≠ .off ∧ ((reading 16 .active).gau.get 0).settings.k ≤ 256)
    ∧ ((reading 4080 .off).gau.get 0).state = .off
    ∧ (let points := [(330, 1000), (1050, 500), (2400, 0)]
       increasing (points.map (·.1)) = true ∧ points = (330, 1000) :: [(1050, 500), (2400, 0)] ∧ 329 < 330
        ∧ points = [(330, 1000), (1050, 500)] ++ [(2400, 0)] ∧ 2400 ≤ 2400
        ∧ points = [(330, 1000)] ++ (1050, 500) :: (2400, 0) :: [] ∧ 1050 ≤ 2399 ∧ 2399 < 2400
        ∧ ∀ q ∈ points, q.2 ≤ 1000) := by
  decide +kernel

/-- Each state of a gauge, at the last count and the one before it, with a reading in range and out of it. -/
theorem witness_SenderFaultRule :
    (∀ st ∈ [GaugeState.active, .suspect 2, .suspect 3, .faultHold .short 78 2, .faultHold .short 79 2, .faultHold .short 79 3,
        .faultRest .short 2, .faultRest .short 3],
      ∀ a ∈ [15, 16, 4079, 4080], Awake (reading a st) ∧ (reading a st).mdc.mode = .run
        ∧ ((reading a st).gau.get 0).samples = a :: [] ∧ ((reading a st).gau.get 0).state = st)
    ∧ classOf 15 = .short ∧ classOf 16 = .inRange 9 ∧ classOf 4079 = .inRange 9999 ∧ classOf 4080 = .openSender := by
  decide +kernel

theorem off_gauge {g : Gauge} (e : g.state = .off) : ∀ k n, g.state ≠ .faultHold k 79 n := by
  intro k n h
  rw [e] at h
  cases h

theorem witness_GaugeEvents :
    (Awake run0 ∧ run0.mdc.mode = .run ∧ quiet0.mdc.mode ≠ .run)
    ∧ ((reading 0 (.faultHold .short 79 3)).gau.get 0).state = .faultHold .short 79 3
    ∧ (DemandsFollow run0 ∧ ∀ k n, (run0.gau.get 0).state ≠ .faultHold k 79 n)
    ∧ (Handed .gaugeRead [2, 1] (given .gaugeRead [2, 1] run0) ∧ (2 : Byte).toNat = (2 : GaugeIx).val ∧ 2 < (3 : Byte).toNat
      ∧ 1 < (2 : Byte).toNat) :=
  ⟨by decide +kernel, by decide +kernel,
    ⟨by decide +kernel, off_gauge (by decide +kernel)⟩, by decide +kernel⟩

/-- Tables of one, two and nine points, resistances at their bound, beyond it and out of order. -/
theorem witness_SettingsRequests :
    (let points := [(0, 1023), (9999, 0)]
     let p : List Byte := 2 :: 2 :: points.flatMap (fun q => be24 (q.1 * 1024 + q.2)) ++ [1, 1, 4, 177]
     Handed .gaugeSet p (given .gaugeSet p run0) ∧ (2 : Byte).toNat = points.length ∧ (∀ q ∈ points, q.1 < 2 ^ 14 ∧ q.2 < 2 ^ 10)
      ∧ run0.mdc.mode = .run ∧ run0.mdc.op = .none ∧ (2 : Byte).toNat = (2 : GaugeIx).val ∧ (∀ q ∈ points, q.1 ≤ 9999)
      ∧ increasing (points.map (·.1)) = true)
    ∧ (increasing ([(5, 0), (5, 0)].map (·.1)) = false ∧ (∃ q ∈ [(0, 0), (10000, 0)], 9999 < q.1)
      ∧ [(0, 0)].length < 2 ∧ 8 < (List.replicate 9 (0, 0)).length ∧ 2 < (3 : Byte).toNat)
    ∧ (quiet0.mdc.mode ≠ .run ∧ saving0.mdc.mode = .run ∧ saving0.mdc.op ≠ .none)
    ∧ (Handed .gaugeSet [2, 9] (given .gaugeSet [2, 9] run0) ∧ 8 < (9 : Byte).toNat ∧ (2 : Byte).toNat ≤ 2
      ∧ Handed .gaugeSet [3, 1, 0] (given .gaugeSet [3, 1, 0] run0) ∧ (1 : Byte).toNat < 2 ∧ 2 < (3 : Byte).toNat)
    ∧ (Handed .flasherSet [59, 1] (given .flasherSet [59, 1] run0) ∧ (1 : Byte).toNat ≤ 1 ∧ 1 < (2 : Byte).toNat
      ∧ Handed .flasherSet [] (given .flasherSet [] run0) ∧ ([] : List Byte).length ≠ 2) := by
  decide +kernel

/-! #### Modes and the image store -/

/-- The part with everything at rest for sleep. -/
def dozing : State := let s := accepted ign 0 run0; { s with mdc := { s.mdc with sleepTimer := some 1 } }

theorem witness_LeavingRun :
    (let s := given .quiesce [] run0
     Handed .quiesce [] s ∧ s.mdc.mode = .run ∧ (∀ image, s.mdc.op ≠ .save image) ∧ acceptedCode s ign ≠ some 1 ∧ DrivenInRun s)
    ∧ (quiet0.mdc.mode ≠ .run ∧ saving0.mdc.op = .save [] ∧ acceptedCode (accepted ign 1 run0) ign = some 1)
    ∧ (Awake dozing ∧ dozing.mdc.mode = .run ∧ acceptedCode dozing ign = some 0 ∧ noClaims dozing.clt = true
      ∧ (∀ image, dozing.mdc.op ≠ .save image) ∧ (∀ r, dozing.lif.link ≠ .working r) ∧ dozing.mdc.sleepTimer.isSome = true
      ∧ DrivenInRun dozing ∧ ∀ i, claimAt dozing i = none)
    ∧ (Awake run0 ∧ run0.mdc.sleepTimer = none)
    ∧ (Handed .quiesce [0] (given .quiesce [0] (accepted ign 1 run0)) ∧ ([0] : List Byte) ≠ []
      ∧ (accepted ign 1 run0).mdc.mode = .run ∧ ∀ image, (accepted ign 1 run0).mdc.op ≠ .save image) :=
  ⟨⟨given_handed run0_awake, rfl, not_save (by decide +kernel), by decide +kernel, by decide +kernel⟩, by decide +kernel,
    ⟨by decide, by decide, by decide +kernel, by decide +kernel, not_save (by decide +kernel),
      not_working (by decide +kernel), by decide, by decide +kernel, by decide +kernel⟩,
    by decide +kernel, by decide +kernel, by decide, by decide, not_save (by decide +kernel)⟩

/-- The fan's circuit emptied by a pending entry, and START standing accepted at 1 with the fan GRANTED. -/
theorem witness_ResumeRule :
    (let t := inMode .quiesced fanned
     let s := given .resume [] { t with crs := { t.crs with pendingEntry := put t.crs.pendingEntry 9 (some { channels := [], maxLevel := 1 }) } }
     Handed .resume [] s ∧ s.mdc.mode = .quiesced ∧ s.mdc.op ≠ .load ∧ s.bde.pass = none ∧ acceptedCode s start ≠ some 1
      ∧ claimAt s 0 = some fan)
    ∧ (let s := given .resume [] (inMode .quiesced (accepted start 1 fanned))
       Handed .resume [] s ∧ s.mdc.mode = .quiesced ∧ s.mdc.op ≠ .load ∧ s.bde.pass = none
        ∧ acceptedCode s start = some 1 ∧ s.sbu.crank ≠ .cranking ∧ CollectionsExact s ∧ claimAt s 0 = some fan)
    ∧ (run0.mdc.mode ≠ .quiesced ∧ loads0.mdc.mode = .quiesced ∧ loads0.mdc.op = .load) := by
  decide +kernel

theorem witness_StoreRules :
    (Handed .storeSave [] (given .storeSave [] run0) ∧ run0.mdc.op = .none ∧ saving0.mdc.op ≠ .none)
    ∧ (Awake saving0 ∧ saving0.mdc.op = .save [] ∧ ∀ image, run0.mdc.op ≠ .save image)
    ∧ (Handed .storeLoad [] (given .storeLoad [] quiet0) ∧ quiet0.mdc.mode = .quiesced ∧ run0.mdc.mode ≠ .quiesced)
    ∧ (Awake loads0 ∧ loads0.mdc.op = .load ∧ loads0.mdc.mode = .quiesced ∧ readImage [] = none ∧ run0.mdc.op ≠ .load)
    ∧ (readImage (formImage defaultConfiguration)).isSome = true :=
  ⟨by decide +kernel, ⟨by decide, by decide, not_save (by decide +kernel)⟩, by decide +kernel, by decide +kernel,
    by decide +kernel⟩

theorem witness_LoadingEnds :
    let s := State.reset
    Awake s ∧ s.mdc.mode = .loading ∧ s.mdc.op = .none ∧ (∀ c, s.crs.pendingEntry.get c = none) ∧ s.bde.pass = none
      ∧ s.bde.passRequested = false ∧ noClaims s.clt = true
      ∧ (∀ g, s.sws.recs.get g = { accepted := none, raw := none, candidate := none, run := 0 })
      ∧ (∀ i, 2 ≤ (((readImage s.store).getD defaultConfiguration).groups.get i).debounce) ∧ run0.mdc.mode ≠ .loading := by
  decide +kernel

theorem witness_ModesKept : (TimerFollows raised ∧ SleepQuiet raised ∧ LoadsQuiesced raised) ∧ PassesSound run0
    ∧ step raised = .next (tick raised)
    ∧ (step dozing = .next (tick dozing) ∧ dozing.mdc.sleepTimer = some 1 ∧ (tick dozing).mdc.sleepTimer = some 1)
    ∧ (let s := accepted ign 0 run0
       s.mdc.sleepTimer = none ∧ (ran (.fetchFrame 1) s).mdc.sleepTimer = some 30000) :=
  ⟨by decide +kernel, passes_sound (by decide +kernel) (by decide +kernel) (by decide +kernel),
    step_idle (by decide +kernel), ⟨step_idle (by decide +kernel), by decide +kernel, by decide +kernel⟩,
    by decide +kernel⟩

theorem witness_ConfigurationKept : ConfigurationSound raised ∧ step raised = .next (tick raised) :=
  ⟨by decide +kernel, step_idle (by decide +kernel)⟩

/-- Records at the edges of their bounds. -/
theorem witness_RecordsReadBack :
    Profile.sound 16 { kind := .motor, nominal := 160, trip := 10, openLoad := 10, inrush := 0, minDuty := 900, stall := 160
                       source := none } = true
    ∧ CircuitEntry.sound { channels := [0, 1, 2, 19], maxLevel := 15 } = true
    ∧ GroupDef.sound { first := 20, width := 4, polarity := .activeHigh, debounce := 16 } = true
    ∧ BindEntry.sound (.test { group := 17, mask := 15, op := .none, value := 15 } true
        (some { circuit := 15, mode := .flash, cls := .auxiliary, level := 15, floor := some 15, share := some 250
                offDelay := 14400 })) = true
    ∧ GaugeSettings.sound { points := [(0, 0), (9999, 1000)], k := 256, vstab := 1200 } = true
    ∧ (let points : List Byte := [0, 0, 0, 0, 4, 0] ++ List.replicate 18 0
       let write (r : Req) (p : List Byte) : Prop :=
         let s := given r p quiet0
         Handed r p s ∧ s.mdc.mode = .quiesced ∧ s.mdc.op = .none ∧ s.bde.pass = none
       let profile := profileBytes (defaultProfile 0)
       let bind := bindBytes (defaultConfiguration.bindings.get 0)
       (profile.length = 12 ∧ write .profileWrite (byte (0 : Chan).val :: profile))
       ∧ (4 < (5 : Byte).toNat ∧ (4 : Byte).toNat ≤ 4 ∧ write .circuitWrite (byte (15 : Circ).val :: 1 :: 4 :: [0, 1, 2, 3]))
       ∧ ([0, 1, 0, 1].length = 4 ∧ write .groupWrite (byte (15 : Fin 16).val :: [0, 1, 0, 1]))
       ∧ (bind.length = 14 ∧ write .bindWrite (byte (63 : BindIx).val :: bind))
       ∧ ((9 : Byte).toNat > 8 ∧ (1 : Byte).toNat < 2 ∧ points.length = 24
         ∧ ∀ n ∈ ([2, 8] : List Byte), 2 ≤ n.toNat ∧ n.toNat ≤ 8
           ∧ (let p := byte (2 : GaugeIx).val :: n :: points.take (3 * n.toNat) ++ [0, 1, 3, 232]
              Handed .gaugeSet p (given .gaugeSet p run0)) ∧ run0.mdc.mode = .run ∧ run0.mdc.op = .none)
       ∧ write .flasherSet [80, 1]) := by
  decide +kernel

theorem witness_ImageReadsBack : defaultConfiguration.Sound
    ∧ readImage (formImage defaultConfiguration) = some defaultConfiguration := by
  decide +kernel

end Sys2Proof.Tests
end

/-! PROOFS. Shares, settle parts and the headroom (R31–R33), and the statement O11. -/

namespace Sys2Proof.Machine

/-! ### Shares and settle parts (R31, R32) -/

/-- A ceiling times its divisor reaches the dividend and stays within one divisor of it. -/
theorem ceilDiv_bounds (a : Nat) {b : Nat} (hb : 0 < b) : a ≤ ceilDiv a b * b ∧ ceilDiv a b * b < a + b := by
  have hsplit := Nat.div_add_mod (a + b - 1) b
  have hmod := Nat.mod_lt (a + b - 1) hb
  rw [Nat.mul_comm] at hsplit
  unfold ceilDiv
  omega

/-- A ceiling is at most every bound whose multiple reaches the dividend. -/
theorem ceilDiv_le {a b n : Nat} (hb : 0 < b) (h : a ≤ n * b) : ceilDiv a b ≤ n := by
  have hlt := (ceilDiv_bounds a hb).2
  have : ceilDiv a b * b < (n + 1) * b := by rw [Nat.add_mul]; omega
  exact Nat.lt_succ_iff.mp (lt_of_mul_lt_mul_right this (Nat.zero_le b))

theorem steadyShare_le {f m l : Nat} (hm : 0 < m) (hl : l ≤ m) : steadyShare f m l ≤ f :=
  ceilDiv_le hm (Nat.mul_le_mul_left f hl)

theorem steadyShare_zero (f : Nat) {m : Nat} (hm : 0 < m) : steadyShare f m 0 = 0 :=
  Nat.le_zero.mp (ceilDiv_le hm (by simp))

theorem steadyShare_max (f : Nat) {m : Nat} (hm : 0 < m) : steadyShare f m m = f := by
  refine le_antisymm (steadyShare_le hm le_rfl) ?_
  exact le_of_mul_le_mul_right (ceilDiv_bounds (f * m) hm).1 hm

theorem flashShare_bounds (f : Nat) : f ≤ 2 * flashShare f ∧ 2 * flashShare f ≤ f + 1 := by
  have := ceilDiv_bounds f (b := 2) (by decide)
  unfold flashShare
  omega

theorem claimShare_steady {c : Claim} (h : c.mode = .steady) (s : State) (l : Nat) :
    claimShare s c l = steadyShare c.shareFull (maxLevelOf s c.circuit) l := by
  unfold claimShare; rw [h]

theorem claimShare_flash {c : Claim} (h : c.mode = .flash) (s : State) (l : Nat) :
    claimShare s c l = flashShare c.shareFull := by
  unfold claimShare; rw [h]

/-- No share of a claim exceeds its share_full (R31). -/
theorem claimShare_le_shareFull {s : State} {c : Claim} {l : Nat} (hm : 0 < maxLevelOf s c.circuit)
    (hl : l ≤ maxLevelOf s c.circuit) : claimShare s c l ≤ c.shareFull := by
  cases h : c.mode with
  | steady => rw [claimShare_steady h]; exact steadyShare_le hm hl
  | flash =>
    rw [claimShare_flash h]
    have := flashShare_bounds c.shareFull
    omega

/-- The entries of a table, in order of their indices. -/
theorem vector_toList_eq_ofFn {α : Type} {n : Nat} (v : Vector α n) : v.toList = List.ofFn v.get := by
  apply List.ext_getElem
  · simp
  · intro k h₁ h₂
    simp [get_eq_getElem]

/-- The unsettled total over the slots (R32). -/
theorem unsettled_eq_sum (s : State) : unsettled s = ∑ i : SlotIx, (s.clt.slots.get i).unsettled := by
  unfold unsettled
  rw [vector_toList_eq_ofFn, List.map_ofFn, List.sum_ofFn]
  rfl

theorem slot_unsettled_eq (s : State) (i : SlotIx) :
    (s.clt.slots.get i).unsettled = match (claimAt s i).bind (·.settle) with | some p => p.share | none => 0 := by
  unfold Slot.unsettled
  change (((claimAt s i).bind (·.settle)).map (·.share)).getD 0 = _
  cases (claimAt s i).bind (·.settle) <;> rfl

/-- Settles O11, from the ceiling's bounds and the unsettled total as a sum over the slots. -/
theorem sharesAndHeadroom : Obligations.SharesAndHeadroom := by
  unfold Obligations.SharesAndHeadroom
  refine ⟨fun f m l hm hl => ?_, flashShare_bounds, fun s c l => ⟨?_, ?_, ?_⟩, fun added carried => ?_, fun s => ?_⟩
  · obtain ⟨hlo, hhi⟩ := ceilDiv_bounds (f * l) hm
    exact ⟨hlo, hhi, steadyShare_le hm hl, steadyShare_zero f hm, steadyShare_max f hm⟩
  · exact fun h => claimShare_steady h s l
  · exact fun h => claimShare_flash h s l
  · exact fun hfull hm hl => (claimShare_le_shareFull hm hl).trans hfull
  · cases added with
    | zero => rfl
    | succ n => cases carried <;> rfl
  · unfold headroom
    simp only [unsettled_eq_sum, slot_unsettled_eq]
    cases s.sbu.band <;> rfl

end Sys2Proof.Machine

/-! PROOFS. The budget action of an evaluation (R38–R44): what one action does to a claim's record and place, whom the
walks over the collections choose, and the statements O25 and O26. -/

namespace Sys2Proof.Machine

/-! ### What becomes of one claim -/

theorem granted_of_state {c : Claim} {g : Nat} (h : c.state = .granted g) : c.granted = g := by
  unfold Claim.granted; rw [h]

theorem not_held_of_state {c : Claim} {g : Nat} (h : c.state = .granted g) : c.isHeld = false := by
  unfold Claim.isHeld; rw [h]

theorem held_of_state {c : Claim} {r : HoldReasons} (h : c.state = .held r) : c.isHeld = true := by
  unfold Claim.isHeld; rw [h]

theorem gen_modifyClaim (i j : SlotIx) (f : Claim → Claim) (s : State) :
    ((modifyClaim i f s).clt.slots.get j).gen = (s.clt.slots.get j).gen := by
  rw [slots_modifyClaim]
  split
  · next h => subst h; rfl
  · rfl

/-- A change of one claim's record leaves every other claim and every generation. -/
theorem oneRecord_modifyClaim {i : SlotIx} {c : Claim} {s : State} (h : claimAt s i = some c) (f : Claim → Claim) :
    OneRecord s (modifyClaim i f s) i (f c) := by
  refine ⟨?_, fun j hj => ?_, fun j => gen_modifyClaim i j f s⟩
  · rw [claimAt_modifyClaim, if_pos rfl, h, Option.map_some]
  · rw [claimAt_modifyClaim, if_neg (Ne.symm hj)]

theorem oneRecord_makeGranted {i : SlotIx} {c : Claim} {s : State} (h : claimAt s i = some c) (l share : Nat) :
    OneRecord s (makeGranted i l share s) i { c with state := .granted l, settle := addSettle share c.settle } :=
  oneRecord_modifyClaim h fun c => { c with state := .granted l, settle := addSettle share c.settle }

theorem oneRecord_makeHeld {i : SlotIx} {c : Claim} {s : State} (h : claimAt s i = some c) (r : HoldReasons) :
    OneRecord s (makeHeld i r s) i { c with state := .held r, settle := none } :=
  oneRecord_modifyClaim h fun c => { c with state := .held r, settle := none }

theorem joinsGranted_makeGranted (i : SlotIx) (l share : Nat) (s : State) :
    JoinsGranted s (makeGranted i l share s) i :=
  ⟨makeGranted_grantList .., makeGranted_heldQueue ..⟩

/-! ### The place in the held queue (R7) -/

theorem slotRank_eq (s : State) (i : SlotIx) : slotRank s.clt i = ((claimAt s i).map (·.cls.rank)).getD 0 := by
  unfold slotRank claimAt
  cases (s.clt.slots.get i).claim <;> rfl

/-- A change of a record that keeps its class keeps every slot's rank. -/
theorem slotRank_modifyClaim {f : Claim → Claim} (hf : ∀ c, (f c).cls = c.cls) (i j : SlotIx) (s : State) :
    slotRank (modifyClaim i f s).clt j = slotRank s.clt j := by
  rw [slotRank_eq, slotRank_eq, claimAt_modifyClaim]
  split
  · next h =>
    subst h
    cases claimAt s i <;> simp [hf]
  · rfl

/-- Past the entries of a sorted queue that are ranked at most `n`, every entry is ranked above `n`. -/
theorem rank_lt_of_mem_dropWhile {rank : SlotIx → Nat} {n : Nat} {q : List SlotIx}
    (hq : q.Pairwise fun i j => rank i ≤ rank j) : ∀ j ∈ q.dropWhile (fun j => decide (rank j ≤ n)), n < rank j := by
  induction q with
  | nil => simp
  | cons x xs ih =>
    obtain ⟨hx, hxs⟩ := List.pairwise_cons.mp hq
    by_cases h : rank x ≤ n
    · simpa [List.dropWhile_cons, h] using ih hxs
    · intro j hj
      have hj : j = x ∨ j ∈ xs := by simpa [List.dropWhile_cons, h] using hj
      rcases hj with rfl | hj
      · omega
      · have := hx j hj
        omega

/-- A slot that becomes HELD enters a queue ordered by class after the last entry of its class. -/
theorem joinsHeld_makeHeld {s : State} (hq : s.clt.heldQueue.Pairwise fun i j => slotRank s.clt i ≤ slotRank s.clt j)
    (i : SlotIx) (r : HoldReasons) : JoinsHeld s (makeHeld i r s) i := by
  have hrank (j : SlotIx) : slotRank (makeHeld i r s).clt j = slotRank s.clt j :=
    slotRank_modifyClaim (f := fun c => { c with state := .held r, settle := none }) (fun _ => rfl) i j s
  have hqueue : (makeHeld i r s).clt.heldQueue = enqueue (makeHeld i r s).clt i (s.clt.heldQueue.filter (· ≠ i)) := rfl
  refine ⟨makeHeld_grantList .., _, _, List.takeWhile_append_dropWhile.symm, hqueue, fun j hj => ?_, fun j hj => ?_⟩
  · simpa using List.mem_takeWhile_imp hj
  · refine rank_lt_of_mem_dropWhile ?_ j hj
    simp only [hrank]
    exact hq.filter _

/-! ### The walks over the classes (R39, R41) -/

theorem grantedIn_iff (s : State) (k : ClaimClass) (p : Claim → Bool) (i : SlotIx) :
    grantedIn s k p i = true ↔ ∃ c, claimAt s i = some c ∧ c.isHeld = false ∧ c.cls = k ∧ p c = true := by
  unfold grantedIn
  cases claimAt s i with
  | none => simp
  | some c => simp [and_assoc]

/-- The first hit in a list with nothing before it. -/
theorem find?_append_cons {α : Type} {p : α → Bool} {front back : List α} {a : α} (ha : p a = true)
    (hfront : ∀ b ∈ front, ¬p b = true) : (front ++ a :: back).find? p = some a :=
  List.find?_eq_some_iff_append.mpr ⟨ha, front, back, rfl, fun b hb => by simpa using hfront b hb⟩

/-- A walk over classes listed in an order `before` stops at the first class with a hit. -/
theorem firstClass_eq_some {before : ClaimClass → ClaimClass → Prop} {classes : List ClaimClass}
    {find : ClaimClass → Option SlotIx} {k : ClaimClass} {i : SlotIx} (horder : classes.Pairwise before)
    (hk : k ∈ classes) (hnone : ∀ k' ∈ classes, before k' k → find k' = none) (hfind : find k = some i) :
    firstClass classes find = some i := by
  unfold firstClass
  induction classes with
  | nil => simp at hk
  | cons x xs ih =>
    obtain ⟨hx, hxs⟩ := List.pairwise_cons.mp horder
    rcases List.mem_cons.mp hk with rfl | hk
    · simp [hfind]
    · have hskip : find x = none := hnone x (by simp) (hx k hk)
      simp only [List.findSome?_cons, hskip]
      exact ih hxs hk fun k' hk' => hnone k' (List.mem_cons_of_mem x hk')

/-- The claim in a slot is GRANTED, not SAFETY, and satisfies `p`: it may be shed, or raised when it is DEGRADED. -/
def ActsOn (s : State) (p : Claim → Prop) (j : SlotIx) : Prop :=
  ∃ x, claimAt s j = some x ∧ x.isHeld = false ∧ x.cls ≠ .safety ∧ p x

/-- The walk of R39 and R41 over the classes and a list: without a claim to act on it finds none. -/
theorem firstClass_grantedIn_eq_none {s : State} {classes : List ClaimClass} {xs : List SlotIx} {p : Claim → Bool}
    (hsafe : .safety ∉ classes) (hxs : ∀ j ∈ xs, ¬ActsOn s (p · = true) j) :
    firstClass classes (fun k => xs.find? (grantedIn s k p)) = none := by
  unfold firstClass
  rw [List.findSome?_eq_none_iff]
  intro k hk
  rw [List.find?_eq_none]
  intro j hj hin
  obtain ⟨x, hx, hg, rfl, hp⟩ := (grantedIn_iff ..).mp hin
  exact hxs j hj ⟨x, hx, hg, fun h => hsafe (h ▸ hk), hp⟩

/-- The walk of R39 and R41 over the classes and a list: it finds the first claim of the first class in order. -/
theorem firstClass_grantedIn_eq_some {s : State} {before : ClaimClass → ClaimClass → Prop}
    {classes : List ClaimClass} {front back : List SlotIx} {i : SlotIx} {c : Claim} {p : Claim → Bool}
    (horder : classes.Pairwise before) (hirrefl : ∀ k, ¬before k k) (hsafe : .safety ∉ classes)
    (hc : claimAt s i = some c) (hg : c.isHeld = false) (hcls : c.cls ∈ classes) (hp : p c = true)
    (hother : ∀ j ∈ front ++ back, ¬ActsOn s (fun x => p x = true ∧ before x.cls c.cls) j)
    (hfront : ∀ j ∈ front, ¬ActsOn s (fun x => p x = true ∧ x.cls = c.cls) j) :
    firstClass classes (fun k => (front ++ i :: back).find? (grantedIn s k p)) = some i := by
  refine firstClass_eq_some horder hcls (fun k hk hbefore => ?_)
    (find?_append_cons ((grantedIn_iff ..).mpr ⟨c, hc, hg, rfl, hp⟩) fun j hj hin => ?_)
  · rw [List.find?_eq_none]
    intro j hj hin
    obtain ⟨x, hx, hxg, rfl, hxp⟩ := (grantedIn_iff ..).mp hin
    by_cases hji : j = i
    · subst hji
      obtain rfl : c = x := Option.some.inj (hc.symm.trans hx)
      exact hirrefl _ hbefore
    · refine hother j ?_ ⟨x, hx, hxg, fun h => hsafe (h ▸ hk), hxp, hbefore⟩
      simpa [hji] using hj
  · obtain ⟨x, hx, hxg, hxc, hxp⟩ := (grantedIn_iff ..).mp hin
    exact hfront j hj ⟨x, hx, hxg, fun h => hsafe (h ▸ hxc ▸ hcls), hxp, hxc⟩

/-- The victim of R39: no other sheddable claim is of a lower class, and none of its class stands nearer the tail. -/
theorem shedVictim_eq_some {s : State} {front back : List SlotIx} {i : SlotIx} {c : Claim}
    (hlist : s.clt.grantList = front ++ i :: back) (hc : claimAt s i = some c) (hg : c.isHeld = false)
    (hcls : c.cls ≠ .safety) (hother : ∀ j ∈ front ++ back, ¬ActsOn s (fun x => c.cls.rank < x.cls.rank) j)
    (hback : ∀ j ∈ back, ¬ActsOn s (fun x => x.cls = c.cls) j) : shedVictim s = some i := by
  have hrev : s.clt.grantList.reverse = back.reverse ++ i :: front.reverse := by simp [hlist]
  unfold shedVictim
  rw [hrev]
  refine firstClass_grantedIn_eq_some (before := fun a b => b.rank < a.rank) (by decide) (fun k => Nat.lt_irrefl _)
    (by decide) hc hg ?_ rfl (fun j hj => ?_) fun j hj => ?_
  · revert hcls; cases c.cls <;> decide
  · simpa using hother j (by simpa [or_comm] using hj)
  · simpa using hback j (by simpa using hj)

theorem shedVictim_eq_none {s : State} (h : ∀ j ∈ s.clt.grantList, ¬ActsOn s (fun _ => True) j) :
    shedVictim s = none :=
  firstClass_grantedIn_eq_none (by decide) fun j hj => by simpa using h j (by simpa using hj)

theorem reasonFree_iff (s : State) (i : SlotIx) : reasonFree s i = true ↔
    ∃ c, claimAt s i = some c ∧ c.state = .held { budgetTimer := none, crank := false, host := false } := by
  unfold reasonFree
  cases claimAt s i with
  | none => simp
  | some c =>
    cases h : c.state with
    | granted l => simp [Claim.reasons, h]
    | held r =>
      obtain ⟨timer, crank, host⟩ := r
      simp [Claim.reasons, h, HoldReasons.isEmpty, and_assoc]

theorem degraded_iff (c : Claim) : c.degraded = true ↔ c.isHeld = false ∧ c.granted < c.requested := by
  simp [Claim.degraded]

/-- The candidate of R41 among the HELD claims: the first in queue order whose reason set is empty. -/
theorem candidate_of_free {s : State} {front back : List SlotIx} {i : SlotIx}
    (hqueue : s.clt.heldQueue = front ++ i :: back) (hfront : ∀ j ∈ front, ¬reasonFree s j = true)
    (hi : reasonFree s i = true) : candidate s = some i := by
  unfold candidate
  rw [hqueue, find?_append_cons hi hfront]

/-- Without a HELD claim that is free, the candidate of R41 is looked for in the grant order. -/
theorem candidate_of_no_free {s : State} (h : ∀ j ∈ s.clt.heldQueue, ¬reasonFree s j = true) :
    candidate s = firstClass [.lighting, .comfort, .auxiliary] fun k =>
      s.clt.grantList.find? (grantedIn s k Claim.degraded) := by
  unfold candidate
  rw [List.find?_eq_none.mpr h]

theorem candidate_eq_none {s : State} (hqueue : ∀ j ∈ s.clt.heldQueue, ¬reasonFree s j = true)
    (hlist : ∀ j ∈ s.clt.grantList, ¬ActsOn s (fun x => x.degraded = true ∧ True) j) : candidate s = none := by
  rw [candidate_of_no_free hqueue]
  exact firstClass_grantedIn_eq_none (by decide) fun j hj => by simpa using hlist j hj

/-- The candidate of R41 among the DEGRADED claims: no other is of a higher class, and none of its class stands nearer
the head. -/
theorem candidate_of_degraded {s : State} {front back : List SlotIx} {i : SlotIx} {c : Claim}
    (hqueue : ∀ j ∈ s.clt.heldQueue, ¬reasonFree s j = true) (hlist : s.clt.grantList = front ++ i :: back)
    (hc : claimAt s i = some c) (hdeg : c.degraded = true) (hcls : c.cls ≠ .safety)
    (hother : ∀ j ∈ front ++ back, ¬ActsOn s (fun x => x.degraded = true ∧ x.cls.rank < c.cls.rank) j)
    (hfront : ∀ j ∈ front, ¬ActsOn s (fun x => x.degraded = true ∧ x.cls = c.cls) j) : candidate s = some i := by
  rw [candidate_of_no_free hqueue, hlist]
  refine firstClass_grantedIn_eq_some (before := fun a b => a.rank < b.rank) (by decide) (fun k => Nat.lt_irrefl _)
    (by decide) hc ((degraded_iff c).mp hdeg).1 ?_ hdeg hother hfront
  revert hcls; cases c.cls <;> decide

/-! ### One evaluation's action (R38, R40, R42–R44) -/

/-- In RUN, not CRANKING, the sign of the headroom chooses between shedding and restoring (R28). -/
theorem actionStage_run {s : State} (hrun : s.mdc.mode = .run) (hcrank : s.sbu.crank ≠ .cranking) :
    actionStage s = if headroom s < 0 then deficitStage s else surplusStage (headroom s) s := by
  unfold actionStage
  rw [if_pos ⟨hrun, hcrank⟩]

/-- The first evaluation with negative headroom only counts (R38). -/
theorem deficitStage_first {s : State} (h : s.sbu.deficitRun = 0) : deficitStage s = setRuns 1 0 s := by
  simp [deficitStage, h]

/-- From the second on the victim is shed, if there is one (R38). -/
theorem deficitStage_second {s : State} (h : 0 < s.sbu.deficitRun) :
    deficitStage s = (shedVictim s).elim (setRuns 2 0 s) fun i => shed i (setRuns 0 0 s) := by
  have hd : min 2 (s.sbu.deficitRun + 1) = 2 := by omega
  unfold deficitStage
  rw [hd]
  cases shedVictim s <;> rfl

/-- Above its floor a victim takes a degrade step (R40). -/
theorem shed_above_floor {s : State} {i : SlotIx} {c : Claim} (hc : claimAt s i = some c) (h : c.floor < c.granted) :
    shed i s = modifyClaim i (fun c => { c with state := .granted (c.granted - 1) }) s := by
  unfold shed
  simp only [hc, if_pos h]

/-- At its floor a victim is held (R40). -/
theorem shed_at_floor {s : State} {i : SlotIx} {c : Claim} (hc : claimAt s i = some c) (h : c.granted ≤ c.floor) :
    shed i s = setFlag .claimHeld (makeHeld i budgetHold s) := by
  unfold shed
  simp only [hc, if_neg (Nat.not_lt.mpr h)]

theorem surplusStage_without {s : State} (h : candidate s = none) (room : Int) :
    surplusStage room s = setRuns 0 0 s := by
  unfold surplusStage; rw [h]

/-- A candidate whose need the headroom does not meet starts the surplus run anew (R42). -/
theorem surplusStage_unmet {s : State} {i : SlotIx} {c : Claim} {room : Int} (hi : candidate s = some i)
    (hc : claimAt s i = some c) (h : room < need s c) : surplusStage room s = setRuns 0 0 s := by
  unfold surplusStage
  simp only [hi, hc, if_neg (Int.not_le.mpr h)]

/-- The first evaluation whose headroom meets the need only counts (R42). -/
theorem surplusStage_first {s : State} {i : SlotIx} {c : Claim} {room : Int} (hi : candidate s = some i)
    (hc : claimAt s i = some c) (h : need s c ≤ room) (hrun : s.sbu.surplusRun = 0) :
    surplusStage room s = setRuns 0 1 s := by
  unfold surplusStage
  simp [hi, hc, h, hrun]

/-- The second acts on the candidate (R42). -/
theorem surplusStage_second {s : State} {i : SlotIx} {c : Claim} {room : Int} (hi : candidate s = some i)
    (hc : claimAt s i = some c) (h : need s c ≤ room) (hrun : 0 < s.sbu.surplusRun) :
    surplusStage room s = takeBack room i (setRuns 0 0 s) := by
  have htwo : 2 ≤ s.sbu.surplusRun + 1 := by omega
  unfold surplusStage
  simp only [hi, hc, if_pos h, if_pos htwo]

theorem need_held {s : State} {c : Claim} (h : c.isHeld = true) : need s c = claimShare s c c.floor + 10 := by
  simp [need, h]

theorem need_granted {s : State} {c : Claim} {g : Nat} (h : c.state = .granted g) :
    need s c = (claimShare s c (g + 1) : Int) - claimShare s c g + 10 := by
  simp [need, not_held_of_state h, granted_of_state h]

/-- The highest level that fits is the one that fits with none above it fitting (R35, R43). -/
theorem fittingLevel_eq_some {s : State} {c : Claim} {room : Int} {l : Nat} (hfloor : c.floor ≤ l)
    (hreq : l ≤ c.requested) (hfits : (claimShare s c l : Int) ≤ room)
    (hmax : ∀ l', l < l' → l' ≤ c.requested → room < claimShare s c l') : fittingLevel s c room = some l := by
  have hback : c.requested - (c.requested - l) = l := by omega
  have hfind : (List.range (c.requested + 1 - c.floor)).find?
      (fun n => decide ((claimShare s c (c.requested - n) : Int) ≤ room)) = some (c.requested - l) := by
    refine List.find?_range_eq_some.mpr ⟨by simpa [hback] using hfits, by simp; omega, fun n hn => ?_⟩
    simpa using hmax (c.requested - n) (by omega) (by omega)
  unfold fittingLevel levelsDown
  rw [List.find?_map, Function.comp_def, hfind, Option.map_some, hback]

/-- The level at which a HELD candidate comes back (R43). -/
def restoreLevel (s : State) (c : Claim) (room : Int) : Nat :=
  match c.mode with
  | .flash => c.requested
  | .steady => (fittingLevel s c (room - 10)).getD c.floor

theorem restoreLevel_eq {s : State} {c : Claim} {room : Int} {l : Nat} (hfloor : c.floor ≤ l) (hreq : l ≤ c.requested)
    (hfits : (claimShare s c l : Int) + 10 ≤ room) (hflash : c.mode = .flash → l = c.requested)
    (hmax : c.mode = .steady → ∀ l', l < l' → l' ≤ c.requested → ¬(claimShare s c l' : Int) + 10 ≤ room) :
    restoreLevel s c room = l := by
  unfold restoreLevel
  cases hmode : c.mode with
  | flash => exact (hflash hmode).symm
  | steady =>
    have hfit : fittingLevel s c (room - 10) = some l :=
      fittingLevel_eq_some hfloor hreq (by omega) fun l' hl hl' => by
        have := hmax hmode l' hl hl'
        omega
    simp [hfit]

theorem takeBack_held {s : State} {i : SlotIx} {c : Claim} (hc : claimAt s i = some c) (h : c.isHeld = true)
    (room : Int) : takeBack room i s = setFlag .claimRestored
      (makeGranted i (restoreLevel s c room) (claimShare s c (restoreLevel s c room)) s) := by
  cases hmode : c.mode <;> simp [takeBack, restoreLevel, hc, h, hmode]

theorem takeBack_granted {s : State} {i : SlotIx} {c : Claim} {g : Nat} (hc : claimAt s i = some c)
    (h : c.state = .granted g) (room : Int) :
    takeBack room i s = stepLevel i (g + 1) (claimShare s c (g + 1) - claimShare s c g) s := by
  unfold takeBack
  simp [hc, not_held_of_state h, granted_of_state h]

/-! ### The evaluation as a whole (R28) -/

@[simp] theorem formFiltered_mdc (s : State) : (formFiltered s).mdc = s.mdc := by
  unfold formFiltered; split <;> rfl

@[simp] theorem formFiltered_sws (s : State) : (formFiltered s).sws = s.sws := by
  unfold formFiltered; split <;> rfl

theorem evaluationStages_eq (s : State) : evaluationStages s = actionStage (countStages (measureStage s)) := rfl

@[simp] theorem evaluationStages_mdc (s : State) : (evaluationStages s).mdc = s.mdc := by
  simp [evaluationStages, countStages, measureStage]

@[simp] theorem evaluationStages_sws (s : State) : (evaluationStages s).sws = s.sws := by
  simp [evaluationStages, countStages, measureStage]

theorem freshPass_congr {s t : State} (h : s.sws = t.sws) : freshPass s = freshPass t := by
  unfold freshPass; rw [h]

theorem beginRequested_bde (s : State) : (beginRequested s).bde =
    if s.mdc.mode = .run ∧ s.bde.pass = none ∧ s.bde.passRequested = true then
      { s.bde with pass := some (freshPass s), passRequested := false } else s.bde := by
  unfold beginRequested
  simp only [Bool.and_eq_true, beq_iff_eq, Option.isNone_iff_eq_none, and_assoc]
  split <;> rfl

/-- Handing circuits over touches the outputs alone (R8). -/
theorem outputsAside_withHandOver (f : State → State) (s : State) :
    OutputsAside (f s) (refreshDemands (withHandOver f s)) := by
  unfold OutputsAside withHandOver
  simp

/-- A requested pass begins alike in two states that differ in the outputs (R126). -/
theorem outputsAside_beginRequested {s t : State} (h : OutputsAside s t) :
    OutputsAside { s with bde := (beginRequested s).bde } (beginRequested t) := by
  obtain ⟨hclt, hsbu, hin, hpend, hsws, hbde, hgau, hlif, hmdc, hpins, hstore, hfree, hqueue⟩ := h
  have hbegun : (beginRequested t).bde = (beginRequested s).bde := by
    rw [beginRequested_bde, beginRequested_bde, hmdc, hbde, freshPass_congr hsws]
  unfold OutputsAside
  simp [*]

/-- The pass that begins at an evaluation's end judges the codes that stood at its start. -/
theorem bde_begun_after_stages (s : State) : (beginRequested (evaluationStages s)).bde =
    if s.mdc.mode = .run ∧ (evaluationStages s).bde.pass = none ∧ (evaluationStages s).bde.passRequested = true then
      { (evaluationStages s).bde with pass := some (freshPass s), passRequested := false }
    else (evaluationStages s).bde := by
  rw [beginRequested_bde, evaluationStages_mdc, freshPass_congr (evaluationStages_sws s)]

/-- An evaluation's effect: its stages, then what follows from them. -/
theorem exec_budgetEvaluation {s : State} (hawake : Awake s) (hmode : s.mdc.mode = .run ∨ s.mdc.mode = .quiesced) :
    exec .budgetEvaluation s
      = after (beginRequested (refreshDemands (withHandOver evaluationStages s))) := by
  have hruns : budgetRuns s = true := by simpa [budgetRuns] using hmode
  change execBudgetEvaluation s = _
  unfold execBudgetEvaluation
  rw [act_run hawake, if_pos hruns]
  rfl

/-! ### The statements -/

/-- Settles O25: the victim is found by the walk of R39, and one claim is shed by R40. -/
theorem shedRule : Obligations.ShedRule := by
  unfold Obligations.ShedRule
  refine ⟨fun s hawake hmode => ⟨_, exec_budgetEvaluation hawake hmode, ?_⟩, ?_⟩
  · have hend := outputsAside_beginRequested (outputsAside_withHandOver evaluationStages s)
    rw [bde_begun_after_stages, evaluationStages_eq] at hend
    exact hend
  · intro s hrun hcrank hneg calm shedable
    have hstage : actionStage s = deficitStage s := by rw [actionStage_run hrun hcrank, if_pos hneg]
    rw [hstage]
    refine ⟨deficitStage_first, fun hcount => ⟨fun hnone => ?_, ?_⟩⟩
    · rw [deficitStage_second hcount, shedVictim_eq_none hnone]
      rfl
    · intro front back i c g hlist hc hst hcls hother hback
      have hvictim : shedVictim s = some i :=
        shedVictim_eq_some hlist hc (not_held_of_state hst) hcls hother hback
      have hshed : deficitStage s = shed i (setRuns 0 0 s) := by rw [deficitStage_second hcount, hvictim]; rfl
      have hg : c.granted = g := granted_of_state hst
      rw [hshed]
      constructor
      · intro hfloor
        rw [shed_above_floor (s := setRuns 0 0 s) hc (by omega)]
        refine ⟨modifyClaim i (fun c => { c with state := .granted (c.granted - 1) }) s, rfl, rfl, ⟨rfl, rfl⟩, ?_⟩
        rw [← hg]
        exact oneRecord_modifyClaim hc _
      · intro hfloor
        rw [shed_at_floor (s := setRuns 0 0 s) hc (by omega)]
        refine ⟨makeHeld i budgetHold s, rfl, rfl, oneRecord_makeHeld hc budgetHold, makeHeld_grantList .., fun j =>
          mem_makeHeld_heldQueue .., fun hexact => ?_⟩
        obtain ⟨-, -, -, -, hsorted⟩ := hexact
        exact joinsHeld_makeHeld hsorted i budgetHold

/-- Settles O26: the candidate is found by the walks of R41, and it is restored by R43 or raised by R44. -/
theorem restoreRule : Obligations.RestoreRule := by
  unfold Obligations.RestoreRule
  intro s hrun hcrank hroom calm free degraded
  have hstage : actionStage s = surplusStage (headroom s) s := by
    rw [actionStage_run hrun hcrank, if_neg (Int.not_lt.mpr hroom)]
  rw [hstage]
  have hfree (j : SlotIx) (h : ¬free j) : ¬reasonFree s j = true := by rwa [reasonFree_iff]
  have hdegraded (j : SlotIx) (p : Claim → Prop) (h : ¬degraded j p) :
      ¬ActsOn s (fun x => x.degraded = true ∧ p x) j := by
    rintro ⟨x, hx, hg, hcls, hdeg, hp⟩
    exact h ⟨x, hx, hg, ((degraded_iff x).mp hdeg).2, hcls, hp⟩
  refine ⟨fun hqueue hlist => ?_, ?_, ?_⟩
  · have hnone : candidate s = none :=
      candidate_eq_none (fun j hj => hfree j (hqueue j hj)) fun j hj => hdegraded j _ (hlist j hj)
    exact surplusStage_without hnone _
  · intro front back i c hqueue hfront hc hst fits
    have hi : candidate s = some i :=
      candidate_of_free hqueue (fun j hj => hfree j (hfront j hj)) ((reasonFree_iff s i).mpr ⟨c, hc, hst⟩)
    have hneed : need s c = claimShare s c c.floor + 10 := need_held (held_of_state hst)
    refine ⟨fun hunmet => surplusStage_unmet hi hc (by simpa [hneed, fits] using hunmet), fun hmet hcount =>
      surplusStage_first hi hc (by simpa [hneed, fits] using hmet) hcount, ?_⟩
    intro l hmet hcount hfloor hreq hfits hflash hsteady
    have hlevel : restoreLevel (setRuns 0 0 s) c (headroom s) = l :=
      restoreLevel_eq hfloor hreq hfits hflash hsteady
    rw [surplusStage_second hi hc (by simpa [hneed, fits] using hmet) hcount,
      takeBack_held (s := setRuns 0 0 s) hc (held_of_state hst), hlevel]
    exact ⟨makeGranted i l (claimShare s c l) s, rfl, rfl, oneRecord_makeGranted hc .., joinsGranted_makeGranted ..⟩
  · intro front back i c g hqueue hlist hc hst hdeg hcls hother hfront added
    have hi : candidate s = some i :=
      candidate_of_degraded (fun j hj => hfree j (hqueue j hj)) hlist hc
        ((degraded_iff c).mpr ⟨not_held_of_state hst, by rwa [granted_of_state hst]⟩) hcls
        (fun j hj => hdegraded j _ (hother j hj)) fun j hj => hdegraded j _ (hfront j hj)
    have hneed : need s c = added + 10 := need_granted hst
    refine ⟨fun hunmet => surplusStage_unmet hi hc (hneed ▸ hunmet), fun hmet hcount =>
      surplusStage_first hi hc (hneed ▸ hmet) hcount, fun hmet hcount => ?_⟩
    rw [surplusStage_second hi hc (hneed ▸ hmet) hcount, takeBack_granted (s := setRuns 0 0 s) hc hst]
    exact ⟨stepLevel i (g + 1) (claimShare s c (g + 1) - claimShare s c g) s, rfl, rfl, ⟨rfl, rfl⟩,
      oneRecord_modifyClaim hc fun c => { c with state := .granted (g + 1), settle := addSettle _ c.settle }⟩

end Sys2Proof.Machine

/-! PROOFS. From the claims to the outputs (R54–R62): what a circuit resolves to, whom a FLASHING circuit puts into the
flash set, what demand a channel has, and what a hand-over leaves; the statements O30 and O31. -/

namespace Sys2Proof.Machine

/-! ### Lists and tables -/

/-- The greatest element of a list over 0 is reached and bounds every element. -/
theorem foldl_max_spec (xs : List Nat) :
    xs.foldl max 0 ∈ 0 :: xs ∧ ∀ n ∈ 0 :: xs, n ≤ xs.foldl max 0 :=
  List.max?_eq_some_iff.mp List.max?_cons'

theorem foldl_max_eq {xs : List Nat} {n : Nat} (hn : n ∈ xs) (hmax : ∀ m ∈ xs, m ≤ n) : xs.foldl max 0 = n := by
  obtain ⟨hmem, hbound⟩ := foldl_max_spec xs
  refine le_antisymm ?_ (hbound n (List.mem_cons_of_mem 0 hn))
  rcases List.mem_cons.mp hmem with hzero | hmem
  · omega
  · exact hmax _ hmem

theorem any_toList_iff {α : Type} {n : Nat} (v : Vector α n) (p : α → Bool) :
    v.toList.any p = true ↔ ∃ i, p (v.get i) = true := by
  simp only [vector_toList_eq_ofFn, List.any_eq_true, List.mem_ofFn, exists_exists_eq_and]

/-! ### The resolved state of a circuit (R54) -/

/-- A GRANTED claim on a circuit. -/
def GrantedOn (s : State) (c : Circ) (x : Claim) : Prop :=
  ∃ i, claimAt s i = some x ∧ x.circuit = c ∧ x.isHeld = false

theorem mem_claimsOn (s : State) (c : Circ) (x : Claim) :
    x ∈ claimsOn s c ↔ ∃ i, claimAt s i = some x ∧ x.circuit = c := by
  have hlive (i : SlotIx) (h : claimAt s i = some x) : i ∈ liveSlots s.clt :=
    (mem_liveSlots ..).mpr (Option.isSome_of_eq_some h)
  simp only [claimsOn, List.mem_filterMap, Option.filter_eq_some_iff, decide_eq_true_eq]
  exact ⟨fun ⟨i, _, h, hc⟩ => ⟨i, h, hc⟩, fun ⟨i, h, hc⟩ => ⟨i, hlive i h, h, hc⟩⟩

/-- The claims that a circuit is resolved from are the GRANTED claims on it. -/
theorem mem_granted_claimsOn (s : State) (c : Circ) (x : Claim) :
    x ∈ (claimsOn s c).filter (fun cl => !cl.isHeld) ↔ GrantedOn s c x := by
  simp only [List.mem_filter, mem_claimsOn, Bool.not_eq_true', GrantedOn, ← exists_and_right, and_assoc]

theorem resolve_eq_flashing {s : State} {c : Circ} {x : Claim} (hx : GrantedOn s c x) (hflash : x.mode = .flash) :
    resolve s c = .flashing := by
  unfold resolve
  dsimp only
  rw [if_pos]
  exact List.any_eq_true.mpr ⟨x, (mem_granted_claimsOn ..).mpr hx, decide_eq_true hflash⟩

/-- Without a GRANTED FLASH claim a circuit resolves from the levels of its GRANTED claims. -/
theorem resolve_of_steady {s : State} {c : Circ} (hsteady : ∀ x, GrantedOn s c x → x.mode = .steady) :
    resolve s c =
      (let granted := (claimsOn s c).filter fun cl => !cl.isHeld
       if granted.isEmpty then .off
       else .steady ((granted.map Claim.granted).foldl max 0 * 1000 / (s.crs.inForce.get c).maxLevel)) := by
  unfold resolve
  dsimp only
  rw [if_neg]
  · rfl
  · intro h
    obtain ⟨x, hx, hflash⟩ := List.any_eq_true.mp h
    rw [decide_eq_true_eq, hsteady x ((mem_granted_claimsOn ..).mp hx)] at hflash
    cases hflash

theorem resolve_eq_steady {s : State} {c : Circ} {top : Claim} (hsteady : ∀ x, GrantedOn s c x → x.mode = .steady)
    (htop : GrantedOn s c top) (hmax : ∀ x, GrantedOn s c x → x.granted ≤ top.granted) :
    resolve s c = .steady (top.granted * 1000 / (s.crs.inForce.get c).maxLevel) := by
  have hmem := (mem_granted_claimsOn ..).mpr htop
  rw [resolve_of_steady hsteady]
  dsimp only
  rw [if_neg (by simpa using List.ne_nil_of_mem hmem), foldl_max_eq (List.mem_map_of_mem hmem)]
  intro n hn
  obtain ⟨x, hx, rfl⟩ := List.mem_map.mp hn
  exact hmax x ((mem_granted_claimsOn ..).mp hx)

theorem resolve_eq_off {s : State} {c : Circ} (hnone : ∀ x, ¬GrantedOn s c x) : resolve s c = .off := by
  rw [resolve_of_steady fun x hx => absurd hx (hnone x)]
  dsimp only
  rw [if_pos]
  exact List.isEmpty_iff.mpr (List.eq_nil_iff_forall_not_mem.mpr fun x hx => hnone x ((mem_granted_claimsOn ..).mp hx))

/-- A circuit resolves from the claims and the table in force alone. -/
theorem resolve_congr {s t : State} (hclt : t.clt = s.clt) (hin : t.crs.inForce = s.crs.inForce) (c : Circ) :
    resolve t c = resolve s c := by
  unfold resolve claimsOn claimAt maxLevelOf
  rw [hclt, hin]

/-! ### Flashing channels (R58) and the flasher phase -/

theorem mem_circuitsNaming (s : State) (ch : Chan) (c : Circ) :
    c ∈ circuitsNaming s ch ↔ ch ∈ (s.crs.inForce.get c).channels := by
  simp [circuitsNaming]

theorem any_circuitsNaming_flashing (s : State) (ch : Chan) :
    ((circuitsNaming s ch).any fun c => s.crs.resolved.get c = .flashing) = true
      ↔ ∃ c, ch ∈ (s.crs.inForce.get c).channels ∧ s.crs.resolved.get c = .flashing := by
  simp only [List.any_eq_true, mem_circuitsNaming, decide_eq_true_eq]

theorem isLamp_iff (k : ChanKind) : k.isLamp = true ↔ k = .filament ∨ k = .led ∨ k = .motor := by
  cases k <;> decide

theorem flashes_iff (s : State) (ch : Chan) : flashes s ch = true ↔
    (s.chd.get ch).profile.kind.isLamp = true
      ∧ ∃ c, ch ∈ (s.crs.inForce.get c).channels ∧ s.crs.resolved.get c = .flashing := by
  unfold flashes
  rw [Bool.and_eq_true, any_circuitsNaming_flashing]

theorem isLit_iff (p : Phase) : p.isLit = true ↔ ∃ rate n checks, p = .lit rate n checks := by
  cases p <;> simp [Phase.isLit]

@[simp] theorem isLit_modifyCheck (ch : Chan) (f : CheckEntry → CheckEntry) (p : Phase) :
    (p.modifyCheck ch f).isLit = p.isLit := by
  cases p <;> rfl

@[simp] theorem modifyCheck_eq_idle (ch : Chan) (f : CheckEntry → CheckEntry) (p : Phase) :
    p.modifyCheck ch f = .idle ↔ p = .idle := by
  cases p <;> simp [Phase.modifyCheck]

@[simp] theorem isLit_follow (old new : Vector Bool 20) (p : Phase) : (p.follow old new).isLit = p.isLit := by
  cases p <;> simp only [Phase.follow, Phase.isLit]

@[simp] theorem follow_eq_idle (old new : Vector Bool 20) (p : Phase) : p.follow old new = .idle ↔ p = .idle := by
  cases p <;> simp [Phase.follow]

/-- A start puts the Flasher into LIT (R69). -/
theorem isLit_start (flashSet : Vector Bool 20) (f : Flasher) : (f.start flashSet).phase.isLit = true := by
  unfold Flasher.start Flasher.beginLit Flasher.pulse
  dsimp only
  split <;> rfl

theorem ne_idle_of_isLit {p : Phase} (h : p.isLit = true) : p ≠ .idle := by
  rintro rfl
  cases h

/-- The Flasher brought into line follows the indication and the mode, however it stood (R69, R70). -/
theorem syncFlasher_follows (s : State) : FlasherFollows (syncFlasher s) := by
  have hrun : (s.crs.flashPresent && s.mdc.mode == .run) = true ↔ s.crs.flashPresent = true ∧ s.mdc.mode = .run := by
    simp
  unfold FlasherFollows
  rw [syncFlasher_crs, syncFlasher_mdc, ← hrun]
  unfold syncFlasher
  split
  · next h =>
    split
    · simp only [h, iff_true]
      exact ne_idle_of_isLit (isLit_start ..)
    · next hphase => simp only [h, iff_true]; exact hphase
  · next h =>
    split
    · next hphase => simp [h, hphase]
    · simp [h, Flasher.stop]

theorem syncFlasher_of_running {s : State} (hpresent : s.crs.flashPresent = true) (hmode : s.mdc.mode = .run)
    (hphase : s.fls.phase ≠ .idle) : syncFlasher s = s := by
  unfold syncFlasher
  rw [if_pos (by simp [hpresent, hmode]), if_neg hphase]

/-! ### The demand of a channel (R57, R59, R60, R62) -/

section demand

variable {s : State} {ch : Chan}

theorem lampDemand_of_flashing {c : Circ} (hnames : ch ∈ (s.crs.inForce.get c).channels)
    (hflash : s.crs.resolved.get c = .flashing) :
    lampDemand s ch = if s.fls.phase.isLit then 1000 else 0 := by
  unfold lampDemand
  dsimp only
  rw [List.any_map, if_pos]
  exact (any_circuitsNaming_flashing s ch).mpr ⟨c, hnames, hflash⟩

theorem lampDemand_of_not_flashing
    (hnone : ∀ c, ch ∈ (s.crs.inForce.get c).channels → s.crs.resolved.get c ≠ .flashing) :
    lampDemand s ch = ((circuitsNaming s ch).map fun c => (s.crs.resolved.get c).demand).foldl max 0 := by
  unfold lampDemand
  dsimp only
  rw [List.any_map, if_neg, List.map_map]
  · rfl
  · intro h
    obtain ⟨c, hnames, hflash⟩ := (any_circuitsNaming_flashing s ch).mp h
    exact hnone c hnames hflash

/-- Without a FLASHING circuit the demand is the highest steady demand of the circuits that name the channel (R57). -/
theorem lampDemand_highest
    (hnone : ∀ c, ch ∈ (s.crs.inForce.get c).channels → s.crs.resolved.get c ≠ .flashing) :
    (∀ c n, ch ∈ (s.crs.inForce.get c).channels → s.crs.resolved.get c = .steady n → n ≤ lampDemand s ch)
      ∧ (0 < lampDemand s ch → ∃ c, ch ∈ (s.crs.inForce.get c).channels
          ∧ s.crs.resolved.get c = .steady (lampDemand s ch)) := by
  rw [lampDemand_of_not_flashing hnone]
  obtain ⟨hmem, hbound⟩ := foldl_max_spec ((circuitsNaming s ch).map fun c => (s.crs.resolved.get c).demand)
  refine ⟨fun c n hnames hn => hbound n ?_, fun hpos => ?_⟩
  · exact List.mem_cons_of_mem 0 (List.mem_map.mpr ⟨c, (mem_circuitsNaming ..).mpr hnames, by rw [hn]; rfl⟩)
  · rcases List.mem_cons.mp hmem with hzero | hmem
    · omega
    · obtain ⟨c, hc, hd⟩ := List.mem_map.mp hmem
      refine ⟨c, (mem_circuitsNaming ..).mp hc, ?_⟩
      rw [← hd] at hpos ⊢
      cases h : s.crs.resolved.get c with
      | steady n => rfl
      | off => simp [h, Resolved.demand] at hpos
      | flashing => simp [h, Resolved.demand] at hpos

theorem channelDemand_outside_run (h : s.mdc.mode ≠ .run) : channelDemand s ch = 0 := by
  unfold channelDemand
  rw [if_pos h]

theorem channelDemand_unused (h : (s.chd.get ch).profile.kind = .unused) : channelDemand s ch = 0 := by
  unfold channelDemand
  simp only [h, ite_self]

theorem channelDemand_lamp (hmode : s.mdc.mode = .run) (h : (s.chd.get ch).profile.kind.isLamp = true) :
    channelDemand s ch = lampDemand s ch := by
  unfold channelDemand
  rw [if_neg (not_not_intro hmode)]
  rcases (isLamp_iff _).mp h with h | h | h <;> simp only [h]

theorem channelDemand_telltale {src : TellSource} {on : Prop} (hmode : s.mdc.mode = .run)
    (hkind : (s.chd.get ch).profile.kind = .telltale) (hsrc : (s.chd.get ch).profile.source = some src)
    (hlit : sourceLit s src = true ↔ on) : (on → channelDemand s ch = 1000) ∧ (¬on → channelDemand s ch = 0) := by
  have hdemand : channelDemand s ch = if sourceLit s src then 1000 else 0 := by
    unfold channelDemand
    rw [if_neg (not_not_intro hmode)]
    simp only [hkind, hsrc]
  rw [hdemand]
  exact ⟨fun hon => if_pos (hlit.mpr hon), fun hoff => if_neg (mt hlit.mp hoff)⟩

end demand

/-! ### The sources of the tell-tales (R60) -/

theorem sourceLit_circuit_iff (s : State) (c : Circ) : sourceLit s (.circuit c) = true ↔
    (∃ n, s.crs.resolved.get c = .steady n)
      ∨ s.crs.resolved.get c = .flashing ∧ ∃ rate n checks, s.fls.phase = .lit rate n checks := by
  rw [← isLit_iff]
  cases h : s.crs.resolved.get c <;> simp [sourceLit, h]

theorem sourceLit_charge_iff (s : State) : sourceLit s .charge = true ↔
    acceptedCode s ign = some 1 ∧ s.sbu.charging = .notCharging := by
  simp [sourceLit, ignitionOn]

theorem sourceLit_gaugeHigh_iff (s : State) (g : GaugeIx) (threshold : Nat) :
    sourceLit s (.gaugeHigh g threshold) = true ↔ threshold ≤ (s.gau.get g).filtered :=
  decide_eq_true_iff

theorem sourceLit_openLoad_iff (s : State) : sourceLit s .openLoad = true ↔
    ∃ k, (s.chd.get k).openLoadFlag = true
      ∧ ¬((s.chd.get k).profile.kind = .telltale ∧ (s.chd.get k).profile.source = some .openLoad) := by
  unfold sourceLit
  rw [any_toList_iff]
  simp only [Bool.and_eq_true, Bool.not_eq_true', ← Bool.not_eq_true, beq_iff_eq]

/-- Settles O31, kind by kind, and for a TELLTALE channel source by source. -/
theorem demandRule : Obligations.DemandRule := by
  unfold Obligations.DemandRule
  intro s ch
  refine ⟨?_, channelDemand_outside_run, channelDemand_unused, fun hmode hkind => ?_, fun hmode hkind src hsrc => ?_⟩
  · rw [flashes_iff, isLamp_iff]
  · rw [channelDemand_lamp hmode ((isLamp_iff _).mpr hkind), ← isLit_iff]
    refine ⟨fun c hnames hflash => ?_, lampDemand_highest⟩
    rw [lampDemand_of_flashing hnames hflash]
    exact ⟨fun hlit => if_pos hlit, fun hdark => if_neg hdark⟩
  · refine channelDemand_telltale hmode hkind hsrc ?_
    cases src with
    | circuit c => exact sourceLit_circuit_iff s c
    | flash => exact isLit_iff s.fls.phase
    | charge => exact sourceLit_charge_iff s
    | gaugeHigh g threshold => exact sourceLit_gaugeHigh_iff s g threshold
    | openLoad => exact sourceLit_openLoad_iff s

/-! ### What a hand-over leaves of a channel (R55, R56) -/

theorem lampDemand_congr {s t : State} {ch : Chan} (hin : t.crs.inForce = s.crs.inForce)
    (hres : ∀ c, ch ∈ (s.crs.inForce.get c).channels → t.crs.resolved.get c = s.crs.resolved.get c)
    (hlit : (∃ c, ch ∈ (s.crs.inForce.get c).channels ∧ s.crs.resolved.get c = .flashing) →
      t.fls.phase.isLit = s.fls.phase.isLit) :
    lampDemand t ch = lampDemand s ch := by
  have hnaming : circuitsNaming t ch = circuitsNaming s ch := by unfold circuitsNaming; rw [hin]
  have hmap : (circuitsNaming t ch).map (fun c => t.crs.resolved.get c)
      = (circuitsNaming s ch).map fun c => s.crs.resolved.get c := by
    rw [hnaming]
    exact List.map_congr_left fun c hc => hres c ((mem_circuitsNaming ..).mp hc)
  unfold lampDemand
  rw [hmap]
  dsimp only
  rw [List.any_map]
  split
  · next h => rw [hlit ((any_circuitsNaming_flashing s ch).mp h)]
  · rfl

/-- The demand of a channel that is no tell-tale comes from the mode, its kind, the circuits that name it, and the phase
while one of them is FLASHING. -/
theorem channelDemand_congr {s t : State} {ch : Chan} (hkind : (s.chd.get ch).profile.kind ≠ .telltale)
    (hprofile : (t.chd.get ch).profile = (s.chd.get ch).profile) (hmode : t.mdc = s.mdc)
    (hin : t.crs.inForce = s.crs.inForce)
    (hres : ∀ c, ch ∈ (s.crs.inForce.get c).channels → t.crs.resolved.get c = s.crs.resolved.get c)
    (hlit : (∃ c, ch ∈ (s.crs.inForce.get c).channels ∧ s.crs.resolved.get c = .flashing) →
      t.fls.phase.isLit = s.fls.phase.isLit) :
    channelDemand t ch = channelDemand s ch := by
  unfold channelDemand
  rw [hprofile, hmode, lampDemand_congr hin hres hlit]
  dsimp only
  cases h : (s.chd.get ch).profile.kind with
  | telltale => exact absurd h hkind
  | unused | filament | led | motor => rfl

theorem isLit_refreshDemand (s : State) (a : Chan) : (refreshDemand s a).fls.phase.isLit = s.fls.phase.isLit := by
  unfold refreshDemand handDemand modifyChannel
  dsimp only
  split
  · rfl
  · split
    · rfl
    · exact isLit_modifyCheck ..

theorem refreshDemand_phase_eq_idle (s : State) (a : Chan) :
    (refreshDemand s a).fls.phase = .idle ↔ s.fls.phase = .idle := by
  unfold refreshDemand handDemand modifyChannel
  dsimp only
  split
  · rfl
  · split
    · rfl
    · exact modifyCheck_eq_idle ..

theorem refreshDemands_phase_eq_idle (s : State) : (refreshDemands s).fls.phase = .idle ↔ s.fls.phase = .idle := by
  unfold refreshDemands
  induction List.finRange 20 generalizing s with
  | nil => rfl
  | cons a as ih => exact (ih (refreshDemand s a)).trans (refreshDemand_phase_eq_idle s a)

/-- A channel that has its demand keeps record and demand while another, or itself, is handed its own (R56). -/
theorem refreshDemand_of_settled {s : State} {ch : Chan} (hkind : (s.chd.get ch).profile.kind ≠ .telltale)
    (hdemand : (s.chd.get ch).demand = channelDemand s ch) (a : Chan) :
    (refreshDemand s a).chd.get ch = s.chd.get ch ∧ channelDemand (refreshDemand s a) ch = channelDemand s ch := by
  have hchannel : (refreshDemand s a).chd.get ch = s.chd.get ch := by
    unfold refreshDemand
    dsimp only
    split
    · rfl
    · next hchanged =>
      rw [chd_handDemand, if_neg]
      rintro rfl
      exact hchanged hdemand.symm
  refine ⟨hchannel, channelDemand_congr hkind (by rw [hchannel]) (by simp) (by simp) (by simp) fun _ => ?_⟩
  exact isLit_refreshDemand s a

theorem refreshDemands_of_settled {s : State} {ch : Chan} (hkind : (s.chd.get ch).profile.kind ≠ .telltale)
    (hdemand : (s.chd.get ch).demand = channelDemand s ch) :
    (refreshDemands s).chd.get ch = s.chd.get ch ∧ channelDemand (refreshDemands s) ch = channelDemand s ch := by
  unfold refreshDemands
  induction List.finRange 20 generalizing s with
  | nil => exact ⟨rfl, rfl⟩
  | cons a as ih =>
    obtain ⟨hchannel, hsame⟩ := refreshDemand_of_settled hkind hdemand a
    obtain ⟨hchannel', hsame'⟩ := ih (s := refreshDemand s a) (by rwa [hchannel]) (by rw [hchannel, hsame, hdemand])
    exact ⟨hchannel'.trans hchannel, hsame'.trans hsame⟩

/-- A state in RUN whose outputs follow the resolved circuits, as far as the channel `ch` goes. -/
structure OutputsFollow (s : State) (ch : Chan) : Prop where
  run : s.mdc.mode = .run
  flasher : FlasherFollows s
  present : s.crs.flashPresent = s.crs.resolved.toList.any fun r => r = .flashing
  member : s.crs.flashSet.get ch = flashes s ch
  demand : (s.chd.get ch).demand = channelDemand s ch

theorem flashes_congr {s t : State} {ch : Chan} (hprofile : (t.chd.get ch).profile = (s.chd.get ch).profile)
    (hin : t.crs.inForce = s.crs.inForce)
    (hres : ∀ c, ch ∈ (s.crs.inForce.get c).channels → t.crs.resolved.get c = s.crs.resolved.get c) :
    flashes t ch = flashes s ch := by
  rw [Bool.eq_iff_iff, flashes_iff, flashes_iff, hprofile, hin]
  refine and_congr_right fun _ => exists_congr fun c => and_congr_right fun hnames => ?_
  rw [hres c hnames]

theorem reformFlashSet_member (s : State) (ch : Chan) :
    (reformFlashSet s).crs.flashSet.get ch = flashes s ch := by
  simp [reformFlashSet]

theorem chd_reformFlashSet (s : State) (ch : Chan) : (reformFlashSet s).chd.get ch =
    if flashes s ch && !s.crs.flashSet.get ch then (s.chd.get ch).clearTimes else s.chd.get ch := by
  simp [reformFlashSet, Channel.clearTimes]

theorem reformFlashSet_resolved (s : State) : (reformFlashSet s).crs.resolved = s.crs.resolved := by
  simp [reformFlashSet]

theorem indicate_resolved (s : State) : (indicate s).crs.resolved = s.crs.resolved := by
  simp [indicate]

theorem indicate_flashSet (s : State) : (indicate s).crs.flashSet = s.crs.flashSet := by
  simp [indicate]

/-- One circuit stands resolved from its claims; nothing has followed it yet. -/
def putResolved (s : State) (c : Circ) : State :=
  { s with crs := { s.crs with resolved := put s.crs.resolved c (resolve s c) } }

/-- One circuit stands resolved, the flash set is formed afresh and the Flasher brought into line: the re-resolution of
the circuit up to the demands (R56). -/
def reresolved (s : State) (c : Circ) : State := indicate (reformFlashSet (putResolved s c))

theorem resolveCircuit_eq (s : State) (c : Circ) : resolveCircuit s c = refreshDemands (reresolved s c) := rfl

section reresolved

variable (s : State) (c : Circ)

@[simp] theorem reresolved_mdc : (reresolved s c).mdc = s.mdc := by simp [reresolved, putResolved]

@[simp] theorem reresolved_inForce : (reresolved s c).crs.inForce = s.crs.inForce := by
  simp [reresolved, putResolved]

@[simp] theorem reresolved_resolved : (reresolved s c).crs.resolved = put s.crs.resolved c (resolve s c) := by
  rw [reresolved, indicate_resolved, reformFlashSet_resolved, putResolved]

theorem reresolved_present : (reresolved s c).crs.flashPresent
    = (reresolved s c).crs.resolved.toList.any fun r => r = .flashing := by
  simp [reresolved, indicate]

theorem reresolved_follows : FlasherFollows (reresolved s c) := syncFlasher_follows _

theorem chd_reresolved (ch : Chan) : (reresolved s c).chd.get ch =
    if flashes (putResolved s c) ch && !s.crs.flashSet.get ch then (s.chd.get ch).clearTimes else s.chd.get ch := by
  rw [reresolved, indicate_chd, chd_reformFlashSet]
  rfl

theorem reresolved_profile (ch : Chan) : ((reresolved s c).chd.get ch).profile = (s.chd.get ch).profile := by
  rw [chd_reresolved]
  split <;> rfl

theorem reresolved_member (ch : Chan) : (reresolved s c).crs.flashSet.get ch = flashes (reresolved s c) ch := by
  have hset : (reresolved s c).crs.flashSet.get ch = flashes (putResolved s c) ch := by
    rw [reresolved, indicate_flashSet, reformFlashSet_member]
  rw [hset]
  refine (flashes_congr (s := putResolved s c) (reresolved_profile s c ch) (reresolved_inForce s c) fun k _ => ?_).symm
  rw [reresolved_resolved, putResolved]

variable {s c} {ch : Chan}

theorem put_resolved_of_names (hc : ch ∉ (s.crs.inForce.get c).channels) {k : Circ}
    (hk : ch ∈ (s.crs.inForce.get k).channels) (r : Resolved) :
    (put s.crs.resolved c r).get k = s.crs.resolved.get k := by
  refine put_get_ne ?_
  rintro rfl
  exact hc hk

/-- A channel that the circuit does not name neither joins nor leaves the flash set, so its record stands. -/
theorem reresolved_channel (h : OutputsFollow s ch) (hc : ch ∉ (s.crs.inForce.get c).channels) :
    (reresolved s c).chd.get ch = s.chd.get ch := by
  have hflashes : flashes (putResolved s c) ch = flashes s ch :=
    flashes_congr rfl rfl fun k hk => put_resolved_of_names hc hk _
  rw [chd_reresolved, hflashes, h.member]
  simp

/-- While a circuit other than the one re-resolved is FLASHING the Flasher runs on in its phase (R69, R74). -/
theorem reresolved_isLit (h : OutputsFollow s ch) {k : Circ} (hne : c ≠ k)
    (hflash : s.crs.resolved.get k = .flashing) :
    (reresolved s c).fls.phase.isLit = s.fls.phase.isLit := by
  have hpresent : s.crs.flashPresent = true := by
    rw [h.present]
    exact (any_toList_iff ..).mpr ⟨k, decide_eq_true hflash⟩
  have hrunning : s.fls.phase ≠ .idle := h.flasher.mpr ⟨hpresent, h.run⟩
  unfold reresolved indicate
  rw [syncFlasher_of_running]
  · simp [reformFlashSet, putResolved]
  · refine (any_toList_iff ..).mpr ⟨k, decide_eq_true ?_⟩
    rw [reformFlashSet_resolved, putResolved, put_get_ne hne, hflash]
  · simpa [putResolved] using h.run
  · simpa [reformFlashSet, putResolved] using hrunning

end reresolved

/-- The re-resolution of a circuit moves nothing of a channel that the circuit does not name, unless it is a tell-tale,
and the outputs follow again (R55, R56). -/
theorem resolveCircuit_of_not_named {s : State} {ch : Chan} {c : Circ}
    (hkind : (s.chd.get ch).profile.kind ≠ .telltale) (h : OutputsFollow s ch)
    (hc : ch ∉ (s.crs.inForce.get c).channels) :
    (resolveCircuit s c).chd.get ch = s.chd.get ch ∧ OutputsFollow (resolveCircuit s c) ch := by
  have hchannel := reresolved_channel h hc
  have hdemand : channelDemand (reresolved s c) ch = channelDemand s ch := by
    refine channelDemand_congr hkind (by rw [hchannel]) (by simp) (by simp) (fun k hk => ?_) fun ⟨k, hk, hflash⟩ => ?_
    · rw [reresolved_resolved, put_resolved_of_names hc hk]
    · refine reresolved_isLit h ?_ hflash
      rintro rfl
      exact hc hk
  obtain ⟨hkept, hsame⟩ := refreshDemands_of_settled (s := reresolved s c) (ch := ch) (by rwa [hchannel])
    (by rw [hchannel, hdemand, h.demand])
  rw [resolveCircuit_eq]
  refine ⟨hkept.trans hchannel, ?_, ?_, ?_, ?_, ?_⟩
  · simpa using h.run
  · unfold FlasherFollows
    rw [ne_eq, refreshDemands_phase_eq_idle, refreshDemands_crs, refreshDemands_mdc]
    exact reresolved_follows s c
  · rw [refreshDemands_crs]
    exact reresolved_present s c
  · rw [refreshDemands_crs, reresolved_member]
    exact (flashes_congr (by rw [hkept]) (by simp) (by simp)).symm
  · rw [hkept, hchannel, hsame, hdemand, h.demand]

/-- A hand-over leaves the record of a channel that no handed circuit names, unless it is a tell-tale. -/
theorem handOver_of_not_named {v : Vector Bool 16} {s : State} {ch : Chan}
    (hkind : (s.chd.get ch).profile.kind ≠ .telltale) (h : OutputsFollow s ch)
    (hv : ∀ c, v.get c = true → ch ∉ (s.crs.inForce.get c).channels) :
    (handOver v s).chd.get ch = s.chd.get ch := by
  unfold handOver
  induction List.finRange 16 generalizing s with
  | nil => rfl
  | cons c cs ih =>
    rw [List.foldl_cons]
    split
    · next hc =>
      obtain ⟨hchannel, hfollow⟩ := resolveCircuit_of_not_named hkind h (hv c hc)
      rw [ih (by rwa [hchannel]) hfollow (by simpa using hv), hchannel]
    · exact ih hkind h hv

theorem resolveCircuit_resolved (s : State) (c : Circ) :
    (resolveCircuit s c).crs.resolved = put s.crs.resolved c (resolve s c) := by
  rw [resolveCircuit_eq, refreshDemands_crs, reresolved_resolved]

/-- Re-resolving a list of circuits moves no claim, so each is resolved from the claims as they stood at first. -/
theorem foldl_resolveCircuit_resolved (v : Vector Bool 16) (cs : List Circ) (s : State) (k : Circ) :
    (cs.foldl (fun s c => if v.get c then resolveCircuit s c else s) s).crs.resolved.get k
      = if k ∈ cs ∧ v.get k = true then resolve s k else s.crs.resolved.get k := by
  induction cs generalizing s with
  | nil => simp
  | cons c cs ih =>
    rw [List.foldl_cons, ih]
    by_cases hc : v.get c = true
    · rw [if_pos hc, resolve_congr (resolveCircuit_clt s c) (resolveCircuit_inForce s c), resolveCircuit_resolved,
        put_get]
      by_cases hk : c = k
      · subst hk; simp [hc]
      · simp [hk, Ne.symm hk]
    · rw [if_neg hc]
      by_cases hk : c = k
      · subst hk; simp [hc]
      · simp [Ne.symm hk]

theorem handOver_resolved (v : Vector Bool 16) (s : State) (k : Circ) :
    (handOver v s).crs.resolved.get k = if v.get k then resolve s k else s.crs.resolved.get k := by
  unfold handOver
  rw [foldl_resolveCircuit_resolved]
  simp

/-- A hand-over touches the outputs alone. -/
theorem outputsAside_handOver (v : Vector Bool 16) (s : State) : OutputsAside s (handOver v s) := by
  unfold OutputsAside
  simp

/-- Settles O30, from the resolved state of one circuit and what each re-resolution of a hand-over leaves. -/
theorem resolutionRule : Obligations.ResolutionRule := by
  unfold Obligations.ResolutionRule
  refine ⟨fun s c => ⟨?_, fun hsteady => ⟨?_, ?_⟩⟩, fun v s => ⟨outputsAside_handOver v s, handOver_resolved v s, ?_⟩⟩
  · exact fun ⟨x, hx, hflash⟩ => resolve_eq_flashing hx hflash
  · exact fun top htop hmax => resolve_eq_steady hsteady htop hmax
  · exact fun hnone => resolve_eq_off hnone
  · exact fun hrun hdemands hflasher hpresent hset ch hkind hv =>
      handOver_of_not_named hkind ⟨hrun, hflasher, hpresent, hset ch, hdemands ch⟩ hv

end Sys2Proof.Machine

/-! PROOFS. The Gauge Unit's update: rounded division, status flags, the calibration tables (R141), the reading and its
class (R139, R140), the damping and the duty (R142, R143), the sender-fault judgement (R145–R147), and the statements O48
and O49. -/

namespace Sys2Proof.Machine

/-! ### Rounded division (00_scope.md, "floor(x + ½)") -/

theorem roundDiv_natCast (a b : Nat) : roundDiv a b = ((2 * a + b) / (2 * b) : Nat) := by
  unfold roundDiv
  push_cast
  rfl

/-- A rounded quotient lies within half of the exact one, halves going up. -/
theorem roundDiv_bounds (a : Int) {b : Int} (hb : 0 < b) :
    (2 * roundDiv a b - 1) * b ≤ 2 * a ∧ 2 * a < (2 * roundDiv a b + 1) * b := by
  have hsplit : 2 * b * roundDiv a b + (2 * a + b) % (2 * b) = 2 * a + b := Int.mul_ediv_add_emod ..
  have hlow : 0 ≤ (2 * a + b) % (2 * b) := Int.emod_nonneg _ (by omega)
  have hhigh : (2 * a + b) % (2 * b) < 2 * b := Int.emod_lt_of_pos _ (by omega)
  constructor <;> linarith

theorem le_roundDiv {a b m : Int} (hb : 0 < b) (h : m * b ≤ a) : m ≤ roundDiv a b := by
  refine (Int.le_ediv_iff_mul_le (by omega)).mpr ?_
  linarith

theorem roundDiv_le {a b m : Int} (hb : 0 < b) (h : a ≤ m * b) : roundDiv a b ≤ m := by
  refine Int.lt_add_one_iff.mp ((Int.ediv_lt_iff_lt_mul (by omega)).mpr ?_)
  linarith

/-! ### The status flags (R161, R176) -/

/-- The flags in the order of their positions. -/
def flagsByPos : List Flag :=
  [.reset, .loadDefault, .claimHeld, .claimRestored, .claimExpired, .band, .charge, .crank, .trip, .lock, .openLoad,
    .sender, .tableFull, .storeDone, .storeFail, .wake, .overrun]

theorem flagsByPos_pos (f : Flag) : flagsByPos[f.pos]? = some f := by
  cases f <;> rfl

theorem Flag.pos_injective : Function.Injective Flag.pos := by
  intro f g h
  have hat := flagsByPos_pos f
  rw [h, flagsByPos_pos g] at hat
  exact (Option.some.inj hat).symm

theorem Flag.pos_lt (f : Flag) : f.pos < 17 := by
  cases f <;> decide

theorem Flag.getLsbD_bit (f g : Flag) : f.bit.getLsbD g.pos = decide (g = f) := by
  rw [Flag.bit, ← BitVec.twoPow_eq, BitVec.getLsbD_twoPow]
  simp [f.pos_lt, Flag.pos_injective.eq_iff, eq_comm]

theorem hasFlag_setFlagIf (b : Bool) (f g : Flag) (s : State) :
    hasFlag g (setFlagIf b f s) = (hasFlag g s || (b && decide (g = f))) := by
  unfold hasFlag
  rw [setFlagIf_status]
  cases b <;> simp [Flag.getLsbD_bit]

theorem setFlagIf_lif (b : Bool) (f : Flag) (s : State) :
    (setFlagIf b f s).lif = { s.lif with status := (setFlagIf b f s).lif.status } := by
  cases b <;> rfl

/-! ### The calibration table (R141) -/

section segment

variable {r0 d0 r1 d1 rs : Nat}

/-- The share of a segment's rise that falls to a resistance on it lies between no rise and the whole one. -/
theorem roundDiv_rise_between (h0 : r0 ≤ rs) (h1 : rs < r1) :
    min 0 ((d1 : Int) - d0) ≤ roundDiv (((d1 : Int) - d0) * ((rs : Int) - r0)) ((r1 : Int) - r0)
      ∧ roundDiv (((d1 : Int) - d0) * ((rs : Int) - r0)) ((r1 : Int) - r0) ≤ max 0 ((d1 : Int) - d0) := by
  have hpos : 0 < (r1 : Int) - r0 := by omega
  have hrun : 0 ≤ (rs : Int) - r0 := by omega
  have hrest : 0 ≤ (r1 : Int) - rs := by omega
  rcases le_total (d0 : Int) d1 with hup | hdown
  · have hrise : 0 ≤ (d1 : Int) - d0 := by omega
    rw [min_eq_left hrise, max_eq_right hrise]
    exact ⟨le_roundDiv hpos (by nlinarith), roundDiv_le hpos (by nlinarith)⟩
  · have hfall : (d1 : Int) - d0 ≤ 0 := by omega
    rw [min_eq_right hfall, max_eq_left hfall]
    exact ⟨le_roundDiv hpos (by nlinarith), roundDiv_le hpos (by nlinarith)⟩

/-- On a segment the deflection is the exact value rounded, which is never negative. -/
theorem calibrate_segment (h0 : r0 ≤ rs) (h1 : rs < r1) (rest : List (Nat × Nat)) :
    (calibrate ((r0, d0) :: (r1, d1) :: rest) rs : Int)
      = d0 + roundDiv (((d1 : Int) - d0) * ((rs : Int) - r0)) ((r1 : Int) - r0) := by
  obtain ⟨hlow, -⟩ := roundDiv_rise_between (d0 := d0) (d1 := d1) h0 h1
  rw [calibrate, if_neg (by omega), if_pos h1, Int.toNat_of_nonneg (by omega)]

theorem calibrate_segment_between (h0 : r0 ≤ rs) (h1 : rs < r1) (rest : List (Nat × Nat)) :
    min d0 d1 ≤ calibrate ((r0, d0) :: (r1, d1) :: rest) rs
      ∧ calibrate ((r0, d0) :: (r1, d1) :: rest) rs ≤ max d0 d1 := by
  have hvalue := calibrate_segment (d0 := d0) (d1 := d1) h0 h1 rest
  obtain ⟨hlow, hhigh⟩ := roundDiv_rise_between (d0 := d0) (d1 := d1) h0 h1
  omega

end segment

theorem calibrate_below {r d rs : Nat} (h : rs < r) (rest : List (Nat × Nat)) :
    calibrate ((r, d) :: rest) rs = d := by
  cases rest with
  | nil => rfl
  | cons q rest => rw [calibrate, if_pos h]

theorem calibrate_past {r0 d0 r1 d1 rs : Nat} (h0 : r0 ≤ rs) (h1 : r1 ≤ rs) (rest : List (Nat × Nat)) :
    calibrate ((r0, d0) :: (r1, d1) :: rest) rs = calibrate ((r1, d1) :: rest) rs := by
  rw [calibrate, if_neg (by omega), if_neg (by omega)]

theorem increasing_iff_pairwise (xs : List Nat) : increasing xs = true ↔ xs.Pairwise (· < ·) := by
  rw [← List.isChain_iff_pairwise]
  induction xs with
  | nil => simp [increasing]
  | cons a xs ih =>
    cases xs with
    | nil => simp [increasing]
    | cons b rest => simp [increasing, ih]

/-- The points before one at or below the resistance play no part. -/
theorem calibrate_append {front rest : List (Nat × Nat)} {r d rs : Nat}
    (hinc : increasing ((front ++ (r, d) :: rest).map (·.1)) = true) (h : r ≤ rs) :
    calibrate (front ++ (r, d) :: rest) rs = calibrate ((r, d) :: rest) rs := by
  rw [increasing_iff_pairwise, List.pairwise_map] at hinc
  induction front with
  | nil => rfl
  | cons p front ih =>
    obtain ⟨hp, htail⟩ := List.pairwise_cons.mp hinc
    have hpr : p.1 < r := hp (r, d) (by simp)
    rw [← ih htail]
    cases front with
    | nil => exact calibrate_past (by omega) h rest
    | cons q front =>
      have hqr : q.1 ≤ r := by
        rcases List.pairwise_cons.mp htail with ⟨hq, -⟩
        exact (hq (r, d) (by simp)).le
      exact calibrate_past (by omega) (by omega) _

theorem calibrate_le {m : Nat} {points : List (Nat × Nat)} (hm : ∀ q ∈ points, q.2 ≤ m) (rs : Nat) :
    calibrate points rs ≤ m := by
  induction points with
  | nil => simp [calibrate]
  | cons p rest ih =>
    obtain ⟨hp, hrest⟩ := List.forall_mem_cons.mp hm
    cases rest with
    | nil => exact hp
    | cons q rest =>
      have hq : q.2 ≤ m := hrest q (by simp)
      rcases lt_or_ge rs p.1 with hbelow | h0
      · rwa [calibrate_below hbelow]
      rcases lt_or_ge rs q.1 with h1 | hpast
      · exact (calibrate_segment_between h0 h1 rest).2.trans (max_le hp hq)
      · rw [calibrate_past h0 hpast]
        exact ih hrest

/-! ### The reading and its class (R139, R140) -/

theorem Gauge.reads_of_samples {g : Gauge} {x : Nat} {xs : List Nat} (h : g.samples = x :: xs) (free : Nat) :
    g.reads free = (x + xs.sum) / (xs.length + 1) := by
  simp [Gauge.reads, h, meanNat]

/-- The class of a reading, its sender resistance in natural numbers: an in-range reading is below 4095. -/
theorem classOf_eq (a : Nat) : classOf a =
    if 4080 ≤ a then .openSender else if a ≤ 15 then .short
    else .inRange (min 9999 ((4400 * a + (4095 - a)) / (2 * (4095 - a)))) := by
  unfold classOf
  split
  · rfl
  · next h =>
    have hbelow : (4095 - (a : Int)) = ((4095 - a : Nat) : Int) := by omega
    have htwice : 2 * (2200 * a) = 4400 * a := by omega
    have hscaled : 2200 * (a : Int) = ((2200 * a : Nat) : Int) := by push_cast; rfl
    rw [hbelow, hscaled, roundDiv_natCast, Int.toNat_natCast, htwice]

/-- A gauge with its reading recorded and its samples taken, which is all that stages 1 and 2 do (R139, R140). -/
def Gauge.record (a : Nat) (g : Gauge) : Gauge :=
  { g with samples := [], reading := some { a := a, cls := classOf a } }

/-! ### Damping (R142) -/

/-- With k at most 256 a scaled gap does not pass the gap; below 0 this follows by symmetry. -/
theorem scaledGap_between_of_nonneg {gap : Int} (h : 0 ≤ gap) {k : Nat} (hk : k ≤ 256) :
    0 ≤ (gap * k).tdiv 256 ∧ (gap * k).tdiv 256 ≤ gap := by
  have hlow : 0 ≤ gap * k := by positivity
  have hhigh : gap * k ≤ gap * 256 := Int.mul_le_mul_of_nonneg_left (by omega) h
  rw [Int.tdiv_eq_ediv_of_nonneg hlow]
  omega

theorem scaledGap_between (gap : Int) {k : Nat} (hk : k ≤ 256) :
    min 0 gap ≤ (gap * k).tdiv 256 ∧ (gap * k).tdiv 256 ≤ max 0 gap := by
  rcases le_total 0 gap with h | h
  · have := scaledGap_between_of_nonneg h hk
    omega
  · have hneg := scaledGap_between_of_nonneg (gap := -gap) (by omega) hk
    rw [Int.neg_mul, Int.neg_tdiv] at hneg
    omega

theorem dampStep_eq (k target filtered : Nat) : dampStep k target filtered =
    let gap : Int := (target : Int) - filtered
    let step := (gap * k).tdiv 256
    if step ≠ 0 then step else if 0 < gap then 1 else if gap < 0 then -1 else 0 := by
  have hup : (0 < (target : Int) - filtered) = (filtered < target) := by simp
  have hdown : ((target : Int) - filtered < 0) = (target < filtered) := by simp
  simp only [dampStep, hup, hdown]

/-- The step of the damping goes toward the target and not past it. -/
theorem dampStep_between {k : Nat} (hk : k ≤ 256) (target filtered : Nat) :
    min 0 ((target : Int) - filtered) ≤ dampStep k target filtered
      ∧ dampStep k target filtered ≤ max 0 ((target : Int) - filtered) := by
  have hstep := scaledGap_between ((target : Int) - filtered) hk
  rw [dampStep_eq]
  dsimp only
  split
  · exact hstep
  · split
    · omega
    · split <;> omega

theorem Gauge.damp_filtered {g : Gauge} (hk : g.settings.k ≤ 256) :
    (g.damp.filtered : Int) = g.filtered + dampStep g.settings.k g.target g.filtered := by
  obtain ⟨hlow, -⟩ := dampStep_between hk g.target g.filtered
  exact Int.toNat_of_nonneg (by omega)

theorem Gauge.damp_filtered_between {g : Gauge} (hk : g.settings.k ≤ 256) :
    min g.filtered g.target ≤ g.damp.filtered ∧ g.damp.filtered ≤ max g.filtered g.target := by
  have hsum := Gauge.damp_filtered hk
  obtain ⟨hlow, hhigh⟩ := dampStep_between hk g.target g.filtered
  omega

/-! ### The duty (R143) -/

theorem rawDuty_eq (filtered vstab vbatF : Nat) : rawDuty filtered vstab vbatF =
    (2 * (filtered * vstab ^ 2) + max 600 vbatF ^ 2) / (2 * max 600 vbatF ^ 2) := by
  unfold rawDuty
  dsimp only
  rw [roundDiv_natCast, Int.toNat_natCast]

/-! ### The sender-fault judgement (R145–R147) -/

/-- What the judgement of a reading leaves as it is. -/
structure Gauge.JudgedFrom (g g' : Gauge) : Prop where
  settings : g'.settings = g.settings
  filtered : g'.filtered = g.filtered
  applied : g'.applied = g.applied

theorem Gauge.judgedFrom_accept (d : Nat) (g : Gauge) : g.JudgedFrom (g.accept d) :=
  ⟨rfl, rfl, rfl⟩

theorem Gauge.judgedFrom_state (st : GaugeState) (g : Gauge) : g.JudgedFrom { g with state := st } :=
  ⟨rfl, rfl, rfl⟩

theorem Gauge.judgedFrom_advanceHold (kind : FaultKind) (hold recovery : Nat) (g : Gauge) :
    g.JudgedFrom (g.advanceHold kind hold recovery) := by
  unfold Gauge.advanceHold
  split
  · exact ⟨rfl, rfl, rfl⟩
  · exact judgedFrom_state ..

theorem Gauge.judgedFrom_judgeGood (d : Nat) (g : Gauge) : g.JudgedFrom (g.judgeGood d) := by
  unfold Gauge.judgeGood
  split
  · exact judgedFrom_state ..
  · exact judgedFrom_accept ..
  · exact judgedFrom_accept ..
  · split
    · exact judgedFrom_accept ..
    · exact judgedFrom_advanceHold ..
  · split
    · exact judgedFrom_accept ..
    · exact judgedFrom_state ..

theorem Gauge.judgedFrom_judgeBad (kind : FaultKind) (g : Gauge) : g.JudgedFrom (g.judgeBad kind) := by
  unfold Gauge.judgeBad
  split
  · exact judgedFrom_state ..
  · exact judgedFrom_state ..
  · exact judgedFrom_state ..
  · exact judgedFrom_advanceHold ..
  · exact judgedFrom_state ..

theorem Gauge.judgedFrom_judge (cls : ReadingClass) (g : Gauge) : g.JudgedFrom (g.judge cls) := by
  cases cls with
  | inRange rs => exact judgedFrom_judgeGood ..
  | openSender | short => exact judgedFrom_judgeBad ..

/-- Where a judgement brings a gauge: its state, its target and its last good target. -/
def Gauge.Stands (g : Gauge) (st : GaugeState) (target lastGood : Nat) : Prop :=
  g.state = st ∧ g.target = target ∧ g.lastGood = lastGood

theorem Gauge.advanceHold_record (kind : FaultKind) (hold recovery a : Nat) (g : Gauge) :
    (g.record a).advanceHold kind hold recovery = (g.advanceHold kind hold recovery).record a := by
  unfold Gauge.advanceHold
  split <;> rfl

theorem Gauge.judgeGood_record (d a : Nat) (g : Gauge) :
    (g.record a).judgeGood d = (g.judgeGood d).record a := by
  have hstate : (g.record a).state = g.state := rfl
  unfold Gauge.judgeGood
  rw [hstate]
  cases g.state with
  | off | active | suspect => rfl
  | faultHold kind hold recovery =>
    dsimp only
    rw [advanceHold_record]
    split <;> rfl
  | faultRest kind recovery =>
    dsimp only
    split <;> rfl

theorem Gauge.judgeBad_record (kind : FaultKind) (a : Nat) (g : Gauge) :
    (g.record a).judgeBad kind = (g.judgeBad kind).record a := by
  have hstate : (g.record a).state = g.state := rfl
  unfold Gauge.judgeBad
  rw [hstate]
  cases g.state with
  | off | active | suspect | faultRest => rfl
  | faultHold kind hold recovery => exact advanceHold_record ..

/-- The judgement reads neither the samples nor the reading recorded. -/
theorem Gauge.judge_record (cls : ReadingClass) (a : Nat) (g : Gauge) :
    (g.record a).judge cls = (g.judge cls).record a := by
  cases cls with
  | inRange rs => exact judgeGood_record ..
  | openSender | short => exact judgeBad_record ..

/-! The rows of R145 to R147, one lemma each. -/

section rows

variable {g : Gauge} {k : FaultKind} {hold n : Nat}

theorem Gauge.accept_stands (d : Nat) (g : Gauge) : (g.accept d).Stands .active d d := ⟨rfl, rfl, rfl⟩

theorem Gauge.state_stands (st : GaugeState) (g : Gauge) : Gauge.Stands { g with state := st } st g.target g.lastGood :=
  ⟨rfl, rfl, rfl⟩

theorem Gauge.advanceHold_before (h : hold < 79) (k : FaultKind) (n : Nat) (g : Gauge) :
    (g.advanceHold k hold n).Stands (.faultHold k (hold + 1) n) g.target g.lastGood := by
  rw [Gauge.advanceHold, faultHoldLimit, if_neg (by omega)]
  exact state_stands ..

/-- The 80th count ends the hold (R146). -/
theorem Gauge.advanceHold_end (h : 79 ≤ hold) (k : FaultKind) (n : Nat) (g : Gauge) :
    (g.advanceHold k hold n).Stands (.faultRest k n) 0 g.lastGood := by
  rw [Gauge.advanceHold, faultHoldLimit, if_pos (by omega)]
  exact ⟨rfl, rfl, rfl⟩

theorem Gauge.judgeGood_active (h : g.state = .active) (d : Nat) : (g.judgeGood d).Stands .active d d := by
  simp [Gauge.judgeGood, h, accept_stands]

theorem Gauge.judgeGood_suspect (h : g.state = .suspect n) (d : Nat) : (g.judgeGood d).Stands .active d d := by
  simp [Gauge.judgeGood, h, accept_stands]

/-- The fourth in-range reading in a row recovers the gauge, before the hold count is looked at (R147). -/
theorem Gauge.judgeGood_faultHold_fourth (h : g.state = .faultHold k hold n) (hn : 3 ≤ n) (d : Nat) :
    (g.judgeGood d).Stands .active d d := by
  simp [Gauge.judgeGood, h, hn, accept_stands]

theorem Gauge.judgeGood_faultHold_early (h : g.state = .faultHold k hold n) (hn : n < 3) (d : Nat) :
    g.judgeGood d = g.advanceHold k hold (n + 1) := by
  simp [Gauge.judgeGood, h, hn]

theorem Gauge.judgeGood_faultRest_fourth (h : g.state = .faultRest k n) (hn : 3 ≤ n) (d : Nat) :
    (g.judgeGood d).Stands .active d d := by
  simp [Gauge.judgeGood, h, hn, accept_stands]

theorem Gauge.judgeGood_faultRest_early (h : g.state = .faultRest k n) (hn : n < 3) (d : Nat) :
    (g.judgeGood d).Stands (.faultRest k (n + 1)) g.target g.lastGood := by
  simp [Gauge.judgeGood, h, Nat.not_le.mpr hn, state_stands]

theorem Gauge.judgeBad_active (h : g.state = .active) (kind : FaultKind) :
    (g.judgeBad kind).Stands (.suspect 1) g.target g.lastGood := by
  simp [Gauge.judgeBad, h, state_stands]

theorem Gauge.judgeBad_suspect_early (h : g.state = .suspect n) (hn : n < 3) (kind : FaultKind) :
    (g.judgeBad kind).Stands (.suspect (n + 1)) g.target g.lastGood := by
  simp [Gauge.judgeBad, h, Nat.not_le.mpr hn, state_stands]

theorem Gauge.judgeBad_suspect_fourth (h : g.state = .suspect n) (hn : 3 ≤ n) (kind : FaultKind) :
    (g.judgeBad kind).Stands (.faultHold kind 0 0) g.target g.lastGood := by
  simp [Gauge.judgeBad, h, hn, state_stands]

theorem Gauge.judgeBad_faultHold (h : g.state = .faultHold k hold n) (kind : FaultKind) :
    g.judgeBad kind = g.advanceHold kind hold 0 := by
  simp [Gauge.judgeBad, h]

theorem Gauge.judgeBad_faultRest (h : g.state = .faultRest k n) (kind : FaultKind) :
    (g.judgeBad kind).Stands (.faultRest kind 0) g.target g.lastGood := by
  simp [Gauge.judgeBad, h, state_stands]

theorem Gauge.judge_off (h : g.state = .off) (cls : ReadingClass) : g.judge cls = g := by
  cases cls <;> simp [Gauge.judge, Gauge.judgeGood, Gauge.judgeBad, h]

/-- The out-of-range class of a reading that confirms a fault of this kind (R146). -/
def FaultKind.cls : FaultKind → ReadingClass
  | .openSender => .openSender
  | .short => .short

theorem Gauge.judge_cls (kind : FaultKind) (g : Gauge) : g.judge kind.cls = g.judgeBad kind := by
  cases kind <;> rfl

theorem Gauge.confirms_cls (h : g.state = .suspect n) (kind : FaultKind) :
    g.confirms kind.cls = decide (3 ≤ n) := by
  cases kind <;> simp [Gauge.confirms, FaultKind.cls, h]

theorem ReadingClass.inRange_or_cls (cls : ReadingClass) :
    (∃ rs, cls = .inRange rs) ∨ ∃ kind : FaultKind, cls = kind.cls := by
  cases cls with
  | inRange rs => exact .inl ⟨rs, rfl⟩
  | openSender => exact .inr ⟨.openSender, rfl⟩
  | short => exact .inr ⟨.short, rfl⟩

/-- A fault is confirmed exactly when the judgement takes a SUSPECT gauge to a fresh FAULT_HOLD (R146). -/
theorem Gauge.confirms_iff (cls : ReadingClass) (g : Gauge) : g.confirms cls = true ↔
    ∃ (n : Nat) (kind : FaultKind), g.state = .suspect n ∧ (g.judge cls).state = .faultHold kind 0 0 := by
  cases hst : g.state with
  | suspect n =>
    rcases cls.inRange_or_cls with ⟨rs, rfl⟩ | ⟨kind, rfl⟩
    · have hjudge : (g.judge (.inRange rs)).state = .active :=
        (judgeGood_suspect hst (calibrate g.settings.points rs)).1
      simp [hjudge, Gauge.confirms, hst]
    · rw [confirms_cls hst, judge_cls]
      by_cases hn : 3 ≤ n
      · simp [hn, (judgeBad_suspect_fourth hst hn kind).1]
      · simp [hn, (judgeBad_suspect_early hst (not_le.mp hn) kind).1]
  | off | active | faultHold | faultRest => simp [Gauge.confirms, hst]

end rows

/-! ### One gauge at an update (R138) -/

section update

variable {g : Gauge}

theorem Gauge.update_off (h : g.state = .off) (vbatF a : Nat) : g.update vbatF a = g.record a :=
  if_pos h

theorem Gauge.update_on (h : g.state ≠ .off) (vbatF a : Nat) :
    g.update vbatF a = (((g.judge (classOf a)).record a).damp).formDuty vbatF := by
  rw [← judge_record]
  exact if_neg h

/-- State, target and last good target at an update are those that the judgement gives. -/
theorem Gauge.update_stands {cls : ReadingClass} {a : Nat} (hcls : classOf a = cls) (vbatF : Nat) {st : GaugeState}
    {target lastGood : Nat} (hj : (g.judge cls).Stands st target lastGood) :
    (g.update vbatF a).Stands st target lastGood := by
  subst hcls
  by_cases h : g.state = .off
  · rw [judge_off h] at hj
    rwa [update_off h]
  · rwa [update_on h]

theorem Gauge.update_state (vbatF a : Nat) (g : Gauge) :
    (g.update vbatF a).state = (g.judge (classOf a)).state :=
  (update_stands rfl vbatF ⟨rfl, rfl, rfl⟩).1

/-- Every update records the reading with its class; it leaves the settings and the applied duty. -/
theorem Gauge.update_recorded (vbatF a : Nat) (g : Gauge) :
    (g.update vbatF a).samples = [] ∧ (g.update vbatF a).settings = g.settings
      ∧ (g.update vbatF a).reading = some { a := a, cls := classOf a } ∧ (g.update vbatF a).applied = g.applied := by
  by_cases h : g.state = .off
  · rw [update_off h]
    exact ⟨rfl, rfl, rfl, rfl⟩
  · have hj := judgedFrom_judge (classOf a) g
    rw [update_on h]
    exact ⟨rfl, hj.settings, rfl, hj.applied⟩

/-- Stage 4 at an update: the filtered deflection takes its step toward the target just judged (R142). -/
theorem Gauge.update_filtered (h : g.state ≠ .off) (hk : g.settings.k ≤ 256) (vbatF a : Nat) :
    ((g.update vbatF a).filtered : Int)
        = g.filtered + dampStep g.settings.k (g.update vbatF a).target g.filtered
      ∧ min g.filtered (g.update vbatF a).target ≤ (g.update vbatF a).filtered
      ∧ (g.update vbatF a).filtered ≤ max g.filtered (g.update vbatF a).target := by
  have hj := judgedFrom_judge (classOf a) g
  have hset : ((g.judge (classOf a)).record a).settings = g.settings := hj.settings
  have hfil : ((g.judge (classOf a)).record a).filtered = g.filtered := hj.filtered
  have hstep := damp_filtered (hset.symm ▸ hk)
  have hbetween := damp_filtered_between (hset.symm ▸ hk)
  rw [hfil] at hstep hbetween
  rw [hset] at hstep
  rw [update_on h]
  exact ⟨hstep, hbetween⟩

/-- Stage 5 at an update: the duty and the UNDERVOLT flag from the filtered deflection just formed (R143). -/
theorem Gauge.update_duty (h : g.state ≠ .off) (vbatF a : Nat) :
    (g.update vbatF a).duty = min 1000 (rawDuty (g.update vbatF a).filtered g.settings.vstab vbatF)
      ∧ (g.update vbatF a).undervolt
        = decide (1000 < rawDuty (g.update vbatF a).filtered g.settings.vstab vbatF) := by
  rw [← (judgedFrom_judge (classOf a) g).settings, update_on h]
  exact ⟨rfl, rfl⟩

end update

/-! ### The update of the unit (R138, R146) -/

theorem exec_gaugeUpdate_outside {s : State} (hawake : Awake s) (h : s.mdc.mode ≠ .run) :
    exec .gaugeUpdate s = after s := by
  change execGaugeUpdate s = _
  unfold execGaugeUpdate
  rw [act_run hawake, if_neg h]
  rfl

theorem exec_gaugeUpdate_run {s : State} (hawake : Awake s) (h : s.mdc.mode = .run) :
    exec .gaugeUpdate s = after (refreshDemands (updateGauges s)) := by
  change execGaugeUpdate s = _
  unfold execGaugeUpdate
  rw [act_run hawake, if_pos h]
  rfl

theorem gau_updateGauges (s : State) (g : GaugeIx) :
    (refreshDemands (updateGauges s)).gau.get g = (s.gau.get g).update s.sbu.vbatF ((updateReadings s).get g) := by
  simp [updateGauges]

theorem gau_updateGauges_of_samples {s : State} {g : GaugeIx} {x : Nat} {xs : List Nat}
    (h : (s.gau.get g).samples = x :: xs) : (refreshDemands (updateGauges s)).gau.get g
      = (s.gau.get g).update s.sbu.vbatF ((x + xs.sum) / (xs.length + 1)) := by
  rw [gau_updateGauges, updateReadings, tabulate_get, Gauge.reads_of_samples h]

/-- A gauge with samples stands after the update where the judgement of their mean brings it. -/
theorem stands_updateGauges {s : State} {g : GaugeIx} {x : Nat} {xs : List Nat} {cls : ReadingClass} {st : GaugeState}
    {target lastGood : Nat} (hsamples : (s.gau.get g).samples = x :: xs)
    (hcls : classOf ((x + xs.sum) / (xs.length + 1)) = cls)
    (hj : ((s.gau.get g).judge cls).Stands st target lastGood) :
    ((refreshDemands (updateGauges s)).gau.get g).Stands st target lastGood := by
  rw [gau_updateGauges_of_samples hsamples]
  exact Gauge.update_stands hcls _ hj

/-- Whether an update confirms a sender fault at one of the gauges (R146). -/
def confirmsFault (s : State) : Bool :=
  (List.finRange 3).any fun g => (s.gau.get g).confirms (classOf ((updateReadings s).get g))

theorem confirmsFault_iff (s : State) : confirmsFault s = true ↔
    ∃ (k : GaugeIx) (n : Nat) (kind : FaultKind), (s.gau.get k).state = .suspect n
      ∧ ((refreshDemands (updateGauges s)).gau.get k).state = .faultHold kind 0 0 := by
  simp only [confirmsFault, List.any_eq_true, List.mem_finRange, true_and]
  refine exists_congr fun k => ?_
  rw [gau_updateGauges, Gauge.update_state]
  exact Gauge.confirms_iff ..

theorem hasFlag_updateGauges (s : State) (f : Flag) : hasFlag f (refreshDemands (updateGauges s))
    = (hasFlag f s || (confirmsFault s && decide (f = .sender))) := by
  have hlif : hasFlag f (refreshDemands (updateGauges s)) = hasFlag f (updateGauges s) := by simp [hasFlag]
  rw [hlif]
  exact hasFlag_setFlagIf ..

theorem lif_updateGauges (s : State) : (refreshDemands (updateGauges s)).lif
    = { s.lif with status := (refreshDemands (updateGauges s)).lif.status } := by
  rw [refreshDemands_lif]
  exact setFlagIf_lif ..

/-! ### The statements -/

/-- Settles O48: the update of one gauge stage by stage, then the calibration table by the place of Rs in it. -/
theorem gaugeUpdateRule : Obligations.GaugeUpdateRule := by
  unfold Obligations.GaugeUpdateRule
  refine ⟨fun s hawake => ⟨exec_gaugeUpdate_outside hawake, fun hrun => ⟨_, exec_gaugeUpdate_run hawake hrun, ?_, ?_⟩⟩,
    fun points rs hinc => ⟨?_, fun hm => calibrate_le hm rs, ?_, ?_⟩⟩
  · simp [updateGauges]
  · intro g x xs hsamples
    rw [gau_updateGauges_of_samples hsamples]
    dsimp only
    rw [← classOf_eq, ← dampStep_eq, ← rawDuty_eq]
    obtain ⟨htaken, hsettings, hreading, happlied⟩ :=
      Gauge.update_recorded s.sbu.vbatF ((x + xs.sum) / (xs.length + 1)) (s.gau.get g)
    refine ⟨htaken, hsettings, hreading, happlied, fun hoff => ?_, fun hon hk => ?_, fun hon => ?_⟩
    · rw [hreading]
      exact Gauge.update_off hoff ..
    · obtain ⟨hstep, hlow, hhigh⟩ := Gauge.update_filtered hon hk s.sbu.vbatF ((x + xs.sum) / (xs.length + 1))
      exact ⟨hstep, hlow, hhigh, fun hold hnew => hhigh.trans (max_le hold hnew)⟩
    · exact Gauge.update_duty hon ..
  · rintro r d rest rfl hbelow
    exact calibrate_below hbelow rest
  · rintro r d front rfl hat
    rw [calibrate_append hinc hat]
    rfl
  · rintro r0 d0 r1 d1 front back rfl h0 h1
    rw [calibrate_append hinc h0]
    obtain ⟨hlow, hhigh⟩ := calibrate_segment_between (d0 := d0) (d1 := d1) h0 h1 back
    obtain ⟨hbelow, habove⟩ :=
      roundDiv_bounds (((d1 : Int) - d0) * ((rs : Int) - r0)) (show 0 < (r1 : Int) - r0 by omega)
    refine ⟨hlow, hhigh, ?_, ?_⟩ <;> rw [calibrate_segment h0 h1] <;> linarith

/-- Settles O49, row by row: the judgement of one gauge's reading, and status SENDER for a fault confirmed. -/
theorem senderFaultRule : Obligations.SenderFaultRule := by
  unfold Obligations.SenderFaultRule
  intro s g x xs hawake hrun hsamples
  dsimp only
  have hsender : hasFlag .sender (refreshDemands (updateGauges s)) = true ↔
      hasFlag .sender s = true ∨ confirmsFault s = true := by simp [hasFlag_updateGauges]
  rw [confirmsFault_iff] at hsender
  refine ⟨_, exec_gaugeUpdate_run hawake hrun, fun f hf => ?_, lif_updateGauges s, hsender, ?_, ?_⟩
  · simp [hasFlag_updateGauges, hf]
  · intro rs hcls
    have hrow {st target lastGood} (hj : ((s.gau.get g).judgeGood (calibrate (s.gau.get g).settings.points rs)).Stands
        st target lastGood) := stands_updateGauges hsamples hcls hj
    refine ⟨fun h => hrow (Gauge.judgeGood_active h _), fun n h => hrow (Gauge.judgeGood_suspect h _),
      fun k hold n h => ⟨fun hn => hrow (Gauge.judgeGood_faultHold_fourth h hn _), fun hn hhold => hrow ?_,
        fun hn hhold => hrow ?_⟩,
      fun k n h => ⟨fun hn => hrow (Gauge.judgeGood_faultRest_fourth h hn _),
        fun hn => hrow (Gauge.judgeGood_faultRest_early h hn _)⟩⟩
    · rw [Gauge.judgeGood_faultHold_early h hn]
      exact Gauge.advanceHold_before hhold ..
    · rw [Gauge.judgeGood_faultHold_early h hn]
      exact Gauge.advanceHold_end hhold ..
  · intro kind hcls
    have hcls : classOf ((x + xs.sum) / (xs.length + 1)) = kind.cls := by rw [hcls]; cases kind <;> rfl
    have hrow {st target lastGood} (hj : ((s.gau.get g).judgeBad kind).Stands st target lastGood) :=
      stands_updateGauges hsamples hcls (by rwa [Gauge.judge_cls])
    refine ⟨fun h => hrow (Gauge.judgeBad_active h _),
      fun n h => ⟨fun hn => hrow (Gauge.judgeBad_suspect_early h hn _), fun hn => ?_⟩,
      fun k hold n h => ⟨fun hhold => hrow ?_, fun hhold => hrow ?_⟩,
      fun k n h => hrow (Gauge.judgeBad_faultRest h _)⟩
    · have hfault := hrow (Gauge.judgeBad_suspect_fourth h hn kind)
      exact ⟨hfault, hsender.mpr (.inr ⟨g, n, kind, h, hfault.1⟩)⟩
    · rw [Gauge.judgeBad_faultHold h]
      exact Gauge.advanceHold_before hhold ..
    · rw [Gauge.judgeBad_faultHold h]
      exact Gauge.advanceHold_end hhold ..

end Sys2Proof.Machine

/-! PROOFS. The Link Interface: ATTN and the link state byte (R155, R162, R170), what a request frame and a fetch frame
make of the link (R155–R158), the requests that it carries out itself (R163–R168), and the statements O5 and O7. -/

namespace Sys2Proof.Machine

/-! ### ATTN and the link state byte (R162, R170) -/

theorem Flag.exists_pos_eq : ∀ n < 17, ∃ f ∈ flagsByPos, f.pos = n := by
  decide

theorem pendingSet_eq_zero_iff (s : State) :
    pendingSet s = 0 ↔ ∀ f : Flag, ¬(hasFlag f s = true ∧ s.lif.enable.getLsbD f.pos = true) := by
  constructor
  · rintro h f ⟨hstatus, henable⟩
    have hbit : (pendingSet s).getLsbD f.pos = true := by
      rw [pendingSet, BitVec.getLsbD_and, henable, Bool.and_true]
      exact hstatus
    simp [h] at hbit
  · intro h
    refine BitVec.eq_of_getLsbD_eq fun n hn => ?_
    obtain ⟨f, -, rfl⟩ := Flag.exists_pos_eq n hn
    simpa [pendingSet, hasFlag] using h f

theorem attnLow_iff (s : State) :
    attnLow s = true ↔ ∃ f : Flag, hasFlag f s = true ∧ s.lif.enable.getLsbD f.pos = true := by
  rw [attnLow, bne_iff_ne, ne_eq, pendingSet_eq_zero_iff, not_forall_not]

theorem linkByte_eq (s : State) : linkByte s
    = byte (s.lif.link.code + if s.lif.status &&& s.lif.enable = 0 then 0 else 128) := by
  unfold linkByte attnLow pendingSet
  by_cases h : s.lif.status &&& s.lif.enable = 0 <;> simp [h]

/-! ### The bytes shifted out (R155, R157) -/

theorem padZeros_succ_cons (n : Nat) (b : Byte) (bytes : List Byte) :
    padZeros (n + 1) (b :: bytes) = b :: padZeros n bytes := by
  simp [padZeros]

theorem padZeros_nil (n : Nat) : padZeros n [] = List.replicate n 0 := by
  simp [padZeros]

theorem padZeros_eq_take (n : Nat) (bytes : List Byte) :
    padZeros n bytes = (bytes ++ List.replicate n 0).take n := by
  simp [padZeros, List.take_append]

theorem length_padZeros (n : Nat) (bytes : List Byte) : (padZeros n bytes).length = n := by
  simp [padZeros_eq_take]

/-- A marker's length 0 is as the zeros that follow it. -/
theorem padZeros_marker (n : Nat) (marker : Byte) :
    padZeros n [marker, 0] = (marker :: List.replicate n 0).take n := by
  cases n with
  | zero => rfl
  | succ n => rw [padZeros_succ_cons, List.take_succ_cons, padZeros_eq_take, List.singleton_append,
      ← List.replicate_succ]

/-! ### The request that a frame holds (R156) -/

theorem Req.ofCode_code (r : Req) : Req.ofCode r.code = some r := by
  cases r <;> rfl

theorem Req.ofCode_eq_none {b : Byte} (h : ∀ r : Req, r.code ≠ b) : Req.ofCode b = none := by
  simp [Req.ofCode, h]

theorem parseFrame_of_wellFormed {n : Byte} {params : List Byte} (r : Req) (hlen : params.length = n.toNat)
    (hmax : n.toNat ≤ 30) : parseFrame (r.code :: n :: params) = some { req := r, params := params } := by
  simp [parseFrame, hlen, hmax, Req.ofCode_code]

theorem parseFrame_of_malformed {b n : Byte} {params : List Byte}
    (h : 30 < n.toNat ∨ params.length ≠ n.toNat ∨ ∀ r : Req, r.code ≠ b) : parseFrame (b :: n :: params) = none := by
  unfold parseFrame
  dsimp only
  split_ifs with hform
  · obtain ⟨hmax, hlen⟩ := hform
    obtain hlong | hlen' | hcode := h
    · omega
    · contradiction
    · rw [Req.ofCode_eq_none hcode, Option.map_none]
  · rfl

/-! ### A request frame at the link (R155, R156, R158, R187) -/

/-- What an IDLE link becomes by a request frame (R156). -/
def linkOnRequest (m : Mode) (bytes : List Byte) : Link :=
  if m = .loading then .replyReady (refuse .notReady)
  else match parseFrame bytes with
    | none => .replyReady (refuse .badRequest)
    | some r => .working r

theorem linkOnRequest_loading (bytes : List Byte) :
    linkOnRequest .loading bytes = .replyReady (refuse .notReady) := rfl

theorem linkOnRequest_malformed {m : Mode} {bytes : List Byte} (hm : m ≠ .loading) (h : parseFrame bytes = none) :
    linkOnRequest m bytes = .replyReady (refuse .badRequest) := by
  rw [linkOnRequest, if_neg hm, h]

theorem linkOnRequest_wellFormed {m : Mode} {bytes : List Byte} {r : Request} (hm : m ≠ .loading)
    (h : parseFrame bytes = some r) : linkOnRequest m bytes = .working r := by
  rw [linkOnRequest, if_neg hm, h]

theorem dealFrame_idle {s : State} (h : s.lif.link = .idle) (bytes : List Byte) :
    dealFrame bytes s = setLinkState (linkOnRequest s.mdc.mode bytes) s := by
  unfold dealFrame linkOnRequest
  rw [h]
  dsimp only
  split_ifs
  · rfl
  · cases parseFrame bytes <;> rfl

theorem dealFrame_busy {s : State} (h : s.lif.link ≠ .idle) (bytes : List Byte) :
    dealFrame bytes s = setFlag .overrun s := by
  unfold dealFrame
  split
  · rfl
  · rfl
  · contradiction

/-- A request frame taken awake: the link deals with it, the sleep entry timer is set back, and the link state byte, as
it was before the frame, and zeros are shifted out. -/
theorem exec_requestFrame {b : Byte} {s : State} (hb : b ≠ 255) (hawake : Awake s) (hmode : s.mdc.mode ≠ .sleep)
    (bytes : List Byte) : exec (.requestFrame (b :: bytes)) s =
      after (let t := restartTimer (dealFrame (b :: bytes) s)
        { t with lif := { t.lif with dataOut := linkByte s :: List.replicate bytes.length 0 } }) := by
  have hout : padZeros (b :: bytes).length [linkByte s] = linkByte s :: List.replicate bytes.length 0 := by
    rw [List.length_cons, padZeros_succ_cons, padZeros_nil]
  change act (takeFrame (b :: bytes)) s = _
  rw [act_run hawake, takeFrame, if_neg hb, takeRequest, if_neg hmode, hout]
  rfl

/-! ### A fetch frame at the link (R157) -/

/-- What a link becomes by a fetch frame in which `n` bytes follow the link state byte (R157). -/
def linkOnFetch (n : Nat) : Link → Link
  | .replyReady reply => if n = 0 then .replyReady reply else .idle
  | .working r => .working r
  | .idle => .idle

theorem takeFetch_succ (n : Nat) (s : State) : takeFetch (n + 1) s = { s with lif := { s.lif with
    link := linkOnFetch n s.lif.link, dataOut := linkByte s :: padZeros n (fetchReply s.lif.link) } } := by
  unfold takeFetch
  rw [if_neg n.succ_ne_zero, padZeros_succ_cons]
  cases s.lif.link with
  | idle => rfl
  | working r => rfl
  | replyReady reply => cases n <;> rfl

theorem exec_fetchFrame {s : State} (hawake : Awake s) (n : Nat) :
    exec (.fetchFrame n) s = after (takeFetch n s) := act_run hawake _

/-! ### The answers of the requests (R160) -/

/-- A request handed to its owner is answered as its owner's effect says (R156). -/
theorem serve_handed {r : Req} {p fields : List Byte} {s t : State} {code : ReplyCode}
    {body : List Byte → State → State × Reply} (h : Handed r p s)
    (hbody : body p s = (t, { code := code, fields := fields })) : serve r body p s = replied code fields t := by
  obtain ⟨hawake, hlink⟩ := h
  rw [serve_inWork hawake hlink, hbody]
  rfl

theorem serve_readAll_nil {r : Req} {s : State} (h : Handed r [] s) (fields : State → List Byte) :
    serve r (readAll fields) [] s = replied .ok (fields s) s :=
  serve_handed h rfl

theorem serve_readAll_params {r : Req} {p : List Byte} {s : State} (h : Handed r p s) (hp : p ≠ [])
    (fields : State → List Byte) : serve r (readAll fields) p s = replied .badRequest [] s := by
  refine serve_handed h ?_
  cases p with
  | nil => contradiction
  | cons b p => rfl

theorem statusClear_of_length {p : List Byte} (h : p.length ≠ 3) (s : State) :
    statusClear p s = refused .badRequest s := by
  unfold statusClear
  split
  · contradiction
  · rfl

theorem enableChange_of_length {p : List Byte} (h : p.length ≠ 3) (f : BitVec 17 → BitVec 17 → BitVec 17)
    (s : State) : enableChange f p s = refused .badRequest s := by
  unfold enableChange
  split
  · contradiction
  · rfl

/-! ### The requests that the Link Interface carries out (R163–R168) -/

section requests

variable (p : List Byte) (s : State)

theorem exec_statusRead :
    exec (.statusRead p) s = serve .statusRead (readAll fun s => flagSetBytes s.lif.status) p s := rfl

theorem exec_enableRead :
    exec (.enableRead p) s = serve .enableRead (readAll fun s => flagSetBytes s.lif.enable) p s := rfl

theorem exec_pendingRead :
    exec (.pendingRead p) s = serve .pendingRead (readAll fun s => flagSetBytes (pendingSet s)) p s := rfl

theorem exec_statusClear : exec (.statusClear p) s = serve .statusClear statusClear p s := rfl

theorem exec_enableSet :
    exec (.enableSet p) s = serve .enableSet (enableChange fun enable named => enable ||| named) p s := rfl

theorem exec_enableClear :
    exec (.enableClear p) s = serve .enableClear (enableChange fun enable named => enable &&& ~~~named) p s := rfl

end requests

/-! ### The statements -/

/-- Settles O7: the frames with no byte, then a request frame by the link state and the form of the frame, then a fetch
frame by the link state. -/
theorem linkFrames : Obligations.LinkFrames := by
  unfold Obligations.LinkFrames
  refine ⟨fun s => ?_, fun s hawake => ⟨act_run hawake _, exec_fetchFrame hawake 0⟩,
    fun b bytes s hb hawake hidle hmode => ?_, fun b bytes s hb hawake hbusy hmode => ?_, fun n s hawake => ?_⟩
  · rw [linkByte_eq]
    cases s.lif.link <;> rfl
  · refine ⟨linkOnRequest s.mdc.mode (b :: bytes), ?_, fun hload => ?_, fun hrun => ⟨?_, ?_⟩⟩
    · rw [exec_requestFrame hb hawake hmode, dealFrame_idle hidle]
      rfl
    · rw [hload]
      exact linkOnRequest_loading _
    · rintro rfl
      exact linkOnRequest_malformed hrun rfl
    · rintro n params rfl
      refine ⟨fun hbad => linkOnRequest_malformed hrun (parseFrame_of_malformed hbad), ?_⟩
      rintro r rfl hlen hmax
      exact linkOnRequest_wellFormed hrun (parseFrame_of_wellFormed r hlen hmax)
  · rw [exec_requestFrame hb hawake hmode, dealFrame_busy hbusy]
    rfl
  · refine ⟨padZeros n (fetchReply s.lif.link), linkOnFetch n s.lif.link, ?_, length_padZeros .., fun reply hlink => ?_,
      fun r hlink => ?_, fun hlink => ?_⟩
    · rw [exec_fetchFrame hawake, takeFetch_succ]
    · rw [hlink]
      exact ⟨padZeros_eq_take .., rfl⟩
    · rw [hlink]
      exact ⟨padZeros_marker .., rfl⟩
    · rw [hlink]
      exact ⟨padZeros_marker .., rfl⟩

/-- Settles O5: each request by its owner's effect, and ATTN by the positions of the flags. -/
theorem statusRequests : Obligations.StatusRequests := by
  unfold Obligations.StatusRequests
  refine ⟨fun s => ⟨fun h => ?_, fun h => ?_, fun h => ?_, ?_⟩,
    fun s b2 b1 b0 => ⟨fun h => ?_, fun h => ?_, fun h => ?_⟩, ?_, attnLow_iff⟩
  · rw [exec_statusRead]; exact serve_readAll_nil h _
  · rw [exec_enableRead]; exact serve_readAll_nil h _
  · rw [exec_pendingRead]; exact serve_readAll_nil h _
  · intro r hr p hp h
    simp only [List.mem_cons, List.not_mem_nil, or_false] at hr
    obtain rfl | rfl | rfl := hr
    · exact (exec_statusRead p s).trans (serve_readAll_params h hp _)
    · exact (exec_enableRead p s).trans (serve_readAll_params h hp _)
    · exact (exec_pendingRead p s).trans (serve_readAll_params h hp _)
  · rw [exec_statusClear]; exact serve_handed h rfl
  · rw [exec_enableSet]; exact serve_handed h rfl
  · rw [exec_enableClear]; exact serve_handed h rfl
  · intro r hr s p hp h
    simp only [List.mem_cons, List.not_mem_nil, or_false] at hr
    obtain rfl | rfl | rfl := hr
    · exact (exec_statusClear p s).trans (serve_handed h (statusClear_of_length hp s))
    · exact (exec_enableSet p s).trans (serve_handed h (enableChange_of_length hp _ s))
    · exact (exec_enableClear p s).trans (serve_handed h (enableChange_of_length hp _ s))

end Sys2Proof.Machine

/-! PROOFS. How a step comes about and what each operation between the modes leaves as it is; the statement O1. -/

namespace Sys2Proof.Machine

/-! ### The step -/

theorem step_quiet {s : State} (h : s.pending = []) : step s = .next (tick s) := by
  simp [step, h]

theorem step_cons {c : Instr} {rest : List Instr} {s : State} (h : s.pending = c :: rest) :
    step s = exec c { s with pending := rest } := by
  simp [step, h]

/-- Settles O1: the queue of the state that steps has the command at its front. -/
theorem stepRunsTheFront : Obligations.StepRunsTheFront :=
  fun _ _ _ => step_cons rfl

/-- A step is a millisecond of quiet or the command at the front of the queue, on the state with the queue's rest. -/
theorem step_cases {s t : State} (h : step s = .next t) :
    (s.pending = [] ∧ t = tick s) ∨ ∃ c rest, s.pending = c :: rest ∧ exec c { s with pending := rest } = .next t := by
  cases hp : s.pending with
  | nil =>
    rw [step_quiet hp] at h
    injection h with h
    exact .inl ⟨rfl, h.symm⟩
  | cons c rest => exact .inr ⟨c, rest, rfl, (step_cons hp).symm.trans h⟩

/-! ### Entry to RUN and the crank -/

@[simp] theorem crankWalk_link (s : State) : (crankWalk s).lif.link = s.lif.link := by simp

@[simp] theorem beginCrank_link (s : State) : (beginCrank s).lif.link = s.lif.link := by
  unfold beginCrank
  split
  · rfl
  · simp [withHandOver]

@[simp] theorem beginCrank_inForce (s : State) : (beginCrank s).crs.inForce = s.crs.inForce := by
  unfold beginCrank
  split
  · rfl
  · simp [withHandOver]

@[simp] theorem beginCrank_pendingEntry (s : State) : (beginCrank s).crs.pendingEntry = s.crs.pendingEntry := by
  unfold beginCrank
  split
  · rfl
  · simp [withHandOver]

/-- The state at an entry to RUN before the crank check: the mode, the entry samples, the gauges and the resolver with
its demands (R182). -/
def entered (restartSupply : Bool) (s : State) : State :=
  let s := { s with mdc := { s.mdc with mode := .run } }
  resolveAll (restartGauges (if restartSupply then entrySample s else s))

/-- The crank check of an entry to RUN (R45). -/
def crankCheck (s : State) : State := if acceptedCode s start = some 1 then beginCrank s else s

theorem enterRun_eq (restartSupply : Bool) (s : State) :
    enterRun restartSupply s = beginRequested (crankCheck (entered restartSupply s)) := rfl

section entered

variable (b : Bool) (s : State)

@[simp] theorem entered_clt : (entered b s).clt = s.clt := by cases b <;> simp [entered]
@[simp] theorem entered_inForce : (entered b s).crs.inForce = s.crs.inForce := by cases b <;> simp [entered]
@[simp] theorem entered_pendingEntry : (entered b s).crs.pendingEntry = s.crs.pendingEntry := by
  cases b <;> simp [entered]
@[simp] theorem entered_sws : (entered b s).sws = s.sws := by cases b <;> simp [entered]
@[simp] theorem entered_bde : (entered b s).bde = s.bde := by cases b <;> simp [entered]
@[simp] theorem entered_lif : (entered b s).lif = s.lif := by cases b <;> simp [entered]
@[simp] theorem entered_mdc : (entered b s).mdc = { s.mdc with mode := .run } := by cases b <;> simp [entered]
@[simp] theorem entered_pins : (entered b s).pins = s.pins := by cases b <;> simp [entered]
@[simp] theorem entered_store : (entered b s).store = s.store := by cases b <;> simp [entered]
@[simp] theorem entered_freeCount : (entered b s).freeCount = s.freeCount := by cases b <;> simp [entered]
@[simp] theorem entered_pending : (entered b s).pending = s.pending := by cases b <;> simp [entered]

end entered

section crankCheck

variable (s : State)

@[simp] theorem crankCheck_inForce : (crankCheck s).crs.inForce = s.crs.inForce := by unfold crankCheck; split <;> simp
@[simp] theorem crankCheck_pendingEntry : (crankCheck s).crs.pendingEntry = s.crs.pendingEntry := by
  unfold crankCheck; split <;> simp
@[simp] theorem crankCheck_sws : (crankCheck s).sws = s.sws := by unfold crankCheck; split <;> simp
@[simp] theorem crankCheck_bde : (crankCheck s).bde = s.bde := by unfold crankCheck; split <;> simp
@[simp] theorem crankCheck_gau : (crankCheck s).gau = s.gau := by unfold crankCheck; split <;> simp
@[simp] theorem crankCheck_link : (crankCheck s).lif.link = s.lif.link := by unfold crankCheck; split <;> simp
@[simp] theorem crankCheck_mdc : (crankCheck s).mdc = s.mdc := by unfold crankCheck; split <;> simp
@[simp] theorem crankCheck_pins : (crankCheck s).pins = s.pins := by unfold crankCheck; split <;> simp
@[simp] theorem crankCheck_store : (crankCheck s).store = s.store := by unfold crankCheck; split <;> simp
@[simp] theorem crankCheck_freeCount : (crankCheck s).freeCount = s.freeCount := by unfold crankCheck; split <;> simp
@[simp] theorem crankCheck_pending : (crankCheck s).pending = s.pending := by unfold crankCheck; split <;> simp

end crankCheck

section enterRun

variable (b : Bool) (s : State)

@[simp] theorem enterRun_mdc : (enterRun b s).mdc = { s.mdc with mode := .run } := by simp [enterRun_eq]
@[simp] theorem enterRun_link : (enterRun b s).lif.link = s.lif.link := by simp [enterRun_eq]
@[simp] theorem enterRun_inForce : (enterRun b s).crs.inForce = s.crs.inForce := by simp [enterRun_eq]
@[simp] theorem enterRun_pendingEntry : (enterRun b s).crs.pendingEntry = s.crs.pendingEntry := by
  simp [enterRun_eq]

@[simp] theorem wake_mdc : (wake s).mdc = { s.mdc with mode := .run } := by simp [wake]
@[simp] theorem wake_link : (wake s).lif.link = s.lif.link := by simp [wake]
@[simp] theorem wake_inForce : (wake s).crs.inForce = s.crs.inForce := by simp [wake]
@[simp] theorem wake_pendingEntry : (wake s).crs.pendingEntry = s.crs.pendingEntry := by simp [wake]
@[simp] theorem wake_sws : (wake s).sws = s.sws := by simp [wake]
@[simp] theorem wake_pins : (wake s).pins = s.pins := by simp [wake]
@[simp] theorem wake_store : (wake s).store = s.store := by simp [wake]
@[simp] theorem wake_freeCount : (wake s).freeCount = s.freeCount := by simp [wake]
@[simp] theorem wake_pending : (wake s).pending = s.pending := by simp [wake]

end enterRun

/-! ### Passes, leaving RUN, RESUME and loads -/

@[simp] theorem beginRequested_entries (s : State) : (beginRequested s).bde.entries = s.bde.entries := by
  unfold beginRequested; split <;> rfl
@[simp] theorem beginRequested_recs (s : State) : (beginRequested s).bde.recs = s.bde.recs := by
  unfold beginRequested; split <;> rfl
@[simp] theorem beginRequested_waiting (s : State) : (beginRequested s).bde.waiting = s.bde.waiting := by
  unfold beginRequested; split <;> rfl

@[simp] theorem abandonPass_inForce (s : State) : (abandonPass s).crs.inForce = s.crs.inForce := by
  unfold abandonPass; split <;> simp
@[simp] theorem abandonPass_pendingEntry (s : State) : (abandonPass s).crs.pendingEntry = s.crs.pendingEntry := by
  unfold abandonPass; split <;> simp

@[simp] theorem leaveRun_mdc (m : Mode) (s : State) : (leaveRun m s).mdc = { s.mdc with mode := m } := by
  simp only [leaveRun]
  rw [foldl_frame (fun s : State => s.mdc) _ (by simp)]
  simp

@[simp] theorem leaveRun_bde (m : Mode) (s : State) : (leaveRun m s).bde = (abandonPass { s with mdc := { s.mdc with mode := m } }).bde := by
  simp only [leaveRun]
  rw [foldl_frame (fun s : State => s.bde) _ (by simp)]
  simp

@[simp] theorem leaveRun_inForce (m : Mode) (s : State) : (leaveRun m s).crs.inForce = s.crs.inForce := by
  simp only [leaveRun]
  rw [foldl_frame (fun s : State => s.crs.inForce) _ (by simp)]
  simp

@[simp] theorem leaveRun_pendingEntry (m : Mode) (s : State) : (leaveRun m s).crs.pendingEntry = s.crs.pendingEntry := by
  simp only [leaveRun]
  rw [foldl_frame (fun s : State => s.crs.pendingEntry) _ (by simp)]
  simp

/-! ### What a command leaves as it stands

Most commands touch the outputs, the measurements and the status flags alone. `Aside` is what two states then share; the
sleep entry timer, which every command settles, stands beside it. -/

/-- Two states with the same claims, configuration, groups, bindings, mode, image operation and link state. -/
structure Aside (s t : State) : Prop where
  clt : t.clt = s.clt
  inForce : t.crs.inForce = s.crs.inForce
  pendingEntry : t.crs.pendingEntry = s.crs.pendingEntry
  profile : ∀ ch, (t.chd.get ch).profile = (s.chd.get ch).profile
  sws : t.sws = s.sws
  bde : t.bde = s.bde
  settings : ∀ g, (t.gau.get g).settings = (s.gau.get g).settings
  rateSet : t.fls.rateSet = s.fls.rateSet
  ticker : t.fls.ticker = s.fls.ticker
  link : t.lif.link = s.lif.link
  mode : t.mdc.mode = s.mdc.mode
  op : t.mdc.op = s.mdc.op

namespace Aside

variable {s t u : State}

theorem refl (s : State) : Aside s s := ⟨rfl, rfl, rfl, fun _ => rfl, rfl, rfl, fun _ => rfl, rfl, rfl, rfl, rfl, rfl⟩

theorem trans (h : Aside s t) (h' : Aside t u) : Aside s u :=
  ⟨h'.clt.trans h.clt, h'.inForce.trans h.inForce, h'.pendingEntry.trans h.pendingEntry,
    fun ch => (h'.profile ch).trans (h.profile ch), h'.sws.trans h.sws, h'.bde.trans h.bde,
    fun g => (h'.settings g).trans (h.settings g), h'.rateSet.trans h.rateSet, h'.ticker.trans h.ticker,
    h'.link.trans h.link, h'.mode.trans h.mode, h'.op.trans h.op⟩

theorem foldl {α : Type} {f : State → α → State} (hf : ∀ s a, Aside s (f s a)) (xs : List α) (s : State) :
    Aside s (xs.foldl f s) := by
  induction xs generalizing s with
  | nil => exact refl s
  | cons x xs ih => exact (hf s x).trans (ih (f s x))

theorem ite {p : Prop} [Decidable p] (ht : Aside s t) (hu : Aside s u) : Aside s (if p then t else u) := by
  split
  · exact ht
  · exact hu

end Aside

/-! ### The outputs -/

theorem aside_setFlag (f : Flag) (s : State) : Aside s (setFlag f s) := { Aside.refl s with }

theorem aside_setFlagIf (b : Bool) (f : Flag) (s : State) : Aside s (setFlagIf b f s) := by
  cases b
  · exact .refl s
  · exact aside_setFlag f s

theorem aside_settleTimer (s : State) : Aside s (settleTimer s) := { Aside.refl s with }

theorem aside_restartTimer (s : State) : Aside s (restartTimer s) := { Aside.refl s with }

theorem aside_modifyChannel {f : Channel → Channel} (hf : ∀ c, (f c).profile = c.profile) (ch : Chan) (s : State) :
    Aside s (modifyChannel ch f s) := by
  have hprofile (k : Chan) : ((modifyChannel ch f s).chd.get k).profile = (s.chd.get k).profile := by
    rw [chd_modifyChannel]
    split
    · next h => rw [hf, h]
    · rfl
  have hfls : (modifyChannel ch f s).fls = { s.fls with phase := (modifyChannel ch f s).fls.phase } := by
    unfold modifyChannel; dsimp only; split <;> rfl
  exact { Aside.refl s with
    profile := hprofile
    clt := by simp, inForce := by simp, pendingEntry := by simp, sws := by simp, bde := by simp
    settings := by simp, rateSet := by rw [hfls], ticker := by rw [hfls], link := by simp, mode := by simp
    op := by simp }

theorem trip_profile (kind : TripKind) (c : Channel) : (c.trip kind).profile = c.profile := rfl

theorem aside_tripChannel (ch : Chan) (kind : TripKind) (s : State) : Aside s (tripChannel ch kind s) :=
  ((aside_modifyChannel (trip_profile kind) ch s).trans (aside_setFlagIf ..)).trans (aside_setFlag ..)

theorem aside_handDemand (ch : Chan) (d : Nat) (s : State) : Aside s (handDemand ch d s) :=
  aside_modifyChannel (fun c => takeDemand_profile c _ d) ch s

theorem aside_refreshDemand (s : State) (ch : Chan) : Aside s (refreshDemand s ch) :=
  .ite (.refl s) (aside_handDemand ..)

theorem aside_refreshDemands (s : State) : Aside s (refreshDemands s) := .foldl aside_refreshDemand _ s

theorem aside_handAllDemands (s : State) : Aside s (handAllDemands s) := .foldl (fun _ _ => aside_handDemand ..) _ s

theorem start_rateSet (v : Vector Bool 20) (f : Flasher) : (f.start v).rateSet = f.rateSet := by
  unfold Flasher.start Flasher.beginLit Flasher.pulse; dsimp only; split <;> rfl

theorem start_ticker (v : Vector Bool 20) (f : Flasher) : (f.start v).ticker = f.ticker := by
  unfold Flasher.start Flasher.beginLit Flasher.pulse; dsimp only; split <;> rfl

theorem aside_syncFlasher (s : State) : Aside s (syncFlasher s) := by
  unfold syncFlasher
  refine .ite (.ite ?_ (.refl s)) (.ite (.refl s) ?_)
  · exact { Aside.refl s with rateSet := start_rateSet .., ticker := start_ticker .. }
  · exact { Aside.refl s with }

theorem aside_reformFlashSet (s : State) : Aside s (reformFlashSet s) :=
  ⟨by simp, by simp, by simp, fun ch => by rw [chd_reformFlashSet]; split <;> rfl, by simp, by simp, by simp,
    by simp [reformFlashSet], by simp [reformFlashSet], by simp, by simp, by simp⟩

theorem aside_indicate (s : State) : Aside s (indicate s) :=
  Aside.trans (t := { s with crs := { s.crs with flashPresent := s.crs.resolved.toList.any fun r => r = .flashing } })
    { Aside.refl s with } (aside_syncFlasher _)

theorem aside_resolveCircuit (s : State) (c : Circ) : Aside s (resolveCircuit s c) :=
  (((Aside.trans (t := putResolved s c) { Aside.refl s with } (aside_reformFlashSet _)).trans
    (aside_indicate _))).trans (aside_refreshDemands _)

theorem aside_resolveAll (s : State) : Aside s (resolveAll s) :=
  (((Aside.trans (t := { s with crs := { s.crs with resolved := tabulate fun c => resolve s c } })
    { Aside.refl s with } (aside_reformFlashSet _)).trans (aside_indicate _))).trans (aside_handAllDemands _)

theorem aside_handOver (v : Vector Bool 16) (s : State) : Aside s (handOver v s) :=
  .foldl (fun s c => .ite (aside_resolveCircuit s c) (.refl s)) _ s

/-- A step on the claims is its own effect, the outputs aside (R8). -/
theorem aside_withHandOver (f : State → State) (s : State) : Aside (f s) (withHandOver f s) := aside_handOver _ _

theorem aside_setOpenLoad (ch : Chan) (b : Bool) (s : State) : Aside s (setOpenLoad ch b s) :=
  { Aside.refl s with
    profile := fun k => by
      simp only [setOpenLoad, upd_get]
      split
      · next h => rw [h]
      · rfl }

theorem aside_actVerdict (ch : Chan) (e : CheckEntry) (s : State) : Aside s (actVerdict ch e s) := by
  cases e with
  | pass => exact aside_setOpenLoad ..
  | fail => exact (aside_setOpenLoad ..).trans (aside_setFlag ..)
  | pending joined t => exact .refl s
  | unjudged => exact .refl s

theorem aside_actFinal (checks : Vector (Option CheckEntry) 20) (s : State) (ch : Chan) :
    Aside s (actFinal checks s ch) := by
  unfold actFinal
  split
  · exact aside_actVerdict ..
  · exact .refl s

@[simp] theorem setOpenLoad_mdc (ch : Chan) (b : Bool) (s : State) : (setOpenLoad ch b s).mdc = s.mdc := rfl

@[simp] theorem actVerdict_mdc (ch : Chan) (e : CheckEntry) (s : State) : (actVerdict ch e s).mdc = s.mdc := by
  cases e <;> simp [actVerdict]

@[simp] theorem actFinal_mdc (checks : Vector (Option CheckEntry) 20) (s : State) (ch : Chan) :
    (actFinal checks s ch).mdc = s.mdc := by
  unfold actFinal; split <;> simp

/-- A change of the Flasher that leaves its settings. -/
theorem aside_setFls {s : State} {f : Flasher} (hrate : f.rateSet = s.fls.rateSet) (hticker : f.ticker = s.fls.ticker) :
    Aside s { s with fls := f } :=
  { Aside.refl s with rateSet := hrate, ticker := hticker }

@[simp] theorem pulse_rateSet (f : Flasher) : f.pulse.rateSet = f.rateSet := by unfold Flasher.pulse; split <;> rfl
@[simp] theorem pulse_ticker (f : Flasher) : f.pulse.ticker = f.ticker := by unfold Flasher.pulse; split <;> rfl

theorem aside_endLit (s : State) : Aside s (endLit s) := by
  unfold endLit
  split
  · exact ((Aside.foldl (aside_actFinal _) _ s).trans (aside_setFls (by simp) (by simp))).trans
      (aside_refreshDemands _)
  · exact .refl s
  · exact .refl s

theorem aside_endDark (s : State) : Aside s (endDark s) := by
  unfold endDark
  split
  · exact (aside_setFls (by simp [Flasher.beginLit]) (by simp [Flasher.beginLit])).trans (aside_refreshDemands _)
  · exact .refl s
  · exact .refl s

@[simp] theorem endLit_mdc (s : State) : (endLit s).mdc = s.mdc := by
  unfold endLit
  split
  · simpa using foldl_frame (fun s : State => s.mdc) _ (fun s ch => actFinal_mdc _ s ch) _ s
  · rfl
  · rfl

@[simp] theorem endDark_mdc (s : State) : (endDark s).mdc = s.mdc := by
  unfold endDark
  split <;> simp

/-! ### The gauges -/

/-- A change of every gauge's running record. -/
theorem aside_setGau {s : State} {v : Vector Gauge 3} (h : ∀ g, (v.get g).settings = (s.gau.get g).settings) :
    Aside s { s with gau := v } :=
  { Aside.refl s with settings := h }

@[simp] theorem activate_settings (g : Gauge) : g.activate.settings = g.settings := by
  unfold Gauge.activate; split <;> rfl

@[simp] theorem turnOff_settings (g : Gauge) : g.turnOff.settings = g.settings := rfl

theorem aside_gaugesOff (s : State) : Aside s (gaugesOff s) :=
  (aside_setGau (by simp)).trans (aside_refreshDemands _)

theorem aside_gaugesActive (s : State) : Aside s (gaugesActive s) :=
  (aside_setGau (by simp)).trans (aside_refreshDemands _)

@[simp] theorem endHold_settings (g : Gauge) : g.endHold.settings = g.settings := by
  unfold Gauge.endHold
  split
  · split <;> rfl
  all_goals rfl

theorem aside_updateGauges (s : State) : Aside s (updateGauges s) :=
  Aside.trans (t := { s with
      gau := tabulate fun g => (s.gau.get g).update s.sbu.vbatF ((updateReadings s).get g)
      freeCount := if (List.finRange 3).any fun g => (s.gau.get g).samples.isEmpty then s.freeCount + 3
        else s.freeCount })
    { Aside.refl s with
      settings := fun g => by
        rw [tabulate_get]
        exact (Gauge.update_recorded ..).2.1 }
    (aside_setFlagIf ..)

theorem aside_restartGauges (s : State) : Aside s (restartGauges s) :=
  aside_setGau fun g => by
    split <;> simp

/-! ### The channels' own events -/

section profile

variable (c : Channel)

theorem record_profile (threshold reading : Nat) : (c.record threshold reading).profile = c.profile := rfl

theorem enterOn_profile : c.enterOn.profile = c.profile := rfl

theorem endPeriod_profile : c.endPeriod.profile = c.profile := by
  unfold Channel.endPeriod
  split
  · split
    · dsimp only; split <;> rfl
    all_goals rfl
  · rfl

theorem rampStep_profile : c.rampStep.profile = c.profile := by
  unfold Channel.rampStep
  split
  · dsimp only; split <;> rfl
  · rfl

theorem endInrush_profile : c.endInrush.profile = c.profile := by
  unfold Channel.endInrush
  split
  · split <;> rfl
  all_goals rfl

theorem forgive_profile : c.forgive.profile = c.profile := by
  unfold Channel.forgive
  split <;> rfl

theorem endBackOff_profile (run : Bool) : (c.endBackOff run).profile = c.profile := by
  unfold Channel.endBackOff
  split
  · dsimp only; split <;> simp
  all_goals rfl

theorem restore_profile (run : Bool) : (c.restore run).profile = c.profile := by
  unfold Channel.restore
  dsimp only
  split
  · split <;> simp
  all_goals rfl

theorem standDown_profile : c.standDown.profile = c.profile := by
  unfold Channel.standDown
  dsimp only
  split <;> simp

end profile

/-- A channel's record replaced by one with its profile. -/
theorem aside_putChannel {s : State} {ch : Chan} {c : Channel} (h : c.profile = (s.chd.get ch).profile) :
    Aside s { s with chd := put s.chd ch c } :=
  { Aside.refl s with
    profile := fun k => by
      rw [put_get]
      split
      · next hk => rw [h, hk]
      · rfl }

/-- The events that move the outputs, the measurements and the gauges' running records alone. -/
def movesOutputs : Instr → Bool
  | .litExpiry | .darkExpiry | .bulbCheckReading _ | .tickPulseEnd | .currentSample _ _ | .stallTrip _
  | .channelPeriodEnd _ | .motorRampStep _ | .inrushWindowEnd _ | .continuousOnForgive _ | .backOffExpiry _
  | .openLoadDetected _ | .openLoadCleared _ | .supplySample _ _ _ | .senderSample _ _ _ | .gaugeUpdate
  | .faultHoldEnd _ | .heaterPeriodEnd _ => true
  | _ => false


/-- An effect that moves the outputs alone leaves Mode Control too. -/
abbrev OutputsOnly (f : State → State) : Prop := ∀ s, Aside s (f s) ∧ (f s).mdc = s.mdc

/-- A command whose effect moves the outputs alone. -/
abbrev MovesOutputs (r : Host.Outcome State Fault Refusal) (s : State) : Prop := ∃ f, OutputsOnly f ∧ r = act f s

theorem outputs_litExpiry (s : State) : MovesOutputs (execLitExpiry s) s := by
  unfold execLitExpiry
  refine ⟨_, ?_, rfl⟩
  intro s
  exact ⟨aside_endLit s, by simp⟩

theorem outputs_darkExpiry (s : State) : MovesOutputs (execDarkExpiry s) s := by
  unfold execDarkExpiry
  refine ⟨_, ?_, rfl⟩
  intro s
  exact ⟨aside_endDark s, by simp⟩

theorem outputs_bulbCheckReading (ch : Chan) (s : State) : MovesOutputs (execBulbCheckReading ch s) s := by
  unfold execBulbCheckReading
  refine ⟨_, ?_, rfl⟩
  intro s
  dsimp only
  split
  · split
    · refine ⟨(Aside.trans ?_ (aside_actVerdict ..)).trans (aside_refreshDemands _), by simp⟩
      exact aside_setFls rfl rfl
    · exact ⟨.refl s, rfl⟩
  · exact ⟨.refl s, rfl⟩

theorem outputs_tickPulseEnd (s : State) : MovesOutputs (execTickPulseEnd s) s := by
  unfold execTickPulseEnd
  refine ⟨_, ?_, rfl⟩
  intro s
  exact ⟨aside_setFls rfl rfl, rfl⟩

theorem outputs_currentSample (ch : Chan) (reading : Nat) (s : State) : MovesOutputs (execCurrentSample ch reading s) s := by
  unfold execCurrentSample
  refine ⟨_, ?_, rfl⟩
  intro s
  have hrecord := aside_modifyChannel (f := Channel.record (tripThreshold ch (s.chd.get ch)) (min 500 reading))
    (fun c => record_profile c _ _) ch s
  have hmdc := modifyChannel_mdc ch (Channel.record (tripThreshold ch (s.chd.get ch)) (min 500 reading)) s
  dsimp only
  generalize modifyChannel ch (Channel.record (tripThreshold ch (s.chd.get ch)) (min 500 reading)) s = u at *
  split
  · split
    · exact ⟨hrecord.trans (aside_tripChannel ..), by rw [tripChannel_mdc, hmdc]⟩
    · split
      · exact ⟨hrecord.trans (aside_tripChannel ..), by rw [tripChannel_mdc, hmdc]⟩
      · exact ⟨hrecord, hmdc⟩
  · exact ⟨.refl s, rfl⟩

theorem outputs_stallTrip (ch : Chan) (s : State) : MovesOutputs (execStallTrip ch s) s := by
  unfold execStallTrip
  refine ⟨_, ?_, rfl⟩
  intro s
  dsimp only
  split
  · exact ⟨aside_tripChannel .., by simp⟩
  · exact ⟨.refl s, rfl⟩

theorem outputs_channelPeriodEnd (ch : Chan) (s : State) : MovesOutputs (execChannelPeriodEnd ch s) s := by
  unfold execChannelPeriodEnd
  refine ⟨_, ?_, rfl⟩
  intro s
  exact ⟨aside_modifyChannel endPeriod_profile ch s, by simp⟩

theorem outputs_motorRampStep (ch : Chan) (s : State) : MovesOutputs (execMotorRampStep ch s) s := by
  unfold execMotorRampStep
  refine ⟨_, ?_, rfl⟩
  intro s
  exact ⟨aside_modifyChannel rampStep_profile ch s, by simp⟩

theorem outputs_inrushWindowEnd (ch : Chan) (s : State) : MovesOutputs (execInrushWindowEnd ch s) s := by
  unfold execInrushWindowEnd
  refine ⟨_, ?_, rfl⟩
  intro s
  exact ⟨aside_modifyChannel endInrush_profile ch s, by simp⟩

theorem outputs_continuousOnForgive (ch : Chan) (s : State) : MovesOutputs (execContinuousOnForgive ch s) s := by
  unfold execContinuousOnForgive
  refine ⟨_, ?_, rfl⟩
  intro s
  exact ⟨aside_modifyChannel forgive_profile ch s, by simp⟩

theorem outputs_backOffExpiry (ch : Chan) (s : State) : MovesOutputs (execBackOffExpiry ch s) s := by
  unfold execBackOffExpiry
  refine ⟨_, ?_, rfl⟩
  intro s
  exact ⟨aside_modifyChannel (fun c => endBackOff_profile c _) ch s, by simp⟩

theorem outputs_openLoadDetected (ch : Chan) (s : State) : MovesOutputs (execOpenLoadDetected ch s) s := by
  unfold execOpenLoadDetected
  refine ⟨_, ?_, rfl⟩
  intro s
  dsimp only
  split
  · refine ⟨((Aside.trans ?_ (aside_setOpenLoad ..)).trans (aside_setFlagIf ..)).trans (aside_refreshDemands _), by simp⟩
    exact aside_putChannel rfl
  · exact ⟨.refl s, rfl⟩

theorem outputs_openLoadCleared (ch : Chan) (s : State) : MovesOutputs (execOpenLoadCleared ch s) s := by
  unfold execOpenLoadCleared
  refine ⟨_, ?_, rfl⟩
  intro s
  dsimp only
  split
  · refine ⟨(Aside.trans ?_ (aside_setOpenLoad ..)).trans (aside_refreshDemands _), by simp⟩
    exact aside_putChannel rfl
  · exact ⟨.refl s, rfl⟩

theorem outputs_supplySample (vbat : Nat) (vgen : Nat) (ibat : Int) (s : State) : MovesOutputs (execSupplySample vbat vgen ibat s) s := by
  unfold execSupplySample
  refine ⟨_, ?_, rfl⟩
  intro s
  dsimp only
  split
  · exact ⟨{ Aside.refl s with }, rfl⟩
  · exact ⟨{ Aside.refl s with }, rfl⟩

theorem outputs_senderSample (a0 : BitVec 12) (a1 : BitVec 12) (a2 : BitVec 12) (s : State) : MovesOutputs (execSenderSample a0 a1 a2 s) s := by
  unfold execSenderSample
  refine ⟨_, ?_, rfl⟩
  intro s
  dsimp only
  split
  · exact ⟨{ Aside.refl s with settings := fun g => by simp }, rfl⟩
  · exact ⟨{ Aside.refl s with }, rfl⟩

theorem outputs_gaugeUpdate (s : State) : MovesOutputs (execGaugeUpdate s) s := by
  unfold execGaugeUpdate
  refine ⟨_, ?_, rfl⟩
  intro s
  dsimp only
  split
  · exact ⟨(aside_updateGauges s).trans (aside_refreshDemands _), by simp [updateGauges]⟩
  · exact ⟨.refl s, rfl⟩

theorem outputs_faultHoldEnd (g : GaugeIx) (s : State) : MovesOutputs (execFaultHoldEnd g s) s := by
  unfold execFaultHoldEnd
  refine ⟨_, ?_, rfl⟩
  intro s
  dsimp only
  split
  · exact ⟨(aside_setGau fun k => by rw [upd_get]; split <;> simp_all).trans (aside_refreshDemands _), by simp⟩
  · exact ⟨.refl s, rfl⟩

theorem outputs_heaterPeriodEnd (g : GaugeIx) (s : State) : MovesOutputs (execHeaterPeriodEnd g s) s := by
  unfold execHeaterPeriodEnd
  refine ⟨_, ?_, rfl⟩
  intro s
  dsimp only
  split
  · exact ⟨aside_setGau fun k => by rw [upd_get]; split <;> simp_all, rfl⟩
  · exact ⟨.refl s, rfl⟩

theorem exec_movesOutputs {c : Instr} (hc : movesOutputs c = true) (s : State) : MovesOutputs (exec c s) s := by
  cases c <;> try contradiction
  case litExpiry => exact outputs_litExpiry s
  case darkExpiry => exact outputs_darkExpiry s
  case bulbCheckReading ch => exact outputs_bulbCheckReading ch s
  case tickPulseEnd => exact outputs_tickPulseEnd s
  case currentSample ch reading => exact outputs_currentSample ch reading s
  case stallTrip ch => exact outputs_stallTrip ch s
  case channelPeriodEnd ch => exact outputs_channelPeriodEnd ch s
  case motorRampStep ch => exact outputs_motorRampStep ch s
  case inrushWindowEnd ch => exact outputs_inrushWindowEnd ch s
  case continuousOnForgive ch => exact outputs_continuousOnForgive ch s
  case backOffExpiry ch => exact outputs_backOffExpiry ch s
  case openLoadDetected ch => exact outputs_openLoadDetected ch s
  case openLoadCleared ch => exact outputs_openLoadCleared ch s
  case supplySample vbat vgen ibat => exact outputs_supplySample vbat vgen ibat s
  case senderSample a0 a1 a2 => exact outputs_senderSample a0 a1 a2 s
  case gaugeUpdate => exact outputs_gaugeUpdate s
  case faultHoldEnd g => exact outputs_faultHoldEnd g s
  case heaterPeriodEnd g => exact outputs_heaterPeriodEnd g s

/-! ### The requests that change no claim, configuration or mode -/

/-- A request's effect that moves the outputs alone. -/
abbrev BodyAside (body : List Byte → State → State × Reply) : Prop :=
  ∀ p s, Aside s (body p s).1 ∧ (body p s).1.mdc = s.mdc

theorem bodyAside_of_state {body : List Byte → State → State × Reply} (h : ∀ p s, (body p s).1 = s) :
    BodyAside body := by
  intro p s
  rw [h]
  exact ⟨.refl s, rfl⟩

theorem readAll_state (fields : State → List Byte) (p : List Byte) (s : State) : (readAll fields p s).1 = s := by
  unfold readAll; split <;> rfl

theorem claimLookup_state (p : List Byte) (s : State) : (claimLookup p s).1 = s := by
  unfold claimLookup
  split
  · split <;> rfl
  · rfl

theorem claimScan_state (p : List Byte) (s : State) : (claimScan p s).1 = s := by
  unfold claimScan
  split
  · split <;> rfl
  · rfl

theorem circuitRead_state (p : List Byte) (s : State) : (circuitRead p s).1 = s := by
  unfold circuitRead
  split
  · split
    · rfl
    · split <;> rfl
  · rfl

theorem profileRead_state (p : List Byte) (s : State) : (profileRead p s).1 = s := by
  unfold profileRead
  split
  · split <;> rfl
  · rfl

theorem groupRead_state (p : List Byte) (s : State) : (groupRead p s).1 = s := by
  unfold groupRead
  split
  · split <;> rfl
  · rfl

theorem bindRead_state (p : List Byte) (s : State) : (bindRead p s).1 = s := by
  unfold bindRead
  split
  · split <;> rfl
  · rfl

theorem gaugeRead_state (p : List Byte) (s : State) : (gaugeRead p s).1 = s := by
  unfold gaugeRead
  split
  · split
    · rfl
    · split <;> rfl
  · rfl

theorem statusClear_aside : BodyAside statusClear := by
  intro p s
  unfold statusClear
  split
  · exact ⟨{ Aside.refl s with }, rfl⟩
  · exact ⟨.refl s, rfl⟩

theorem enableChange_aside (f : BitVec 17 → BitVec 17 → BitVec 17) : BodyAside (enableChange f) := by
  intro p s
  unfold enableChange
  split
  · exact ⟨{ Aside.refl s with }, rfl⟩
  · exact ⟨.refl s, rfl⟩

/-- CHANNEL.READ changes the lifetime counter at most (R106). -/
theorem channelRead_aside : BodyAside channelRead := by
  intro p s
  unfold channelRead
  split
  · split
    · exact ⟨.refl s, rfl⟩
    · split
      · exact ⟨.refl s, rfl⟩
      · dsimp only
        split
        · exact ⟨aside_putChannel rfl, rfl⟩
        · exact ⟨.refl s, rfl⟩
  · exact ⟨.refl s, rfl⟩

theorem channelRestore_aside : BodyAside channelRestore := by
  intro p s
  unfold channelRestore
  split
  · split
    · exact ⟨.refl s, rfl⟩
    · exact ⟨aside_modifyChannel (fun c => restore_profile c _) _ s, by simp⟩
  · exact ⟨.refl s, rfl⟩

/-- The requests that change at most a channel's record, the status set and the enable set. -/
def changesNoClaim : Instr → Bool
  | .claimLookup _ | .claimScan _ | .supplyRead _ | .circuitRead _ | .flasherRead _ | .profileRead _ | .groupRead _
  | .bindRead _ | .gaugeRead _ | .statusRead _ | .enableRead _ | .pendingRead _ | .deviceRead _ | .statusClear _
  | .enableSet _ | .enableClear _ | .channelRead _ | .channelRestore _ => true
  | _ => false

theorem exec_changesNoClaim {c : Instr} (hc : changesNoClaim c = true) (s : State) :
    ∃ r body p, BodyAside body ∧ exec c s = serve r body p s := by
  cases c <;> try contradiction
  case claimLookup p => exact ⟨_, _, p, bodyAside_of_state claimLookup_state, rfl⟩
  case claimScan p => exact ⟨_, _, p, bodyAside_of_state claimScan_state, rfl⟩
  case supplyRead p => exact ⟨_, _, p, bodyAside_of_state (readAll_state _), rfl⟩
  case circuitRead p => exact ⟨_, _, p, bodyAside_of_state circuitRead_state, rfl⟩
  case flasherRead p => exact ⟨_, _, p, bodyAside_of_state (readAll_state _), rfl⟩
  case profileRead p => exact ⟨_, _, p, bodyAside_of_state profileRead_state, rfl⟩
  case groupRead p => exact ⟨_, _, p, bodyAside_of_state groupRead_state, rfl⟩
  case bindRead p => exact ⟨_, _, p, bodyAside_of_state bindRead_state, rfl⟩
  case gaugeRead p => exact ⟨_, _, p, bodyAside_of_state gaugeRead_state, rfl⟩
  case statusRead p => exact ⟨_, _, p, bodyAside_of_state (readAll_state _), exec_statusRead p s⟩
  case enableRead p => exact ⟨_, _, p, bodyAside_of_state (readAll_state _), exec_enableRead p s⟩
  case pendingRead p => exact ⟨_, _, p, bodyAside_of_state (readAll_state _), exec_pendingRead p s⟩
  case deviceRead p => exact ⟨_, _, p, bodyAside_of_state (readAll_state _), rfl⟩
  case statusClear p => exact ⟨_, _, p, statusClear_aside, rfl⟩
  case enableSet p => exact ⟨_, _, p, enableChange_aside _, exec_enableSet p s⟩
  case enableClear p => exact ⟨_, _, p, enableChange_aside _, exec_enableClear p s⟩
  case channelRead p => exact ⟨_, _, p, channelRead_aside, rfl⟩
  case channelRestore p => exact ⟨_, _, p, channelRestore_aside, rfl⟩

end Sys2Proof.Machine

/-! PROOFS. The claims through a step: the operations by which a command can change the claim table, the claim links and
the circuit table, and what every step keeps when each of these operations keeps it. -/

namespace Sys2Proof.Machine

theorem le_clampNat (lo hi x : Nat) : lo ≤ clampNat lo hi x := Nat.le_max_left ..

theorem clampNat_le {lo hi : Nat} (h : lo ≤ hi) (x : Nat) : clampNat lo hi x ≤ hi :=
  Nat.max_le.mpr ⟨h, Nat.min_le_left ..⟩

theorem inRange_iff (p : SettlePart) :
    p.inRange = true ↔ 1 ≤ p.share ∧ p.share ≤ 250 ∧ 1 ≤ p.left ∧ p.left ≤ 4 := by
  simp [SettlePart.inRange, and_assoc]

/-- Two states with the same claims, claim links and circuit table; the second is in LOADING only when the first is. -/
structure SameClaims (s t : State) : Prop where
  clt : t.clt = s.clt
  inForce : t.crs.inForce = s.crs.inForce
  pendingEntry : t.crs.pendingEntry = s.crs.pendingEntry
  link : ∀ b, (t.bde.recs.get b).link = (s.bde.recs.get b).link
  mode : t.mdc.mode = .loading → s.mdc.mode = .loading

theorem SameClaims.refl (s : State) : SameClaims s s := ⟨rfl, rfl, rfl, fun _ => rfl, id⟩

theorem SameClaims.trans {s t u : State} (h : SameClaims s t) (h' : SameClaims t u) : SameClaims s u :=
  ⟨h'.clt.trans h.clt, h'.inForce.trans h.inForce, h'.pendingEntry.trans h.pendingEntry,
    fun b => (h'.link b).trans (h.link b), fun hm => h.mode (h'.mode hm)⟩

theorem Aside.sameClaims {s t : State} (h : Aside s t) : SameClaims s t :=
  ⟨h.clt, h.inForce, h.pendingEntry, fun b => by rw [h.bde], fun hm => h.mode ▸ hm⟩

theorem aside_setSbu (s : State) (b : Budget) : Aside s { s with sbu := b } := { Aside.refl s with }

/-- A record whose expiry, settle part and hold reasons alone have moved, the settle part within its range (R32). -/
structure Claim.Counted (c c' : Claim) : Prop where
  rest : c' = { c with state := c'.state, expiry := c'.expiry, settle := c'.settle }
  held : c'.isHeld = c.isHeld
  level : c'.granted = c.granted
  settle : c.settle.all SettlePart.inRange = true → c'.settle.all SettlePart.inRange = true

/-- The claims, the levels and the shares at RESUME before the entry to RUN (R184). -/
def refitted (s : State) : State :=
  let s := applyPending s
  let s := (strandedSlots s).foldl (fun s i => retire i s) s
  let s := mapClaims (fun c => c.fitLevels (maxLevelOf s c.circuit)) s
  mapClaims (fun c => c.retakeShare s) s

theorem resumeRun_eq (s : State) : (resumeRun s).1 = enterRun false (requestPass (refitted s)) := by
  simp only [resumeRun, refitted]

/-- A property of the claims that every operation on them keeps, given what a step knows where it uses the operation. -/
structure ClaimLaw (P : State → Prop) : Prop where
  same : ∀ {s t}, SameClaims s t → P s → P t
  grant : ∀ {s i c l share}, claimAt s i = some c →
    (ClaimsSound s → c.floor ≤ l ∧ l ≤ c.requested ∧ share ≤ 250) → P s → P (makeGranted i l share s)
  step : ∀ {s i c l share}, claimAt s i = some c → c.isHeld = false →
    (ClaimsSound s → c.floor ≤ l ∧ l ≤ c.requested ∧ share ≤ 250) → P s → P (stepLevel i l share s)
  hold : ∀ {s i c}, claimAt s i = some c → c.cls ≠ .safety → ∀ r, P s → P (makeHeld i r s)
  count : ∀ {f : Claim → Claim}, (∀ c : Claim, c.Counted (f c)) → ∀ s i, P s → P (modifyClaim i f s)
  countAll : ∀ {f : Claim → Claim}, (∀ c : Claim, c.Counted (f c)) → ∀ s, P s → P (mapClaims f s)
  retire : ∀ s i, P s → P (retire i s)
  alter : ∀ {s i c}, claimAt s i = some c → ∀ a, P s → P (alter i c a s)
  raise : ∀ {s i} {r : Raise}, s.mdc.mode = .run → claimAt s i = none → r.origin = .link →
    linkClaimOn s r.circuit = none → P s → P (raiseInto i r s)
  bind : ∀ {s i b} {r : Raise}, s.mdc.mode = .run → claimAt s i = none → r.origin = .binding b →
    (∀ h, (s.bde.recs.get b).link ≠ .claim h) → P s → P (setLink b (.claim (handleAt s i)) (raiseInto i r s))
  unlink : ∀ {s b l}, (∀ h, (s.bde.recs.get b).link ≠ .claim h) → (∀ h, l ≠ .claim h) → P s → P (setLink b l s)
  replace : ∀ s b e, P s → P (replaceBinding b e s)
  refit : ∀ s, s.mdc.mode = .quiesced → P s → P (refitted s)
  pend : ∀ s c e, CircuitEntry.sound e = true → P s →
    P { s with crs := { s.crs with pendingEntry := put s.crs.pendingEntry c (some e) } }
  load : ∀ s bytes c, readImage bytes = some c → P s → P (loadImage c s)
  loading : ∀ s bytes found, found = none ∨ found = readImage bytes → s.mdc.mode = .loading → P s →
    P (loadConfiguration found s)
  reset : ∀ s cause, P (resetState cause s)

namespace ClaimLaw

variable {P : State → Prop} (law : ClaimLaw P)
include law

theorem aside {s t : State} (h : Aside s t) (hP : P s) : P t := law.same h.sameClaims hP

/-! ### Crank and host hold -/

/-- A walk that makes live claims HELD, none of them SAFETY. -/
theorem foldl_makeHeld (r : HoldReasons) (xs : List SlotIx) (s : State)
    (hxs : ∀ i ∈ xs, ∃ c, claimAt s i = some c ∧ c.cls ≠ .safety) (h : P s) :
    P (xs.foldl (fun s i => makeHeld i r s) s) := by
  induction xs generalizing s with
  | nil => exact h
  | cons x xs ih =>
    obtain ⟨c, hc, hcls⟩ := hxs x List.mem_cons_self
    refine ih _ (fun i hi => ?_) (law.hold hc hcls r h)
    obtain ⟨d, hd, hdcls⟩ := hxs i (List.mem_cons_of_mem x hi)
    rw [claimAt_makeHeld]
    split
    · rw [hc]
      exact ⟨_, rfl, hcls⟩
    · exact ⟨d, hd, hdcls⟩

omit law in
theorem exists_of_slotClass {s : State} {i : SlotIx} {p : ClaimClass → Bool} (hp : p .safety = false)
    (h : slotClass s i p = true) : ∃ c, claimAt s i = some c ∧ c.cls ≠ .safety := by
  unfold slotClass at h
  split at h
  · next c hc =>
    refine ⟨c, hc, fun hcls => ?_⟩
    rw [hcls, hp] at h
    contradiction
  · contradiction

theorem crankWalk {s : State} (h : P s) : P (crankWalk s) :=
  law.foldl_makeHeld _ _ s (fun _ hi => exists_of_slotClass rfl (List.mem_filter.mp hi).2) h

theorem handed {f : State → State} {s : State} (h : P (f s)) : P (withHandOver f s) :=
  law.aside (aside_withHandOver f s) h

theorem beginCrank {s : State} (h : P s) : P (beginCrank s) := by
  unfold Machine.beginCrank
  split
  · exact h
  · exact law.aside (aside_setFlag ..)
      (law.handed (f := fun s => Machine.crankWalk { s with sbu := { s.sbu with crank := .cranking } })
        (law.crankWalk (law.same { SameClaims.refl s with } h)))

theorem crankCheck {s : State} (h : P s) : P (crankCheck s) := by
  unfold Machine.crankCheck
  split
  · exact law.beginCrank h
  · exact h

theorem beginRequested {s : State} (h : P s) : P (beginRequested s) :=
  law.same ⟨by simp, by simp, by simp, by simp, by simp⟩ h

theorem enterRun (b : Bool) {s : State} (h : P s) : P (enterRun b s) := by
  rw [enterRun_eq]
  exact law.beginRequested (law.crankCheck (law.same ⟨by simp, by simp, by simp, by simp, by simp⟩ h))

theorem wake {s : State} (h : P s) : P (wake s) := law.enterRun true (law.aside (aside_setFlag ..) h)

theorem requestPass {s : State} (h : P s) : P (requestPass s) :=
  law.same (t := Machine.requestPass s) { SameClaims.refl s with } h

theorem resumeRun {s : State} (hmode : s.mdc.mode = .quiesced) (h : P s) : P (resumeRun s).1 := by
  rw [resumeRun_eq]
  exact law.enterRun false (law.requestPass (law.refit s hmode h))

omit law in
theorem counted_mapReasons (f : HoldReasons → HoldReasons) (c : Claim) : c.Counted (c.mapReasons f) := by
  obtain ⟨origin, circuit, mode, cls, req, floor, share, source, state, expiry, settle⟩ := c
  cases state <;> exact ⟨rfl, rfl, rfl, id⟩

theorem endRecovery {s : State} (h : P s) : P (endRecovery s) :=
  law.countAll (counted_mapReasons _) _ (law.same { SameClaims.refl s with } h)

theorem endHostHold {s : State} (h : P s) : P (endHostHold s) :=
  law.countAll (counted_mapReasons _) _ (law.same { SameClaims.refl s with } h)

theorem placeHostHold (hold : HostHold) {s : State} (h : P s) : P (placeHostHold hold s).1 :=
  law.foldl_makeHeld _ _ _ (fun _ hi => exists_of_slotClass rfl (List.mem_filter.mp hi).2)
    (law.countAll (fun _ => counted_mapReasons _ _) _ (law.same { SameClaims.refl s with } h))

/-! ### Leaving RUN -/

theorem leaveRun {m : Mode} (hm : m ≠ .loading) {s : State} (h : P s) : P (leaveRun m s) := by
  refine law.same ⟨by simp, by simp, by simp, fun b => ?_, fun h => absurd (by simpa using h) hm⟩ h
  rw [leaveRun_bde]
  unfold abandonPass
  split
  · rfl
  · simp [Machine.requestPass]

theorem stopBudget {s : State} (h : P s) : P (stopBudget s) :=
  law.same (s := Machine.endRecovery (Machine.endHostHold s)) { SameClaims.refl _ with }
    (law.endRecovery (law.endHostHold h))

/-! ### The evaluation -/

omit law in
theorem aside_measureStage (s : State) : Aside s (Machine.measureStage s) := by
  have hform : Aside s (formFiltered s) := by
    unfold formFiltered
    split <;> exact { Aside.refl s with }
  have hband (s : State) : Aside s (setBand s) := by
    unfold setBand
    split
    · exact (aside_setSbu s _).trans (aside_setFlagIf ..)
    · exact .refl s
  have hcharging (s : State) : Aside s (setCharging s) := (aside_setSbu s _).trans (aside_setFlagIf ..)
  exact (hform.trans (hband _)).trans (hcharging _)

theorem measureStage {s : State} (h : P s) : P (measureStage s) := law.aside (aside_measureStage s) h

omit law in
theorem counted_countSettle (c : Claim) : c.Counted c.countSettle := by
  refine ⟨rfl, rfl, rfl, ?_⟩
  unfold Claim.countSettle SettlePart.countDown
  cases c.settle with
  | none => exact id
  | some p =>
    dsimp only [Option.bind_some]
    split
    · simp
    · simp only [Option.all_some, inRange_iff]
      omega

theorem countRecovery {s : State} (h : P s) : P (countRecovery s) := by
  unfold Machine.countRecovery
  split
  · split
    · exact law.endRecovery h
    · exact law.same { SameClaims.refl s with } h
  · exact h
  · exact h

theorem countHostHold {s : State} (h : P s) : P (countHostHold s) := by
  unfold Machine.countHostHold
  split
  · split
    · exact law.endHostHold h
    · exact law.same { SameClaims.refl s with } h
  · exact h

omit law in
theorem counted_expiry (o : Option Nat) (c : Claim) : c.Counted { c with expiry := o } := ⟨rfl, rfl, rfl, id⟩

theorem countExpiry {s : State} (i : SlotIx) (h : P s) : P (countExpiry s i) := by
  unfold Machine.countExpiry
  split
  · exact h
  · split
    · exact h
    · split
      · exact law.aside (aside_setFlag ..) (law.retire s i h)
      · exact law.count (fun c => counted_expiry _ c) s i h

theorem countStages {s : State} (h : P s) : P (countStages s) := by
  have hsettle : P (mapClaims Claim.countSettle s) := law.countAll counted_countSettle s h
  have htimer := law.countAll (counted_mapReasons HoldReasons.countTimer) _ hsettle
  exact Keeps.foldl (fun i s h => law.countExpiry (s := s) i h) _ _ (law.countHostHold (law.countRecovery htimer))

omit law in
/-- A change of the record in a slot is that of the record it holds. -/
theorem modifyClaim_congr {s : State} {i : SlotIx} {c : Claim} (hc : claimAt s i = some c) {f g : Claim → Claim}
    (h : f c = g c) : modifyClaim i f s = modifyClaim i g s := by
  have hslots : (upd s.clt.slots i fun sl => { sl with claim := sl.claim.map f })
      = upd s.clt.slots i fun sl => { sl with claim := sl.claim.map g } := by
    refine tbl_ext fun j => ?_
    have hc' : (s.clt.slots.get i).claim = some c := hc
    simp only [upd_get, hc', Option.map_some, h]
  simp only [modifyClaim, hslots]

omit law in
theorem levels_of_claimsSound {s : State} (h : ClaimsSound s) {i : SlotIx} {c : Claim} (hc : claimAt s i = some c) :
    c.levelsInOrder (maxLevelOf s c.circuit) = true ∧ c.shareFull ≤ 250 ∧ 0 < maxLevelOf s c.circuit := by
  obtain ⟨⟨hmax, -, hlevels⟩, hshares, -, -⟩ := h
  have hl := hlevels i
  have hs := hshares i
  rw [hc] at hl hs
  exact ⟨by simpa using hl, by simpa using hs, (hmax c.circuit).1⟩

omit law in
theorem levelsInOrder_iff (m : Nat) (c : Claim) : c.levelsInOrder m = true ↔
    1 ≤ c.floor ∧ c.floor ≤ c.requested ∧ c.requested ≤ m
      ∧ (c.isHeld = false → c.floor ≤ c.granted ∧ c.granted ≤ c.requested)
      ∧ (c.mode = .flash → c.requested = m ∧ c.floor = m) := by
  obtain ⟨origin, circuit, mode, cls, req, floor, share, source, state, expiry, settle⟩ := c
  cases state <;> cases mode <;>
    simp [Claim.levelsInOrder, Claim.isHeld, Claim.granted, and_assoc]

omit law in
theorem exists_of_firstClass {classes : List ClaimClass} {find : ClaimClass → Option SlotIx} {i : SlotIx}
    (h : firstClass classes find = some i) : ∃ k ∈ classes, find k = some i :=
  List.exists_of_findSome?_eq_some h

omit law in
theorem stepLevel_zero {s : State} {i : SlotIx} {c : Claim} (hc : claimAt s i = some c) :
    modifyClaim i (fun c => { c with state := .granted (c.granted - 1) }) s = stepLevel i (c.granted - 1) 0 s :=
  modifyClaim_congr hc (by simp [addSettle])

theorem shed {s : State} {i : SlotIx} {c : Claim} (hc : claimAt s i = some c) (hg : c.isHeld = false)
    (hcls : c.cls ≠ .safety) (h : P s) : P (shed i s) := by
  unfold Machine.shed
  rw [hc]
  dsimp only
  split
  · next hfloor =>
    rw [stepLevel_zero hc]
    refine law.step hc hg (fun hsound => ?_) h
    obtain ⟨hlevels, -, -⟩ := levels_of_claimsSound hsound hc
    obtain ⟨-, -, -, hlevel, -⟩ := (levelsInOrder_iff ..).mp hlevels
    have := hlevel hg
    omega
  · exact law.aside (aside_setFlag ..) (law.hold hc hcls _ h)

theorem setRuns (deficit surplus : Nat) {s : State} (h : P s) : P (setRuns deficit surplus s) :=
  law.same (t := Machine.setRuns deficit surplus s) { SameClaims.refl s with } h

theorem deficitStage {s : State} (h : P s) : P (deficitStage s) := by
  unfold Machine.deficitStage
  dsimp only
  split
  · split
    · next i hi =>
      obtain ⟨k, hk, hfind⟩ := exists_of_firstClass hi
      obtain ⟨c, hc, hg, hcls, -⟩ := (grantedIn_iff ..).mp (List.find?_some hfind)
      have hsafe : c.cls ≠ .safety := by
        rw [hcls]
        rintro rfl
        simp at hk
      exact law.shed (s := Machine.setRuns 0 0 s) hc hg hsafe (law.setRuns 0 0 h)
    · exact law.setRuns 2 0 h
  · exact law.setRuns _ 0 h

omit law in
/-- A level found for a claim lies from its floor to its requested level. -/
theorem fittingLevel_bounds {s : State} {c : Claim} {room : Int} {l : Nat} (h : fittingLevel s c room = some l) :
    c.floor ≤ l ∧ l ≤ c.requested := by
  have hmem := List.mem_of_find?_eq_some h
  simp only [levelsDown, List.mem_map, List.mem_range] at hmem
  obtain ⟨k, hk, rfl⟩ := hmem
  omega

omit law in
theorem claimShare_le {s : State} (h : ClaimsSound s) {i : SlotIx} {c : Claim} (hc : claimAt s i = some c) {l : Nat}
    (hl : l ≤ c.requested) : claimShare s c l ≤ 250 := by
  obtain ⟨hlevels, hshare, hmax⟩ := levels_of_claimsSound h hc
  obtain ⟨-, -, hreq, -, -⟩ := (levelsInOrder_iff ..).mp hlevels
  exact (claimShare_le_shareFull hmax (hl.trans hreq)).trans hshare

theorem takeBack {s : State} {i : SlotIx} {c : Claim} (room : Int) (hc : claimAt s i = some c)
    (hlow : c.isHeld = false → c.granted < c.requested) (h : P s) : P (takeBack room i s) := by
  unfold Machine.takeBack
  rw [hc]
  dsimp only
  split
  · refine law.aside (aside_setFlag ..) (law.grant hc (fun hsound => ?_) h)
    obtain ⟨hlevels, -, -⟩ := levels_of_claimsSound hsound hc
    obtain ⟨-, hfloor, -, -, -⟩ := (levelsInOrder_iff ..).mp hlevels
    cases c.mode with
    | flash => exact ⟨hfloor, le_rfl, claimShare_le hsound hc le_rfl⟩
    | steady =>
      have hbounds : c.floor ≤ (fittingLevel s c (room - 10)).getD c.floor
          ∧ (fittingLevel s c (room - 10)).getD c.floor ≤ c.requested := by
        cases hfit : fittingLevel s c (room - 10) with
        | none => exact ⟨le_rfl, hfloor⟩
        | some l => exact fittingLevel_bounds hfit
      exact ⟨hbounds.1, hbounds.2, claimShare_le hsound hc hbounds.2⟩
  · next hg =>
    have hg : c.isHeld = false := by simpa using hg
    refine law.step hc hg (fun hsound => ?_) h
    obtain ⟨hlevels, -, -⟩ := levels_of_claimsSound hsound hc
    obtain ⟨-, -, -, hlevel, -⟩ := (levelsInOrder_iff ..).mp hlevels
    have hshare : claimShare s c (c.granted + 1) ≤ 250 := claimShare_le hsound hc (hlow hg)
    obtain ⟨hfloor, -⟩ := hlevel hg
    exact ⟨hfloor.trans (Nat.le_succ _), hlow hg, (Nat.sub_le ..).trans hshare⟩

omit law in
/-- The candidate is a live claim, DEGRADED when it is GRANTED (R41). -/
theorem exists_of_candidate {s : State} {i : SlotIx} (h : candidate s = some i) :
    ∃ c, claimAt s i = some c ∧ (c.isHeld = false → c.granted < c.requested) := by
  unfold candidate at h
  split at h
  · next j hj =>
    injection h with h
    subst h
    obtain ⟨c, hc, hst⟩ := (reasonFree_iff ..).mp (List.find?_some hj)
    exact ⟨c, hc, fun hg => by simp [held_of_state hst] at hg⟩
  · obtain ⟨k, -, hfind⟩ := exists_of_firstClass h
    obtain ⟨c, hc, -, -, hdeg⟩ := (grantedIn_iff ..).mp (List.find?_some hfind)
    exact ⟨c, hc, fun _ => ((degraded_iff c).mp hdeg).2⟩

theorem surplusStage (room : Int) {s : State} (h : P s) : P (surplusStage room s) := by
  unfold Machine.surplusStage
  split
  · exact law.setRuns 0 0 h
  · next i hi =>
    obtain ⟨c, hc, hlow⟩ := exists_of_candidate hi
    rw [hc]
    dsimp only
    split
    · split
      · exact law.takeBack (s := Machine.setRuns 0 0 s) room hc hlow (law.setRuns 0 0 h)
      · exact law.setRuns 0 _ h
    · exact law.setRuns 0 0 h

theorem actionStage {s : State} (h : P s) : P (actionStage s) := by
  unfold Machine.actionStage
  dsimp only
  split
  · split
    · exact law.deficitStage h
    · exact law.surplusStage _ h
  · exact law.setRuns 0 0 h

theorem evaluationStages {s : State} (h : P s) : P (evaluationStages s) :=
  law.actionStage (law.countStages (law.measureStage h))

/-! ### The pass -/

omit law in
theorem setLink_link (b k : BindIx) (l : BindLink) (s : State) :
    ((setLink b l s).bde.recs.get k).link = if b = k then l else (s.bde.recs.get k).link := by
  simp only [setLink, upd_get]
  split <;> rfl

theorem bindingRaise {s : State} (b : BindIx) (a : Action) (hmode : s.mdc.mode = .run)
    (hlink : ∀ h, (s.bde.recs.get b).link ≠ .claim h) (h : P s) : P (bindingRaise b a s) := by
  unfold Machine.bindingRaise
  split
  · exact law.unlink hlink (by simp) h
  · split
    · exact law.aside (aside_setFlag ..) (law.unlink hlink (by simp) h)
    · next i hi => exact law.bind hmode (freeSlot_free hi) rfl hlink h

theorem reconcile {s : State} (b : BindIx) (a : Action) (matched : Bool) (hmode : s.mdc.mode = .run) (h : P s) :
    P (reconcile b a matched s) := by
  unfold Machine.reconcile
  split
  · next hl => exact law.bindingRaise b a hmode (by simp [hl]) h
  · next hl => exact law.bindingRaise b a hmode (by simp [hl]) h
  · exact law.count (counted_expiry _) _ _ h
  · split
    · exact law.retire _ _ h
    · refine law.count (fun c => ?_) _ _ h
      split
      · exact counted_expiry _ c
      · exact ⟨rfl, rfl, rfl, id⟩
  · next hl => exact law.unlink (by simp [hl]) (by simp) h
  · exact h

omit law in
theorem same_recordResult (b : BindIx) (passed : Bool) (s : State) : SameClaims s (recordResult b passed s) :=
  { SameClaims.refl s with
    link := fun k => by
      simp only [recordResult, upd_get]
      split
      · next h => rw [h]
      · rfl }

omit law in
theorem same_recordVerdict (b : BindIx) (matched : Bool) (s : State) : SameClaims s (recordVerdict b matched s) :=
  { SameClaims.refl s with
    link := fun k => by
      simp only [recordVerdict, upd_get]
      split
      · next h => rw [h]
      · rfl }

theorem takeBinding (p : Pass) (b : BindIx) {s : State} (hmode : s.mdc.mode = .run) (h : P s) :
    P (takeBinding p b s).2 := by
  unfold Machine.takeBinding
  split
  · exact h
  · exact h
  · exact law.same (same_recordResult ..) h
  · dsimp only
    have hresult (r : Bool) : P (recordResult b r s) := law.same (same_recordResult ..) h
    split
    · exact hresult _
    · have hverdict (r m : Bool) : P (recordVerdict b m (recordResult b r s)) :=
        law.same (same_recordVerdict ..) (hresult r)
      dsimp only
      split
      · exact law.reconcile b _ _ hmode (hverdict _ _)
      · exact hverdict _ _

theorem bindWrite (p : List Byte) {s : State} (h : P s) : P (bindWrite p s).1 := by
  unfold Machine.bindWrite
  split
  · exact h
  · split
    · split
      · exact h
      · split
        · dsimp only
          split
          · exact h
          · exact law.replace _ _ _ h
        · exact h
    · exact h

theorem answer (r : Reply) {s : State} (h : P s) : P (answer r s) :=
  law.same (t := Machine.answer r s) { SameClaims.refl s with } h

theorem serveWaiting {s : State} (h : P s) : P (serveWaiting s) := by
  unfold Machine.serveWaiting
  split
  · exact h
  · have hclear : P { s with bde := { s.bde with waiting := none } } := law.same { SameClaims.refl s with } h
    dsimp only
    split
    · exact law.answer _ (law.bindWrite _ hclear)
    · exact hclear

theorem passStep {s : State} (hmode : s.mdc.mode = .run) (h : P s) : P (passStep s) := by
  unfold Machine.passStep
  split
  · exact h
  · next p hp =>
    have htaken := law.takeBinding p p.next hmode h
    dsimp only
    split
    · exact law.same { SameClaims.refl (Machine.takeBinding p p.next s).2 with } htaken
    · exact law.beginRequested (law.serveWaiting (law.aside (aside_handOver ..)
        (law.same { SameClaims.refl (Machine.takeBinding p p.next s).2 with } htaken)))

/-! ### The scan -/

theorem handAcceptance {s : State} (g : GroupIx) (h : P s) : P (handAcceptance s g) := by
  unfold Machine.handAcceptance
  dsimp only
  have hwoken : P (if (restartTimer s).mdc.mode = .sleep then Machine.wake (restartTimer s) else restartTimer s) := by
    have := law.aside (aside_restartTimer s) h
    split
    · exact law.wake this
    · exact this
  generalize (if (restartTimer s).mdc.mode = .sleep then Machine.wake (restartTimer s) else restartTimer s) = t
    at hwoken ⊢
  have hresumed : P (if g = ign ∧ ignitionOn t = true ∧ t.mdc.mode = .quiesced
      then (Machine.resumeRun (abandonLoad t)).1 else t) := by
    split
    · next hq =>
      have hmode : (abandonLoad t).mdc.mode = .quiesced := by
        unfold abandonLoad
        split
        · exact hq.2.2
        · exact hq.2.2
      refine law.resumeRun hmode ?_
      unfold abandonLoad
      split
      · exact law.aside (aside_setFlag ..) (law.same { SameClaims.refl t with } hwoken)
      · exact hwoken
    · exact hwoken
  generalize (if g = ign ∧ ignitionOn t = true ∧ t.mdc.mode = .quiesced
      then (Machine.resumeRun (abandonLoad t)).1 else t) = u at hresumed ⊢
  split
  · unfold acceptIgnition
    split
    · split
      · exact law.aside (aside_gaugesActive u) hresumed
      · exact law.aside (aside_refreshDemands u) hresumed
    · exact law.aside (aside_gaugesOff u) hresumed
  · split
    · unfold acceptStart
      split
      · split
        · exact law.beginCrank hresumed
        · exact hresumed
      · exact law.same ⟨by simp, by simp, by simp, by simp, by simp⟩ hresumed
    · exact hresumed

theorem scanInputs (levels : BitVec 26) {s : State} (h : P s) : P (scanInputs levels s) := by
  unfold Machine.scanInputs
  dsimp only
  refine law.beginRequested (Keeps.foldl (fun g s h => law.handAcceptance (s := s) g h) _ _ ?_)
  have hscanned (recs : Vector GroupRec 18) :
      P { s with sws := { s.sws with recs := recs, levels := levels } } := law.same { SameClaims.refl s with } h
  split
  · exact hscanned _
  · exact law.requestPass (hscanned _)

/-! ### Frames and requests -/

omit law in
theorem same_takeFetch (n : Nat) (s : State) : SameClaims s (takeFetch n s) :=
  ⟨by simp, by simp, by simp, by simp, by simp⟩

theorem takeFrame (bytes : List Byte) {s : State} (h : P s) : P (takeFrame bytes s) := by
  cases bytes with
  | nil => exact h
  | cons b bs =>
  unfold Machine.takeFrame
  dsimp only
  generalize b :: bs = bytes
  · split
    · exact law.same (same_takeFetch ..) h
    · unfold takeRequest
      dsimp only
      have hwoken : P (if s.mdc.mode = .sleep then Machine.wake s else s) := by
        split
        · exact law.wake h
        · exact h
      generalize (if s.mdc.mode = .sleep then Machine.wake s else s) = t at hwoken ⊢
      have hdealt : SameClaims t (dealFrame bytes t) := by
        unfold dealFrame
        split
        · exact (aside_setFlag ..).sameClaims
        · exact (aside_setFlag ..).sameClaims
        · split
          · exact { SameClaims.refl t with }
          · split <;> exact { SameClaims.refl t with }
      exact law.same (s := dealFrame bytes t) { SameClaims.refl _ with } (law.same hdealt hwoken)

theorem serve {r : Req} {body : List Byte → State → State × Reply} (hb : ∀ p s, P s → P (body p s).1) {p : List Byte}
    {s t : State} (h : serve r body p s = .next t) (hP : P s) : P t :=
  serve_keeps (fun s h => law.aside (aside_settleTimer s) h) (fun _ s h => law.takeFrame (s := s) _ h)
    (fun r s h => law.answer (s := s) r h) hb h hP

theorem event {f : State → State} (hf : Keeps P f) {s t : State} (h : act f s = .next t) (hP : P s) : P t :=
  act_keeps (fun s h => law.aside (aside_settleTimer s) h) hf h hP

/-! ### The requests -/

omit law in
theorem namedClaim_ok {s : State} {hi lo : Byte} {i : SlotIx} {c : Claim} (h : namedClaim s hi lo = .ok (i, c)) :
    claimAt s i = some c := by
  unfold namedClaim at h
  split at h
  · contradiction
  · split at h
    · contradiction
    · next hc =>
      split at h
      · injection h with h
        injection h with hi hc'
        rw [← hi, ← hc', hc]
      · contradiction

omit law in
theorem ownedClaim_ok {s : State} {hi lo : Byte} {i : SlotIx} {c : Claim} (h : ownedClaim s hi lo = .ok (i, c)) :
    claimAt s i = some c ∧ c.origin = .link := by
  unfold ownedClaim at h
  split at h
  · contradiction
  · next hn =>
    split at h
    · next ho =>
      injection h with h
      injection h with hi hc
      subst hi hc
      exact ⟨namedClaim_ok hn, ho⟩
    · contradiction

theorem raiseOnLink {r : Raise} (ho : r.origin = .link) {s : State} (hmode : s.mdc.mode = .run) (h : P s) :
    P (raiseOnLink r s).1 := by
  unfold Machine.raiseOnLink
  split
  · exact h
  · split
    · exact h
    · next hnone =>
      split
      · exact h
      · next i hi =>
        dsimp only
        refine law.handed ?_
        exact law.raise hmode (freeSlot_free hi) ho hnone h

theorem claimRaise (p : List Byte) {s : State} (h : P s) : P (claimRaise p s).1 := by
  unfold Machine.claimRaise
  split
  · exact h
  · next hmode =>
    have hmode : s.mdc.mode = .run := by simpa using hmode
    split
    · split
      · split
        · refine law.raiseOnLink ?_ hmode h
          rfl
        · exact h
      · exact h
    · exact h

theorem claimAlter (p : List Byte) {s : State} (h : P s) : P (claimAlter p s).1 := by
  unfold Machine.claimAlter
  split
  · exact h
  · split
    · next changes _ _ _ _ mode =>
      generalize (if changes.getLsbD 3 then ClaimMode.ofCode mode else none) = newMode
      dsimp only
      split
      · exact h
      · split
        · exact h
        · next hown =>
          dsimp only
          refine law.handed ?_
          exact law.alter (ownedClaim_ok hown).1 _ h
    · exact h

theorem claimRetire (p : List Byte) {s : State} (h : P s) : P (claimRetire p s).1 := by
  unfold Machine.claimRetire
  split
  · split
    · exact h
    · dsimp only
      refine law.beginRequested (law.handed ?_)
      exact law.retire _ _ h
  · exact h

theorem holdSet (p : List Byte) {s : State} (h : P s) : P (holdSet p s).1 := by
  unfold Machine.holdSet
  split
  · exact h
  · split
    · split
      · exact h
      · dsimp only
        split
        · exact law.endHostHold h
        · dsimp only
          refine law.handed ?_
          exact law.placeHostHold _ h
    · exact h

omit law in
theorem judgeCircuit_sound {channels : List Byte} {m : Byte} {e : CircuitEntry} {clamped : Bool}
    (h : judgeCircuit channels m = .ok (e, clamped)) : e.sound = true := by
  unfold judgeCircuit at h
  split at h
  · contradiction
  · split at h
    · contradiction
    · next hlist =>
      injection h with h
      injection h with he
      subst he
      simp only [not_or, not_lt, not_not] at hlist
      simp only [CircuitEntry.sound, Bool.and_eq_true, decide_eq_true_eq]
      exact ⟨⟨⟨hlist.1, hlist.2⟩, le_clampNat ..⟩, clampNat_le (by omega) _⟩

theorem circuitWrite (p : List Byte) {s : State} (h : P s) : P (circuitWrite p s).1 := by
  unfold Machine.circuitWrite
  split
  · exact h
  · split
    · exact h
    · split
      · split
        · exact h
        · split
          · split
            · exact h
            · exact h
            · next hj =>
              split
              · exact h
              · exact law.pend s _ _ (judgeCircuit_sound hj) h
          · exact h
      · exact h

omit law in
theorem flasherSet_same (p : List Byte) (s : State) : SameClaims s (flasherSet p s).1 := by
  unfold flasherSet
  split
  · exact .refl s
  · split
    · exact .refl s
    · exact { SameClaims.refl s with }

omit law in
theorem profileWrite_same (p : List Byte) (s : State) : SameClaims s (profileWrite p s).1 := by
  unfold profileWrite
  split
  · exact .refl s
  · split
    · exact .refl s
    · split
      · split
        · exact .refl s
        · split
          · exact .refl s
          · split
            · exact .refl s
            · exact { SameClaims.refl s with }
      · exact .refl s

omit law in
theorem groupWrite_same (p : List Byte) (s : State) : SameClaims s (groupWrite p s).1 := by
  unfold groupWrite
  split
  · exact .refl s
  · split
    · exact .refl s
    · split
      · split
        · exact .refl s
        · split
          · split
            · exact .refl s
            · exact { SameClaims.refl s with }
          · exact .refl s
      · exact .refl s

omit law in
theorem gaugeSet_same (p : List Byte) (s : State) : SameClaims s (gaugeSet p s).1 := by
  unfold gaugeSet
  split
  · exact .refl s
  · split
    · exact .refl s
    · split
      · split
        · exact .refl s
        · split
          · split
            · dsimp only
              split
              · exact .refl s
              · exact { SameClaims.refl s with }
            · exact .refl s
          · exact .refl s
      · exact .refl s

omit law in
theorem storeSave_same (p : List Byte) (s : State) : SameClaims s (storeSave p s).1 := by
  unfold storeSave
  split
  · exact .refl s
  · split
    · exact .refl s
    · exact { SameClaims.refl s with }

omit law in
theorem storeLoad_same (p : List Byte) (s : State) : SameClaims s (storeLoad p s).1 := by
  unfold storeLoad
  split
  · exact .refl s
  · split
    · exact .refl s
    · split
      · exact .refl s
      · exact { SameClaims.refl s with }

theorem quiesce (p : List Byte) {s : State} (h : P s) : P (quiesce p s).1 := by
  unfold Machine.quiesce
  split
  · exact h
  · split
    · exact h
    · split
      · exact h
      · split
        · exact h
        · exact law.leaveRun (by simp) h

theorem resume (p : List Byte) {s : State} (h : P s) : P (resume p s).1 := by
  unfold Machine.resume
  split
  · exact h
  · next hmode =>
    split
    · exact h
    · split
      · exact h
      · dsimp only
        exact law.resumeRun (by simpa using hmode) h

theorem waitingBindWrite (p : List Byte) : Keeps P fun s =>
    let s := reach .bindWrite p s
    if inWork .bindWrite p s then
      if s.bde.pass.isSome then { s with bde := { s.bde with waiting := some p } }
      else
        let (s', reply) := Machine.bindWrite p s
        Machine.answer reply s'
    else s := by
  intro s h
  have hreach : P (reach .bindWrite p s) := by
    unfold reach
    split
    · exact h
    · exact law.takeFrame _ h
  dsimp only
  split
  · split
    · exact law.same { SameClaims.refl (reach .bindWrite p s) with } hreach
    · exact law.answer _ (law.bindWrite p hreach)
  · exact hreach

/-! ### Every command -/

theorem endOperation (f : Flag) {s : State} (h : P s) : P (endOperation f s) :=
  law.aside (aside_setFlag ..) (law.same (s := s) { SameClaims.refl s with } h)

theorem execSwitchScan (levels : BitVec 26) {s t : State} (hstep : Machine.execSwitchScan levels s = .next t) (h : P s) : P t := by
  unfold Machine.execSwitchScan at hstep
  refine law.event ?_ hstep h
  intro s h
  have hpins : P { s with pins := { s.pins with levels := levels } } := law.same { SameClaims.refl s with } h
  dsimp only
  split
  · exact hpins
  · exact law.scanInputs levels hpins

theorem execPassStep {s t : State} (hstep : Machine.execPassStep s = .next t) (h : P s) : P t := by
  unfold Machine.execPassStep at hstep
  refine law.event ?_ hstep h
  intro s h
  dsimp only
  split
  · next hmode => exact law.passStep hmode h
  · exact h

theorem execBudgetEvaluation {s t : State} (hstep : Machine.execBudgetEvaluation s = .next t) (h : P s) : P t := by
  unfold Machine.execBudgetEvaluation at hstep
  refine law.event ?_ hstep h
  intro s h
  dsimp only
  split
  · exact law.beginRequested (law.aside (aside_refreshDemands _) (law.handed (law.evaluationStages h)))
  · exact h

theorem execSettlePartExpiry (slot : SlotIx) {s t : State} (hstep : Machine.execSettlePartExpiry slot s = .next t) (h : P s) : P t := by
  unfold Machine.execSettlePartExpiry at hstep
  refine law.event ?_ hstep h
  intro s h
  dsimp only
  split
  · refine law.count (fun c => ?_) s slot h
    split
    · exact ⟨rfl, rfl, rfl, fun _ => rfl⟩
    · exact ⟨rfl, rfl, rfl, id⟩
  · exact h

theorem execHoldTimerExpiry (slot : SlotIx) {s t : State} (hstep : Machine.execHoldTimerExpiry slot s = .next t) (h : P s) : P t := by
  unfold Machine.execHoldTimerExpiry at hstep
  refine law.event ?_ hstep h
  intro s h
  dsimp only
  split
  · exact law.count (counted_mapReasons _) s slot h
  · exact h

theorem execCrankRecoveryEnd {s t : State} (hstep : Machine.execCrankRecoveryEnd s = .next t) (h : P s) : P t := by
  unfold Machine.execCrankRecoveryEnd at hstep
  refine law.event ?_ hstep h
  intro s h
  dsimp only
  split
  · exact law.endRecovery h
  · exact h

theorem execHostHoldEnd {s t : State} (hstep : Machine.execHostHoldEnd s = .next t) (h : P s) : P t := by
  unfold Machine.execHostHoldEnd at hstep
  refine law.event ?_ hstep h
  intro s h
  dsimp only
  split
  · exact law.endHostHold h
  · exact h

theorem execClaimExpiry (slot : SlotIx) {s t : State} (hstep : Machine.execClaimExpiry slot s = .next t) (h : P s) : P t := by
  unfold Machine.execClaimExpiry at hstep
  refine law.event ?_ hstep h
  intro s h
  dsimp only
  split
  · exact law.beginRequested
      (law.handed (f := fun s => setFlag .claimExpired (Machine.retire slot s))
        (law.aside (aside_setFlag ..) (law.retire s slot h)))
  · exact h

theorem execReset (cause : ResetCause) {s t : State} (hstep : Machine.execReset cause s = .next t) (h : P s) : P t := by
  unfold Machine.execReset at hstep
  injection hstep with hstep
  subst hstep
  split
  · exact h
  · exact law.reset s cause

theorem execLoadingComplete (read : StoreRead) {s t : State} (hstep : Machine.execLoadingComplete read s = .next t) (h : P s) : P t := by
  unfold Machine.execLoadingComplete at hstep
  refine law.event ?_ hstep h
  intro s h
  dsimp only
  split
  · next hmode =>
    refine law.scanInputs _ (law.enterRun true ?_)
    have hstore (bytes : List Byte) : P { s with store := bytes } := law.same { SameClaims.refl s with } h
    cases read with
    | noAck => exact law.loading { s with store := s.store } [] none (.inl rfl) hmode (hstore _)
    | held => exact law.loading { s with store := s.store } s.store _ (.inr rfl) hmode (hstore _)
    | given bytes => exact law.loading { s with store := bytes } bytes _ (.inr rfl) hmode (hstore _)
  · exact h

theorem execStoreSaveComplete {s t : State} (hstep : Machine.execStoreSaveComplete s = .next t) (h : P s) : P t := by
  unfold Machine.execStoreSaveComplete at hstep
  refine law.event ?_ hstep h
  intro s h
  dsimp only
  split
  · exact law.endOperation _ (law.same { SameClaims.refl s with } h)
  · exact h
  · exact h

theorem execStoreSaveFail {s t : State} (hstep : Machine.execStoreSaveFail s = .next t) (h : P s) : P t := by
  unfold Machine.execStoreSaveFail at hstep
  refine law.event ?_ hstep h
  intro s h
  dsimp only
  split
  · refine law.endOperation _ (law.same ?_ h)
    unfold cutSave
    split
    · exact { SameClaims.refl s with }
    · exact .refl s
    · exact .refl s
  · exact h

theorem execStoreLoadComplete (read : StoreRead) {s t : State} (hstep : Machine.execStoreLoadComplete read s = .next t) (h : P s) : P t := by
  unfold Machine.execStoreLoadComplete at hstep
  refine law.event ?_ hstep h
  intro s h
  have hstore (bytes : List Byte) : P { s with store := bytes } := law.same { SameClaims.refl s with } h
  dsimp only
  split
  · split
    · next c hfound =>
      refine law.beginRequested ?_
      cases read with
      | noAck => contradiction
      | held => exact law.load _ s.store c hfound (hstore _)
      | given bytes => exact law.load _ bytes c hfound (hstore _)
    · exact law.endOperation _ (hstore _)
  · exact h

omit law in
theorem same_dropReply (s : State) : SameClaims s (dropReply s) := { SameClaims.refl s with }

theorem execSleepEntry {s t : State} (hstep : Machine.execSleepEntry s = .next t) (h : P s) : P t := by
  unfold Machine.execSleepEntry at hstep
  refine law.event ?_ hstep h
  intro s h
  dsimp only
  split
  · exact law.same (same_dropReply _) (law.stopBudget (law.leaveRun (by simp) h))
  · exact h

theorem execLeaveReset {s t : State} (hstep : Machine.execLeaveReset s = .next t) (h : P s) : P t := by
  unfold Machine.execLeaveReset at hstep
  injection hstep with hstep
  subst hstep
  split
  · exact law.same { SameClaims.refl s with } h
  · exact h

theorem exec {c : Instr} {s t : State} (hstep : Machine.exec c s = .next t) (h : P s) : P t := by
  by_cases hout : movesOutputs c = true
  · obtain ⟨f, hf, hexec⟩ := exec_movesOutputs hout s
    exact law.event (fun s h => law.aside (hf s).1 h) (hexec ▸ hstep) h
  by_cases hread : changesNoClaim c = true
  · obtain ⟨r, body, p, hbody, hexec⟩ := exec_changesNoClaim hread s
    exact law.serve (fun p s h => law.aside (hbody p s).1 h) (hexec ▸ hstep) h
  cases c <;> first | exact absurd rfl hout | exact absurd rfl hread | skip
  case claimRaise p => exact law.serve (fun p s h => law.claimRaise p h) hstep h
  case claimAlter p => exact law.serve (fun p s h => law.claimAlter p h) hstep h
  case claimRetire p => exact law.serve (fun p s h => law.claimRetire p h) hstep h
  case holdSet p => exact law.serve (fun p s h => law.holdSet p h) hstep h
  case circuitWrite p => exact law.serve (fun p s h => law.circuitWrite p h) hstep h
  case flasherSet p => exact law.serve (fun p s h => law.same (flasherSet_same p s) h) hstep h
  case profileWrite p => exact law.serve (fun p s h => law.same (profileWrite_same p s) h) hstep h
  case groupWrite p => exact law.serve (fun p s h => law.same (groupWrite_same p s) h) hstep h
  case bindWrite p => exact law.event (law.waitingBindWrite p) hstep h
  case gaugeSet p => exact law.serve (fun p s h => law.same (gaugeSet_same p s) h) hstep h
  case quiesce p => exact law.serve (fun p s h => law.quiesce p h) hstep h
  case resume p => exact law.serve (fun p s h => law.resume p h) hstep h
  case storeSave p => exact law.serve (fun p s h => law.same (storeSave_same p s) h) hstep h
  case storeLoad p => exact law.serve (fun p s h => law.same (storeLoad_same p s) h) hstep h
  case requestFrame bytes => exact law.event (f := Machine.takeFrame bytes) (fun s h => law.takeFrame bytes h) hstep h
  case fetchFrame n => exact law.event (f := Machine.takeFetch n) (fun s h => law.same (same_takeFetch n s) h) hstep h
  case switchScan levels => exact law.execSwitchScan levels hstep h
  case passStep => exact law.execPassStep hstep h
  case budgetEvaluation => exact law.execBudgetEvaluation hstep h
  case settlePartExpiry slot => exact law.execSettlePartExpiry slot hstep h
  case holdTimerExpiry slot => exact law.execHoldTimerExpiry slot hstep h
  case crankRecoveryEnd => exact law.execCrankRecoveryEnd hstep h
  case hostHoldEnd => exact law.execHostHoldEnd hstep h
  case claimExpiry slot => exact law.execClaimExpiry slot hstep h
  case reset cause => exact law.execReset cause hstep h
  case loadingComplete read => exact law.execLoadingComplete read hstep h
  case storeSaveComplete => exact law.execStoreSaveComplete hstep h
  case storeSaveFail => exact law.execStoreSaveFail hstep h
  case storeLoadComplete read => exact law.execStoreLoadComplete read hstep h
  case sleepEntry => exact law.execSleepEntry hstep h
  case leaveReset => exact law.execLeaveReset hstep h

theorem of_step {s t : State} (hstep : Machine.step s = .next t) (h : P s) : P t := by
  obtain ⟨-, rfl⟩ | ⟨c, rest, -, hexec⟩ := step_cases hstep
  · unfold tick
    split
    · exact h
    · exact law.same { SameClaims.refl s with } h
  · exact law.exec hexec (law.same (t := { s with pending := rest }) { SameClaims.refl s with } h)

end ClaimLaw

end Sys2Proof.Machine

/-! PROOFS. The two collections (R6, R7) through the operations on the claims, and the statement O19. -/

namespace Sys2Proof.Machine

/-- What the two collections read of a claim: whether it is HELD, and its class. -/
def Claim.standing (c : Claim) : Bool × ClaimClass := (c.isHeld, c.cls)

/-- The collections are exact and no SAFETY claim is HELD, the slot `i` aside, which may stand anywhere (R6, R7). -/
structure ExactBut (i : SlotIx) (s : State) : Prop where
  grantNodup : s.clt.grantList.Nodup
  heldNodup : s.clt.heldQueue.Nodup
  granted : ∀ j, j ≠ i → (j ∈ s.clt.grantList ↔ slotGranted s j = true)
  held : ∀ j, j ≠ i → (j ∈ s.clt.heldQueue ↔ slotHeld s j = true)
  sorted : (s.clt.heldQueue.filter (· ≠ i)).Pairwise fun j k => slotRank s.clt j ≤ slotRank s.clt k
  safety : ∀ j, j ≠ i → ((claimAt s j).map fun c => decide (c.cls = .safety) && c.isHeld) ≠ some true

theorem exactBut_of_exact {s : State} (h : CollectionsExact s ∧ SafetyGranted s) (i : SlotIx) : ExactBut i s := by
  obtain ⟨⟨hgn, hhn, hg, hh, hsorted⟩, hsafety⟩ := h
  exact ⟨hgn, hhn, fun j _ => hg j, fun j _ => hh j, hsorted.filter _, fun j _ => hsafety j⟩

theorem slotGranted_iff (s : State) (j : SlotIx) : slotGranted s j = true ↔ ∃ c, claimAt s j = some c ∧ c.isHeld = false := by
  unfold slotGranted
  cases claimAt s j <;> simp

theorem slotHeld_iff (s : State) (j : SlotIx) : slotHeld s j = true ↔ ∃ c, claimAt s j = some c ∧ c.isHeld = true := by
  unfold slotHeld
  cases claimAt s j <;> simp

/-- The collections read of a slot its claim's standing alone. -/
theorem reads_of_standing {s t : State} {j : SlotIx}
    (h : (claimAt t j).map Claim.standing = (claimAt s j).map Claim.standing) :
    slotGranted t j = slotGranted s j ∧ slotHeld t j = slotHeld s j ∧ slotRank t.clt j = slotRank s.clt j
      ∧ ((claimAt t j).map fun c => decide (c.cls = .safety) && c.isHeld)
        = (claimAt s j).map fun c => decide (c.cls = .safety) && c.isHeld := by
  simp only [slotGranted, slotHeld, slotRank_eq]
  cases ht : claimAt t j <;> cases hs : claimAt s j <;> simp_all [Claim.standing]

/-- A change that leaves the collections and every claim's standing, the slot `i` aside. -/
theorem ExactBut.congr {i : SlotIx} {s t : State} (h : ExactBut i s) (hg : t.clt.grantList = s.clt.grantList)
    (hh : t.clt.heldQueue = s.clt.heldQueue)
    (hc : ∀ j, j ≠ i → (claimAt t j).map Claim.standing = (claimAt s j).map Claim.standing) : ExactBut i t := by
  have heq (j : SlotIx) (hj : j ≠ i) := reads_of_standing (hc j hj)
  refine ⟨hg ▸ h.grantNodup, hh ▸ h.heldNodup, fun j hj => ?_, fun j hj => ?_, ?_, fun j hj => ?_⟩
  · rw [hg, (heq j hj).1]
    exact h.granted j hj
  · rw [hh, (heq j hj).2.1]
    exact h.held j hj
  · rw [hh]
    refine h.sorted.imp_of_mem fun {j k} hj hk hle => ?_
    rw [(heq j (by simpa using (List.mem_filter.mp hj).2)).2.2.1,
      (heq k (by simpa using (List.mem_filter.mp hk).2)).2.2.1]
    exact hle
  · rw [(heq j hj).2.2.2]
    exact h.safety j hj

/-- A queue ordered by class stays so when a slot enters it (R7). -/
theorem pairwise_enqueue {t : ClaimTable} {i : SlotIx} {q : List SlotIx}
    (hq : q.Pairwise fun j k => slotRank t j ≤ slotRank t k) :
    (enqueue t i q).Pairwise fun j k => slotRank t j ≤ slotRank t k := by
  unfold enqueue
  have hlow (j : SlotIx) (hj : j ∈ q.takeWhile fun j => decide (slotRank t j ≤ slotRank t i)) :
      slotRank t j ≤ slotRank t i := by simpa using List.mem_takeWhile_imp hj
  have hhigh (j : SlotIx) (hj : j ∈ q.dropWhile fun j => decide (slotRank t j ≤ slotRank t i)) :
      slotRank t i < slotRank t j := rank_lt_of_mem_dropWhile hq j hj
  refine List.pairwise_append.mpr ⟨hq.sublist (List.takeWhile_sublist _),
    List.pairwise_cons.mpr ⟨fun j hj => (hhigh j hj).le, hq.sublist (List.dropWhile_sublist _)⟩, fun j hj k hk => ?_⟩
  obtain rfl | hk := List.mem_cons.mp hk
  · exact hlow j hj
  · exact (hlow j hj).trans (hhigh k hk).le

/-- A slot that becomes GRANTED stands in the grant order list and there alone (R6). -/
theorem exact_makeGranted {i : SlotIx} {s : State} (h : ExactBut i s) {c : Claim} (hc : claimAt s i = some c)
    (l share : Nat) : CollectionsExact (makeGranted i l share s) ∧ SafetyGranted (makeGranted i l share s) := by
  have hother (j : SlotIx) (hj : j ≠ i) : claimAt (makeGranted i l share s) j = claimAt s j := by
    rw [claimAt_makeGranted, if_neg (Ne.symm hj)]
  have hself : claimAt (makeGranted i l share s) i
      = some { c with state := .granted l, settle := addSettle share c.settle } := by
    rw [claimAt_makeGranted, if_pos rfl, hc]
    rfl
  refine ⟨⟨?_, ?_, fun j => ?_, fun j => ?_, ?_⟩, fun j => ?_⟩
  · rw [makeGranted_grantList]
    refine List.Nodup.append (h.grantNodup.filter _) (List.nodup_singleton i) ?_
    simp [List.disjoint_singleton]
  · rw [makeGranted_heldQueue]
    exact h.heldNodup.filter _
  · rw [makeGranted_grantList]
    by_cases hj : j = i
    · subst hj
      simp [slotGranted, hself, Claim.isHeld]
    · simp [hj, h.granted j hj, slotGranted, hother j hj]
  · rw [makeGranted_heldQueue]
    by_cases hj : j = i
    · subst hj
      simp [slotHeld, hself, Claim.isHeld]
    · simp [hj, h.held j hj, slotHeld, hother j hj]
  · rw [makeGranted_heldQueue]
    refine h.sorted.imp_of_mem fun {j k} hj hk hle => ?_
    rw [slotRank_eq, slotRank_eq, hother j (by simpa using (List.mem_filter.mp hj).2),
      hother k (by simpa using (List.mem_filter.mp hk).2), ← slotRank_eq, ← slotRank_eq]
    exact hle
  · by_cases hj : j = i
    · subst hj
      simp [hself, Claim.isHeld]
    · rw [hother j hj]
      exact h.safety j hj

/-- A slot that becomes HELD stands in the held queue and there alone, after the last entry of its class (R6, R7). -/
theorem exact_makeHeld {i : SlotIx} {s : State} (h : ExactBut i s) {c : Claim} (hc : claimAt s i = some c)
    (hcls : c.cls ≠ .safety) (r : HoldReasons) :
    CollectionsExact (makeHeld i r s) ∧ SafetyGranted (makeHeld i r s) := by
  have hother (j : SlotIx) (hj : j ≠ i) : claimAt (makeHeld i r s) j = claimAt s j := by
    rw [claimAt_makeHeld, if_neg (Ne.symm hj)]
  have hself : claimAt (makeHeld i r s) i = some { c with state := .held r, settle := none } := by
    rw [claimAt_makeHeld, if_pos rfl, hc]
    rfl
  have hrank (j : SlotIx) : slotRank (makeHeld i r s).clt j = slotRank s.clt j := by
    by_cases hj : j = i
    · subst hj
      simp [slotRank_eq, hself, hc]
    · rw [slotRank_eq, hother j hj, ← slotRank_eq]
  have hqueue : (makeHeld i r s).clt.heldQueue
      = enqueue (makeHeld i r s).clt i (s.clt.heldQueue.filter (· ≠ i)) := rfl
  refine ⟨⟨?_, makeHeld_heldQueue_nodup h.heldNodup, fun j => ?_, fun j => ?_, ?_⟩, fun j => ?_⟩
  · rw [makeHeld_grantList]
    exact h.grantNodup.filter _
  · rw [makeHeld_grantList]
    by_cases hj : j = i
    · subst hj
      simp [slotGranted, hself, Claim.isHeld]
    · simp [hj, h.granted j hj, slotGranted, hother j hj]
  · rw [mem_makeHeld_heldQueue]
    by_cases hj : j = i
    · subst hj
      simp [slotHeld, hself, Claim.isHeld]
    · simp [hj, h.held j hj, slotHeld, hother j hj]
  · rw [hqueue]
    refine pairwise_enqueue (h.sorted.imp fun {j k} hle => ?_)
    rwa [hrank, hrank]
  · by_cases hj : j = i
    · subst hj
      simp [hself, hcls]
    · rw [hother j hj]
      exact h.safety j hj

/-- Admission never holds a SAFETY claim (R34). -/
theorem not_safety_of_hold {s : State} {c : Claim} {r : HoldReasons} (h : admissionOf s c = .hold r) :
    c.cls ≠ .safety := by
  intro hcls
  have hstanding : (standingHolds s .safety).isEmpty = true := by
    cases hh : s.sbu.hostHold <;>
      simp [standingHolds, HoldReasons.isEmpty, ClaimClass.crankHeld, HostHold.covers, hh]
  simp [admissionOf, hcls, hstanding] at h

/-- Admission places a claim in the collection of its state, wherever its slot stood before (R34). -/
theorem exact_admitSlot {i : SlotIx} {s : State} (h : ExactBut i s) {c : Claim} (hc : claimAt s i = some c) :
    CollectionsExact (admitSlot i s) ∧ SafetyGranted (admitSlot i s) := by
  unfold admitSlot
  rw [hc]
  dsimp only
  cases hadm : admissionOf s c with
  | grant l => exact exact_makeGranted h hc l _
  | hold r =>
    have hexact := exact_makeHeld h hc (not_safety_of_hold hadm) r
    dsimp only
    generalize makeHeld i r s = t at hexact ⊢
    cases c.origin != .link <;> exact hexact

/-- The two properties of the collections read the claim table alone, and of a claim its standing. -/
theorem exact_congr {s t : State} (h : CollectionsExact s ∧ SafetyGranted s)
    (hg : t.clt.grantList = s.clt.grantList) (hh : t.clt.heldQueue = s.clt.heldQueue)
    (hc : ∀ j, (claimAt t j).map Claim.standing = (claimAt s j).map Claim.standing) :
    CollectionsExact t ∧ SafetyGranted t := by
  have heq (j : SlotIx) := reads_of_standing (hc j)
  obtain ⟨⟨hgn, hhn, hgr, hhe, hsorted⟩, hsafety⟩ := h
  refine ⟨⟨hg ▸ hgn, hh ▸ hhn, fun j => ?_, fun j => ?_, ?_⟩, fun j => ?_⟩
  · rw [hg, (heq j).1]
    exact hgr j
  · rw [hh, (heq j).2.1]
    exact hhe j
  · rw [hh]
    refine hsorted.imp fun {j k} hle => ?_
    rwa [(heq j).2.2.1, (heq k).2.2.1]
  · rw [(heq j).2.2.2]
    exact hsafety j

/-! ### The operations -/

theorem exact_of_clt {s t : State} (hclt : t.clt = s.clt) (h : CollectionsExact s ∧ SafetyGranted s) :
    CollectionsExact t ∧ SafetyGranted t :=
  exact_congr h (by rw [hclt]) (by rw [hclt]) fun j => by rw [claimAt_congr hclt]

/-- A change of one record that leaves its standing. -/
theorem exact_modifyClaim {i : SlotIx} {f : Claim → Claim} {s : State}
    (hf : (claimAt s i).map (Claim.standing ∘ f) = (claimAt s i).map Claim.standing)
    (h : CollectionsExact s ∧ SafetyGranted s) :
    CollectionsExact (modifyClaim i f s) ∧ SafetyGranted (modifyClaim i f s) := by
  refine exact_congr h (by simp) (by simp) fun j => ?_
  rw [claimAt_modifyClaim]
  split
  · next hj =>
    subst hj
    rw [Option.map_map]
    exact hf
  · rfl

theorem exact_mapClaims {f : Claim → Claim} (hf : ∀ c, (f c).standing = c.standing) {s : State}
    (h : CollectionsExact s ∧ SafetyGranted s) :
    CollectionsExact (mapClaims f s) ∧ SafetyGranted (mapClaims f s) := by
  refine exact_congr h (by simp) (by simp) fun j => ?_
  rw [claimAt_mapClaims]
  cases claimAt s j with
  | none => rfl
  | some c => simp [hf]

theorem Claim.Counted.standing_eq {c c' : Claim} (h : c.Counted c') : c'.standing = c.standing := by
  have hcls : c'.cls = c.cls := by rw [h.rest]
  simp [Claim.standing, h.held, hcls]

theorem exact_retire (i : SlotIx) {s : State} (h : CollectionsExact s ∧ SafetyGranted s) :
    CollectionsExact (retire i s) ∧ SafetyGranted (retire i s) := by
  cases hc : claimAt s i with
  | none =>
    rw [retire_of_free hc]
    exact h
  | some c =>
    obtain ⟨⟨hgn, hhn, hg, hh, hsorted⟩, hsafety⟩ := h
    have hclaim (j : SlotIx) := claimAt_retire i j s
    have hclt := retire_clt hc
    refine ⟨⟨?_, ?_, fun j => ?_, fun j => ?_, ?_⟩, fun j => ?_⟩
    · rw [hclt]
      exact hgn.filter _
    · rw [hclt]
      exact hhn.filter _
    · rw [hclt]
      by_cases hj : j = i
      · subst hj
        simp [slotGranted, hclaim]
      · simp [hj, hg, slotGranted, hclaim, Ne.symm hj]
    · rw [hclt]
      by_cases hj : j = i
      · subst hj
        simp [slotHeld, hclaim]
      · simp [hj, hh, slotHeld, hclaim, Ne.symm hj]
    · have hqueue : (retire i s).clt.heldQueue = s.clt.heldQueue.filter (· ≠ i) := by rw [hclt]
      rw [hqueue]
      refine (hsorted.filter _).imp_of_mem fun {j k} hj hk hle => ?_
      have hj' : j ≠ i := by simpa using (List.mem_filter.mp hj).2
      have hk' : k ≠ i := by simpa using (List.mem_filter.mp hk).2
      rw [slotRank_eq, slotRank_eq, hclaim, hclaim, if_neg (Ne.symm hj'), if_neg (Ne.symm hk'), ← slotRank_eq,
        ← slotRank_eq]
      exact hle
    · rw [hclaim]
      split
      · simp
      · exact hsafety j

theorem exact_foldl_retire (xs : List SlotIx) {s : State} (h : CollectionsExact s ∧ SafetyGranted s) :
    CollectionsExact (xs.foldl (fun s i => retire i s) s) ∧ SafetyGranted (xs.foldl (fun s i => retire i s) s) :=
  Keeps.foldl (P := fun s => CollectionsExact s ∧ SafetyGranted s) (fun i _ h => exact_retire i h) xs s h

/-- A raise places its slot, which was free (R9). -/
theorem exact_raiseInto (i : SlotIx) (r : Raise) {s : State} (h : CollectionsExact s ∧ SafetyGranted s) :
    CollectionsExact (raiseInto i r s) ∧ SafetyGranted (raiseInto i r s) := by
  refine exact_admitSlot (c := newClaim s r) ((exactBut_of_exact h i).congr rfl rfl fun j hj => ?_) ?_
  · simp [claimAt, ClaimTable.setClaim, upd_get, Ne.symm hj]
  · simp [claimAt, ClaimTable.setClaim]

theorem Alteration.record_cls (a : Alteration) (m : Nat) (c : Claim) : (a.record m c).cls = c.cls := rfl

theorem Alteration.record_state (a : Alteration) (m : Nat) (c : Claim) : (a.record m c).state = c.state := rfl

theorem Alteration.record_isHeld (a : Alteration) (m : Nat) (c : Claim) : (a.record m c).isHeld = c.isHeld := rfl

theorem exact_stepLevel {i : SlotIx} {c : Claim} {s : State} (hc : claimAt s i = some c) (hg : c.isHeld = false)
    (l added : Nat) (h : CollectionsExact s ∧ SafetyGranted s) :
    CollectionsExact (stepLevel i l added s) ∧ SafetyGranted (stepLevel i l added s) :=
  exact_modifyClaim (by rw [hc, Option.map_some, Option.map_some, Claim.standing, hg]; rfl) h

theorem addedFits_safety {s : State} {c : Claim} (h : c.cls = .safety) (n : Nat) : addedFits s c n = true := by
  simp [addedFits, h]

theorem exact_alignLevel {i : SlotIx} {c : Claim} {s : State} (hc : claimAt s i = some c) (hg : c.isHeld = false)
    (h : CollectionsExact s ∧ SafetyGranted s) :
    CollectionsExact (alignLevel i s) ∧ SafetyGranted (alignLevel i s) := by
  unfold alignLevel
  rw [hc]
  dsimp only
  split
  · exact exact_stepLevel hc hg _ _ h
  · split
    · exact h
    · split
      · exact exact_stepLevel hc hg _ _ h
      · next hfit =>
        split
        · exact h
        · split
          · exact exact_stepLevel hc hg _ _ h
          · exact exact_makeHeld (exactBut_of_exact h i) hc (fun hs => hfit (addedFits_safety hs _)) _

theorem exact_alter {i : SlotIx} {c : Claim} {s : State} (hc : claimAt s i = some c) (a : Alteration)
    (h : CollectionsExact s ∧ SafetyGranted s) :
    CollectionsExact (alter i c a s) ∧ SafetyGranted (alter i c a s) := by
  unfold alter
  dsimp only
  have hrecord : CollectionsExact (modifyClaim i (a.record (maxLevelOf s c.circuit)) s)
      ∧ SafetyGranted (modifyClaim i (a.record (maxLevelOf s c.circuit)) s) :=
    exact_modifyClaim (by rw [hc]; rfl) h
  have hclaim : claimAt (modifyClaim i (a.record (maxLevelOf s c.circuit)) s) i
      = some (a.record (maxLevelOf s c.circuit) c) := by
    rw [claimAt_modifyClaim, if_pos rfl, hc]
    rfl
  generalize modifyClaim i (a.record (maxLevelOf s c.circuit)) s = t at hrecord hclaim ⊢
  split
  · exact hrecord
  · next hg =>
    have hg : (a.record (maxLevelOf s c.circuit) c).isHeld = false := (Bool.eq_false_iff).mpr hg
    split
    · refine exact_admitSlot (c := a.record (maxLevelOf s c.circuit) c) ?_ hclaim
      have hbut := exactBut_of_exact hrecord i
      refine ⟨hbut.grantNodup.filter _, hbut.heldNodup.filter _, fun j hj => ?_, fun j hj => ?_, ?_, hbut.safety⟩
      · rw [← show slotGranted t j = slotGranted { t with clt := t.clt.leave i } j from rfl, ← hbut.granted j hj]
        simp [ClaimTable.leave, hj]
      · rw [← show slotHeld t j = slotHeld { t with clt := t.clt.leave i } j from rfl, ← hbut.held j hj]
        simp [ClaimTable.leave, hj]
      · exact hbut.sorted.filter _
    · split
      · exact exact_alignLevel hclaim hg hrecord
      · exact hrecord

theorem fitLevels_standing (m : Nat) (c : Claim) : (c.fitLevels m).standing = c.standing := by
  obtain ⟨origin, circuit, mode, cls, req, floor, share, source, state, expiry, settle⟩ := c
  cases mode <;> cases state <;> rfl

theorem retakeShare_standing (s : State) (c : Claim) : (c.retakeShare s).standing = c.standing := by
  obtain ⟨origin, circuit, mode, cls, req, floor, share, source, state, expiry, settle⟩ := c
  cases source <;> rfl

theorem exact_refitted {s : State} (h : CollectionsExact s ∧ SafetyGranted s) :
    CollectionsExact (refitted s) ∧ SafetyGranted (refitted s) := by
  unfold refitted
  dsimp only
  exact exact_mapClaims (retakeShare_standing _) (exact_mapClaims (fun c => fitLevels_standing _ c)
    (exact_foldl_retire _ (exact_of_clt (s := s) (by simp) h)))

theorem replaceBinding_clt (b : BindIx) (e : BindEntry) (s : State) : (replaceBinding b e s).clt
    = match (s.bde.recs.get b).link with
      | .claim h => (retire h.slot s).clt
      | .wanting | .none => s.clt := by
  unfold replaceBinding
  cases (s.bde.recs.get b).link <;> simp [withHandOver]

theorem exact_replaceBinding (b : BindIx) (e : BindEntry) {s : State} (h : CollectionsExact s ∧ SafetyGranted s) :
    CollectionsExact (replaceBinding b e s) ∧ SafetyGranted (replaceBinding b e s) := by
  have hclt := replaceBinding_clt b e s
  split at hclt
  · exact exact_of_clt hclt (exact_retire _ h)
  · exact exact_of_clt hclt h
  · exact exact_of_clt hclt h

theorem loadImage_clt (c : Configuration) (s : State) :
    (loadImage c s).clt = ((bindingSlots s).foldl (fun s i => retire i s) s).clt := by
  simp [loadImage, endOperation, takeConfiguration, withHandOver]

theorem loadConfiguration_clt (found : Option Configuration) (s : State) :
    (loadConfiguration found s).clt = s.clt := by
  simp [loadConfiguration, takeConfiguration]

theorem reset_clt : State.reset.clt
    = { slots := tabulate fun _ => { gen := 0, claim := none }, grantList := [], heldQueue := [] } := rfl

theorem claimAt_reset (i : SlotIx) : claimAt State.reset i = none := by
  simp only [claimAt, reset_clt, tabulate_get]

theorem exact_reset : CollectionsExact State.reset ∧ SafetyGranted State.reset := by
  refine ⟨⟨by simp [reset_clt], by simp [reset_clt], fun i => ?_, fun i => ?_, by simp [reset_clt]⟩, fun i => ?_⟩
  · simp [slotGranted, claimAt_reset, reset_clt]
  · simp [slotHeld, claimAt_reset, reset_clt]
  · simp [claimAt_reset]

theorem collectionsLaw : ClaimLaw fun s => CollectionsExact s ∧ SafetyGranted s where
  same hsame h := exact_of_clt hsame.clt h
  grant hc _ h := exact_makeGranted (exactBut_of_exact h _) hc _ _
  step hc hg _ h := exact_stepLevel hc hg _ _ h
  hold hc hcls r h := exact_makeHeld (exactBut_of_exact h _) hc hcls r
  count hf s i h := exact_modifyClaim (by
    cases claimAt s i with
    | none => rfl
    | some c => simp [(hf c).standing_eq]) h
  countAll hf s h := exact_mapClaims (fun c => (hf c).standing_eq) h
  retire _ i h := exact_retire i h
  alter hc a h := exact_alter hc a h
  raise _ _ _ _ h := exact_raiseInto _ _ h
  bind _ _ _ _ h := exact_of_clt rfl (exact_raiseInto _ _ h)
  unlink _ _ h := exact_of_clt rfl h
  replace _ b e h := exact_replaceBinding b e h
  refit _ _ h := exact_refitted h
  pend _ _ _ _ h := exact_of_clt rfl h
  load s _ c _ h := exact_of_clt (loadImage_clt c s) (exact_foldl_retire _ h)
  loading s _ found _ _ h := exact_of_clt (loadConfiguration_clt found s) h
  reset _ _ := exact_of_clt rfl exact_reset

/-- Settles O19: each operation on the claims keeps the collections, so every step does. -/
theorem collectionsKept : Obligations.CollectionsKept :=
  fun _ _ h hstep => collectionsLaw.of_step hstep h

end Sys2Proof.Machine

/-! PROOFS. What an image that reads back consists of (R181), the claims' records through the operations on the claims
(R1, R2, R32), and the statement O20. -/

namespace Sys2Proof.Machine

/-! ### The records of an image -/

/-- A section is collected when every record is accepted, and holds what each is judged to be. -/
theorem collect_eq_some {α : Type} {n : Nat} {dflt : α} {judge : Fin n → Judged α} {v : Vector α n}
    (h : collect dflt judge = some v) (i : Fin n) : Takes (judge i) (v.get i) := by
  unfold collect at h
  split at h
  · next hall =>
    injection h with h
    subst h
    rw [tabulate_get]
    have hi := List.all_eq_true.mp hall i (List.mem_finRange i)
    cases hj : judge i with
    | error e =>
      rw [hj] at hi
      contradiction
    | ok x => exact ⟨x.2, rfl⟩
  · contradiction

/-- A configuration whose records are those that an image's are judged to be, at their places of R177. -/
structure Judges (bytes : List Byte) (c : Configuration) : Prop where
  profiles : ∀ i : Fin 20, Takes (judgeProfile i (slice bytes (4 + 12 * i.val) 12)) (c.profiles.get i)
  circuits : ∀ i : Fin 16, Takes (judgeCircuitRecord (slice bytes (244 + 6 * i.val) 6)) (c.circuits.get i)
  groups : ∀ i : Fin 16, Takes (judgeGroup (slice bytes (340 + 4 * i.val) 4)) (c.groups.get i)
  bindings : ∀ i : Fin 64, Takes (judgeBind (slice bytes (404 + 14 * i.val) 14)) (c.bindings.get i)
  gauges : ∀ i : Fin 3, Takes (judgeGaugeRecord (slice bytes (1300 + 29 * i.val) 29)) (c.gauges.get i)
  flasher : Takes (judgeFlasher (slice bytes 1387 2)) (c.rate, c.ticker)

theorem judgeImage_eq_some {bytes : List Byte} {c : Configuration} (h : judgeImage bytes = some c) :
    Judges bytes c := by
  unfold judgeImage at h
  dsimp only at h
  split at h
  · next hp hc hg hb hga hf =>
    injection h with h
    subst h
    exact ⟨collect_eq_some hp, collect_eq_some hc, collect_eq_some hg, collect_eq_some hb, collect_eq_some hga,
      ⟨_, hf⟩⟩
  · contradiction

theorem readImage_eq_some {bytes : List Byte} {c : Configuration} (h : readImage bytes = some c) :
    Judges bytes c := by
  unfold readImage at h
  split at h
  · exact judgeImage_eq_some h
  · contradiction

theorem judgeCircuitRecord_sound {bytes : List Byte} {e : CircuitEntry} (h : Takes (judgeCircuitRecord bytes) e) :
    e.sound = true := by
  obtain ⟨clamped, h⟩ := h
  unfold judgeCircuitRecord at h
  split at h
  · split at h
    · contradiction
    · exact ClaimLaw.judgeCircuit_sound h
  · contradiction

theorem CircuitEntry.maxLevel_of_sound {e : CircuitEntry} (h : e.sound = true) : 1 ≤ e.maxLevel ∧ e.maxLevel ≤ 15 := by
  simp only [CircuitEntry.sound, Bool.and_eq_true, decide_eq_true_eq] at h
  exact ⟨h.1.2, h.2⟩

/-! ### Claims within their bounds -/

/-- A claim's levels in order but for its granted level, its share and its settle part within their bounds. -/
structure Claim.Drafted (m : Nat) (c : Claim) : Prop where
  floor : 1 ≤ c.floor
  requested : c.floor ≤ c.requested
  top : c.requested ≤ m
  flash : c.mode = .flash → c.requested = m ∧ c.floor = m
  share : c.shareFull ≤ 250
  settle : c.settle.all SettlePart.inRange = true

/-- A claim within the bounds of R1, R2 and R32 on a circuit of this maximum level. -/
structure Claim.Fits (m : Nat) (c : Claim) : Prop extends c.Drafted m where
  level : c.isHeld = false → c.floor ≤ c.granted ∧ c.granted ≤ c.requested

theorem Claim.fits_iff (m : Nat) (c : Claim) : c.Fits m ↔
    c.levelsInOrder m = true ∧ c.shareFull ≤ 250 ∧ c.settle.all SettlePart.inRange = true := by
  rw [ClaimLaw.levelsInOrder_iff]
  constructor
  · rintro ⟨⟨hf, hr, ht, hfl, hs, hse⟩, hl⟩
    exact ⟨⟨hf, hr, ht, hl, hfl⟩, hs, hse⟩
  · rintro ⟨⟨hf, hr, ht, hl, hfl⟩, hs, hse⟩
    exact ⟨⟨hf, hr, ht, hfl, hs, hse⟩, hl⟩

/-- The bounds of the records and the circuit tables, claim by claim. -/
structure ClaimsFit (s : State) : Prop where
  inForce : ∀ c : Circ, 1 ≤ maxLevelOf s c ∧ maxLevelOf s c ≤ 15
  pending : ∀ (c : Circ) (e : CircuitEntry), s.crs.pendingEntry.get c = some e → 1 ≤ e.maxLevel ∧ e.maxLevel ≤ 15
  fits : ∀ i c, claimAt s i = some c → c.Fits (maxLevelOf s c.circuit)
  loading : s.mdc.mode = .loading → noClaims s.clt = true

theorem claimsSound_iff (s : State) : ClaimsSound s ↔ ClaimsFit s := by
  constructor
  · rintro ⟨⟨hmax, hpend, hlevels⟩, hshares, hsettles, hload⟩
    refine ⟨hmax, fun c e he => ?_, fun i c hc => (Claim.fits_iff ..).mpr ?_, hload⟩
    · simpa [he] using hpend c
    · have hl := hlevels i
      have hs := hshares i
      have hp := hsettles i
      simp only [hc, Option.map_some, Option.getD_some, Option.all_some, decide_eq_true_eq, Option.bind_some] at hl hs hp
      refine ⟨hl, hs, ?_⟩
      cases hst : c.settle <;> simp_all
  · rintro ⟨hmax, hpend, hfits, hload⟩
    have hall (i : SlotIx) (c : Claim) (hc : claimAt s i = some c) := (Claim.fits_iff ..).mp (hfits i c hc)
    refine ⟨⟨hmax, fun c => ?_, fun i => ?_⟩, fun i => ?_, fun i => ?_, hload⟩
    · cases he : s.crs.pendingEntry.get c with
      | none => rfl
      | some e => simpa using hpend c e he
    · cases hc : claimAt s i with
      | none => rfl
      | some c => exact (hall i c hc).1
    · cases hc : claimAt s i with
      | none => rfl
      | some c => exact decide_eq_true (hall i c hc).2.1
    · cases hc : claimAt s i with
      | none => rfl
      | some c =>
        have := (hall i c hc).2.2
        cases hst : c.settle <;> simp_all

theorem maxLevelOf_congr {s t : State} (h : t.crs.inForce = s.crs.inForce) (c : Circ) :
    maxLevelOf t c = maxLevelOf s c := by
  simp [maxLevelOf, h]

/-- A change of the claims under the same circuit tables: each claim fits that stands in its slot afterwards. -/
theorem ClaimsFit.of_claims {s t : State} (h : ClaimsFit s) (hin : t.crs.inForce = s.crs.inForce)
    (hpend : t.crs.pendingEntry = s.crs.pendingEntry)
    (hfits : ∀ i c, claimAt t i = some c → c.Fits (maxLevelOf s c.circuit))
    (hload : t.mdc.mode = .loading → noClaims t.clt = true) : ClaimsFit t :=
  ⟨fun c => by rw [maxLevelOf_congr hin]; exact h.inForce c, fun c e he => h.pending c e (hpend ▸ he),
    fun i c hc => by rw [maxLevelOf_congr hin]; exact hfits i c hc, hload⟩

theorem ClaimsFit.congr {s t : State} (h : ClaimsFit s) (hclt : t.clt = s.clt) (hin : t.crs.inForce = s.crs.inForce)
    (hpend : t.crs.pendingEntry = s.crs.pendingEntry) (hmode : t.mdc.mode = .loading → s.mdc.mode = .loading) :
    ClaimsFit t :=
  h.of_claims hin hpend (fun i c hc => h.fits i c (claimAt_congr hclt i ▸ hc)) fun hm => hclt ▸ h.loading (hmode hm)

/-- A settle part after a grant or a step is in range (R32). -/
theorem addSettle_inRange {share : Nat} {part : Option SettlePart} (hshare : share ≤ 250)
    (hpart : part.all SettlePart.inRange = true) : (addSettle share part).all SettlePart.inRange = true := by
  unfold addSettle
  split
  · exact hpart
  · next hne =>
    split
    · simp only [Option.all_some, inRange_iff, Config.settleCount]
      omega
    · simp only [Option.all_some, inRange_iff, Config.settleCount, Config.maxShare] at hpart ⊢
      omega

/-- A claim granted a level from its floor to its requested level fits (R2, R32). -/
theorem Claim.Drafted.grant {m : Nat} {c : Claim} (h : c.Drafted m) {l share : Nat} (hlow : c.floor ≤ l)
    (hhigh : l ≤ c.requested) (hshare : share ≤ 250) :
    Claim.Fits m { c with state := .granted l, settle := addSettle share c.settle } :=
  ⟨⟨h.floor, h.requested, h.top, h.flash, h.share, addSettle_inRange hshare h.settle⟩, fun _ => ⟨hlow, hhigh⟩⟩

theorem Claim.Drafted.hold {m : Nat} {c : Claim} (h : c.Drafted m) (r : HoldReasons) :
    Claim.Fits m { c with state := .held r, settle := none } :=
  ⟨⟨h.floor, h.requested, h.top, h.flash, h.share, rfl⟩, fun hg => by simp [Claim.isHeld] at hg⟩

theorem Claim.Counted.fits {m : Nat} {c c' : Claim} (h : c.Counted c') (hc : c.Fits m) : c'.Fits m := by
  have hrest := h.rest
  obtain ⟨⟨hf, hr, ht, hfl, hs, hse⟩, hl⟩ := hc
  refine ⟨⟨?_, ?_, ?_, ?_, ?_, h.settle hse⟩, ?_⟩
  · rw [hrest]; exact hf
  · rw [hrest]; exact hr
  · rw [hrest]; exact ht
  · rw [hrest]; exact hfl
  · rw [hrest]; exact hs
  · rw [h.held, h.level, hrest]; exact hl

theorem noClaims_congr {t t' : ClaimTable} (h : ∀ i, (t'.slots.get i).claim.isSome = (t.slots.get i).claim.isSome) :
    noClaims t' = noClaims t := by
  simp [noClaims, liveSlots, h]

theorem noClaims_iff_claimAt (s : State) : noClaims s.clt = true ↔ ∀ i, claimAt s i = none := noClaims_iff s.clt

/-- Changes that leave no slot live that was free keep a table without claims. -/
theorem noClaims_of_live {s t : State} (h : ∀ i c, claimAt t i = some c → (claimAt s i).isSome = true)
    (hs : noClaims s.clt = true) : noClaims t.clt = true := by
  rw [noClaims_iff_claimAt] at hs ⊢
  intro i
  cases hc : claimAt t i with
  | none => rfl
  | some c => simpa [hs i] using h i c hc

/-- One slot's claim replaced by one that fits on the same circuit, in a table that stands otherwise. -/
theorem ClaimsFit.of_one {s t : State} (h : ClaimsFit s) {i : SlotIx} {c c' : Claim} (hc : claimAt s i = some c)
    (hfits : c'.Fits (maxLevelOf s c.circuit)) (hcirc : c'.circuit = c.circuit) (hclaim : claimAt t i = some c')
    (hother : ∀ j, j ≠ i → claimAt t j = claimAt s j) (hin : t.crs.inForce = s.crs.inForce)
    (hpend : t.crs.pendingEntry = s.crs.pendingEntry) (hmode : t.mdc.mode = s.mdc.mode) : ClaimsFit t := by
  refine h.of_claims hin hpend (fun j d hd => ?_) fun hm => noClaims_of_live (fun j d hd => ?_) (h.loading (hmode ▸ hm))
  · by_cases hj : j = i
    · subst hj
      rw [hclaim] at hd
      injection hd with hd
      rw [← hd, hcirc]
      exact hfits
    · exact h.fits j d (hother j hj ▸ hd)
  · by_cases hj : j = i
    · rw [hj, hc]
      rfl
    · rw [← hother j hj, hd]
      rfl

theorem ClaimsFit.makeGranted {s : State} (h : ClaimsFit s) {i : SlotIx} {c : Claim} (hc : claimAt s i = some c)
    {l share : Nat} (hlow : c.floor ≤ l) (hhigh : l ≤ c.requested) (hshare : share ≤ 250) :
    ClaimsFit (makeGranted i l share s) :=
  h.of_one hc ((h.fits i c hc).toDrafted.grant hlow hhigh hshare) rfl
    (by rw [claimAt_makeGranted, if_pos rfl, hc]; rfl)
    (fun j hj => by rw [claimAt_makeGranted, if_neg (Ne.symm hj)]) (by simp) (by simp) (by simp)

theorem ClaimsFit.makeHeld {s : State} (h : ClaimsFit s) {i : SlotIx} {c : Claim} (hc : claimAt s i = some c)
    (r : HoldReasons) : ClaimsFit (makeHeld i r s) :=
  h.of_one hc ((h.fits i c hc).toDrafted.hold r) rfl (by rw [claimAt_makeHeld, if_pos rfl, hc]; rfl)
    (fun j hj => by rw [claimAt_makeHeld, if_neg (Ne.symm hj)]) (by simp) (by simp) (by simp)

/-- A change of one record that keeps its circuit and its bounds. -/
theorem ClaimsFit.modifyClaim {s : State} (h : ClaimsFit s) {i : SlotIx} {f : Claim → Claim}
    (hf : ∀ c, claimAt s i = some c →
      (f c).circuit = c.circuit ∧ (f c).Fits (maxLevelOf s c.circuit)) : ClaimsFit (modifyClaim i f s) := by
  cases hc : claimAt s i with
  | none =>
    refine h.of_claims (by simp) (by simp) (fun j d hd => h.fits j d ?_)
      fun hm => noClaims_of_live (fun j d hd => ?_) (h.loading (by simpa using hm))
    · rw [claimAt_modifyClaim] at hd
      split at hd
      · rw [hc] at hd
        contradiction
      · exact hd
    · rw [claimAt_modifyClaim] at hd
      split at hd
      · rw [hc] at hd
        contradiction
      · rw [hd]
        rfl
  | some c =>
    exact h.of_one hc (hf c hc).2 (hf c hc).1 (by rw [claimAt_modifyClaim, if_pos rfl, hc]; rfl)
      (fun j hj => by rw [claimAt_modifyClaim, if_neg (Ne.symm hj)]) (by simp) (by simp) (by simp)

theorem ClaimsFit.retire {s : State} (h : ClaimsFit s) (i : SlotIx) : ClaimsFit (retire i s) := by
  have hsub (j : SlotIx) (d : Claim) (hd : claimAt (Machine.retire i s) j = some d) : claimAt s j = some d := by
    rw [claimAt_retire] at hd
    split at hd
    · contradiction
    · exact hd
  exact h.of_claims (by simp) (by simp) (fun j d hd => h.fits j d (hsub j d hd))
    fun hm => noClaims_of_live (fun j d hd => by rw [hsub j d hd]; rfl) (h.loading (by simpa using hm))

/-! ### Admission and the raise -/

/-- A level that admission grants lies from the floor to the requested level (R35, R36). -/
theorem admissionOf_grant_bounds {s : State} {c : Claim} {l : Nat} (h : admissionOf s c = .grant l)
    (hfloor : c.floor ≤ c.requested) : c.floor ≤ l ∧ l ≤ c.requested := by
  unfold admissionOf at h
  dsimp only at h
  split at h
  · contradiction
  · split at h
    · injection h with h
      omega
    · split at h
      · split at h
        · injection h with h
          omega
        · contradiction
      · split at h
        · next l' hfit =>
          injection h with h
          rw [← h]
          exact ClaimLaw.fittingLevel_bounds hfit
        · contradiction

/-- A drafted claim whose slot is put to admission fits, with the claims of the other slots as they were. -/
theorem claimsFit_admitSlot {s t : State} {i : SlotIx} {c : Claim} (h : ClaimsFit s) (hc : claimAt t i = some c)
    (hdraft : c.Drafted (maxLevelOf s c.circuit)) (hother : ∀ j, j ≠ i → claimAt t j = claimAt s j)
    (hin : t.crs.inForce = s.crs.inForce) (hpend : t.crs.pendingEntry = s.crs.pendingEntry)
    (hmode : t.mdc.mode = .loading → (claimAt s i).isSome = true ∧ s.mdc.mode = .loading) :
    ClaimsFit (admitSlot i t) := by
  have hmax (k : Circ) : maxLevelOf t k = maxLevelOf s k := maxLevelOf_congr hin k
  refine h.of_claims (by simpa using hin) (by simpa using hpend) (fun j d hd => ?_) fun hm => ?_
  · rw [claimAt_admitSlot hc] at hd
    split at hd
    · injection hd with hd
      subst hd
      split
      · next l hadm =>
        obtain ⟨hlow, hhigh⟩ := admissionOf_grant_bounds hadm hdraft.requested
        refine hdraft.grant hlow hhigh ?_
        have hm := (h.inForce c.circuit).1
        exact (claimShare_le_shareFull (by rw [hmax]; exact hm) (by rw [hmax]; exact hhigh.trans hdraft.top)).trans
          hdraft.share
      · exact hdraft.hold _
    · next hj => exact h.fits j d (hother j (Ne.symm hj) ▸ hd)
  · obtain ⟨hlive, hs⟩ := hmode (by simpa using hm)
    have := (noClaims_iff_claimAt s).mp (h.loading hs) i
    simp [this] at hlive

theorem nominalShare_le (s : State) (channels : List Chan) : nominalShare s channels ≤ 250 := Nat.min_le_left ..

theorem newClaim_drafted (s : State) (r : Raise) (hm : 1 ≤ maxLevelOf s r.circuit) :
    (newClaim s r).Drafted (maxLevelOf s r.circuit) := by
  have hreq : 1 ≤ (newClaim s r).requested ∧ (newClaim s r).requested ≤ maxLevelOf s r.circuit := by
    unfold newClaim
    cases r.mode with
    | steady => exact ⟨le_clampNat .., clampNat_le hm _⟩
    | flash => exact ⟨hm, le_rfl⟩
  have hfloor : 1 ≤ (newClaim s r).floor ∧ (newClaim s r).floor ≤ (newClaim s r).requested := by
    revert hreq
    unfold newClaim
    cases r.mode with
    | steady =>
      intro hreq
      dsimp only [raiseFloor] at hreq ⊢
      cases r.floor with
      | none => exact ⟨hreq.1, le_rfl⟩
      | some f => exact ⟨le_clampNat .., clampNat_le hreq.1 _⟩
    | flash => exact fun _ => ⟨hm, le_rfl⟩
  refine ⟨hfloor.1, hfloor.2, hreq.2, fun hflash => ?_, ?_, rfl⟩
  · have hmode : r.mode = .flash := hflash
    simp [newClaim, hmode]
  · unfold newClaim
    cases r.share with
    | none => exact nominalShare_le ..
    | some sh => exact Nat.min_le_right ..

theorem ClaimsFit.raiseInto {s : State} (h : ClaimsFit s) {i : SlotIx} (hmode : s.mdc.mode = .run) (r : Raise) :
    ClaimsFit (raiseInto i r s) := by
  refine claimsFit_admitSlot h (c := newClaim s r) ?_ (newClaim_drafted s r (h.inForce r.circuit).1)
    (fun j hj => ?_) rfl rfl fun hm => ?_
  · simp [claimAt, ClaimTable.setClaim]
  · simp [claimAt, ClaimTable.setClaim, upd_get, Ne.symm hj]
  · have : s.mdc.mode = .loading := hm
    simp [hmode] at this

/-! ### CLAIM.ALTER -/

theorem Alteration.modeOf_of_not_switches {a : Alteration} {c : Claim} (h : a.switches c = false) :
    a.modeOf c = c.mode := by
  unfold Alteration.switches at h
  unfold Alteration.modeOf
  split at h
  · next hm => simpa [hm] using h
  · next hm => simp [hm]

/-- The levels after an alteration stand in order, in every mode (R18, R20). -/
theorem Alteration.record_drafted (a : Alteration) {m : Nat} {c : Claim} (h : c.Fits m) (hm : 1 ≤ m) :
    (a.record m c).Drafted m := by
  obtain ⟨⟨hfloor, hreq, htop, hflash, hshare, hsettle⟩, hlevel⟩ := h
  have hrequested : 1 ≤ a.requestedOf m c ∧ a.requestedOf m c ≤ m := by
    unfold Alteration.requestedOf
    split
    · split
      · exact ⟨le_clampNat .., clampNat_le hm _⟩
      · split <;> omega
    · split <;> omega
  have hflashed : a.modeOf c = .flash → a.requestedOf m c = m ∧ a.floorOf m c = m := by
    intro hmode
    have huses : a.usesLevels c = false := by simp [Alteration.usesLevels, hmode]
    simp only [Alteration.requestedOf, Alteration.floorOf, huses, Bool.false_eq_true, if_false]
    split
    · exact ⟨rfl, rfl⟩
    · next hswitch =>
      rw [Alteration.modeOf_of_not_switches (by simpa using hswitch)] at hmode
      exact hflash hmode
  have hfloored : 1 ≤ a.floorOf m c ∧ a.floorOf m c ≤ a.requestedOf m c := by
    by_cases huses : a.usesLevels c = true
    · unfold Alteration.floorOf
      dsimp only
      rw [if_pos huses]
      split
      · exact ⟨le_clampNat .., clampNat_le hrequested.1 _⟩
      · split <;> omega
    · have hmode : a.modeOf c = .flash := by
        simp only [Alteration.usesLevels, decide_eq_true_eq] at huses
        cases hmode : a.modeOf c with
        | steady => exact absurd hmode huses
        | flash => rfl
      have := hflashed hmode
      omega
  exact ⟨hfloored.1, hfloored.2, hrequested.2, hflashed, hshare, hsettle⟩

/-- A GRANTED claim whose alteration asks for no alignment keeps its granted level within its levels (R19). -/
theorem Alteration.record_level {a : Alteration} {m : Nat} {c : Claim} (h : c.Fits m)
    (hg : c.isHeld = false) (hswitch : a.switches c = false) (halign : ¬(c.mode = .steady ∧ a.realigns m c = true)) :
    a.floorOf m c ≤ c.granted ∧ c.granted ≤ a.requestedOf m c := by
  obtain ⟨hlow, hhigh⟩ := h.level hg
  by_cases hmode : c.mode = .steady
  · have hreal : ¬a.realigns m c = true := fun h => halign ⟨hmode, h⟩
    simp only [Alteration.realigns, Bool.or_eq_true, Option.isSome_iff_exists, not_or, not_exists,
      Bool.and_eq_true, not_and, Bool.not_eq_true', decide_eq_false_iff_not, not_not] at hreal
    obtain ⟨hlevel, hfloor⟩ := hreal
    have hlevel : a.level = none := Option.eq_none_iff_forall_ne_some.mpr hlevel
    have hreq : a.requestedOf m c = c.requested := by
      simp [Alteration.requestedOf, hlevel, hswitch]
    refine ⟨?_, hreq ▸ hhigh⟩
    cases hf : a.floor with
    | none =>
      have : a.floorOf m c ≤ c.floor := by
        simp only [Alteration.floorOf, hf, hswitch, hreq]
        split <;> simp
      omega
    | some f =>
      have := hfloor ⟨f, hf⟩
      omega
  · have hflash : c.mode = .flash := by
      cases hc : c.mode with
      | steady => exact absurd hc hmode
      | flash => rfl
    have huses : a.usesLevels c = false := by
      simp [Alteration.usesLevels, Alteration.modeOf_of_not_switches hswitch, hflash]
    simp [Alteration.requestedOf, Alteration.floorOf, huses, hswitch, hlow, hhigh]

theorem claimsFit_stepLevel {s t : State} {i : SlotIx} {c : Claim} (h : ClaimsFit s)
    (hlive : (claimAt s i).map (·.circuit) = some c.circuit) (hc : claimAt t i = some c)
    (hdraft : c.Drafted (maxLevelOf s c.circuit)) (hother : ∀ j, j ≠ i → claimAt t j = claimAt s j)
    (hin : t.crs.inForce = s.crs.inForce) (hpend : t.crs.pendingEntry = s.crs.pendingEntry)
    (hmode : t.mdc.mode = s.mdc.mode) {l share : Nat} (hlow : c.floor ≤ l) (hhigh : l ≤ c.requested)
    (hshare : share ≤ 250) : ClaimsFit (stepLevel i l share t) := by
  obtain ⟨c₀, hc₀, hcirc⟩ := Option.map_eq_some_iff.mp hlive
  refine h.of_one (c' := { c with state := .granted l, settle := addSettle share c.settle }) hc₀ ?_ hcirc.symm
    (by rw [claimAt_stepLevel, if_pos rfl, hc]; rfl)
    (fun j hj => by rw [claimAt_stepLevel, if_neg (Ne.symm hj), hother j hj]) (by simpa using hin)
    (by simpa using hpend) (by simpa using hmode)
  rw [hcirc]
  exact hdraft.grant hlow hhigh hshare

/-- The alteration of a claim keeps every claim within its bounds (R18, R19, R20). -/
theorem ClaimsFit.alter {s : State} (h : ClaimsFit s) {i : SlotIx} {c : Claim} (hc : claimAt s i = some c)
    (a : Alteration) : ClaimsFit (alter i c a s) := by
  have hm := (h.inForce c.circuit).1
  have hfit := h.fits i c hc
  have hdraft := a.record_drafted hfit hm
  unfold Machine.alter
  dsimp only
  have hclaim : claimAt (Machine.modifyClaim i (a.record (maxLevelOf s c.circuit)) s) i
      = some (a.record (maxLevelOf s c.circuit) c) := by
    rw [claimAt_modifyClaim, if_pos rfl, hc]
    rfl
  have hother (j : SlotIx) (hj : j ≠ i) :
      claimAt (Machine.modifyClaim i (a.record (maxLevelOf s c.circuit)) s) j = claimAt s j := by
    rw [claimAt_modifyClaim, if_neg (Ne.symm hj)]
  have hin : (Machine.modifyClaim i (a.record (maxLevelOf s c.circuit)) s).crs.inForce = s.crs.inForce := by simp
  have hpend : (Machine.modifyClaim i (a.record (maxLevelOf s c.circuit)) s).crs.pendingEntry
      = s.crs.pendingEntry := by simp
  have hmode : (Machine.modifyClaim i (a.record (maxLevelOf s c.circuit)) s).mdc.mode = s.mdc.mode := by simp
  generalize Machine.modifyClaim i (a.record (maxLevelOf s c.circuit)) s = t at hclaim hother hin hpend hmode ⊢
  generalize hm' : maxLevelOf s c.circuit = m at *
  have hrec : (a.record m c).Drafted (maxLevelOf s (a.record m c).circuit) := by
    rw [show (a.record m c).circuit = c.circuit from rfl, hm']
    exact hdraft
  have hlive : (claimAt s i).map (·.circuit) = some (a.record m c).circuit := by
    rw [hc]
    rfl
  have hplain (hlevel : c.isHeld = false → a.floorOf m c ≤ c.granted ∧ c.granted ≤ a.requestedOf m c) :
      ClaimsFit t :=
    h.of_one (c' := a.record m c) hc (by rw [hm']; exact ⟨hdraft, hlevel⟩) rfl hclaim hother hin hpend hmode
  split
  · next hheld => exact hplain fun hg => by simp [hheld] at hg
  · next hg =>
    have hg : c.isHeld = false := by simpa using hg
    split
    · exact claimsFit_admitSlot (t := { t with clt := t.clt.leave i }) h hclaim hrec hother hin hpend fun hmt =>
        ⟨by rw [hc]; rfl, hmode ▸ hmt⟩
    · next hswitch =>
      split
      · next halign =>
        have hshare (l : Nat) (hl : l ≤ a.requestedOf m c) : claimShare t (a.record m c) l ≤ 250 := by
          have hmt : maxLevelOf t (a.record m c).circuit = m := (maxLevelOf_congr hin _).trans hm'
          exact (claimShare_le_shareFull (by omega) (by rw [hmt]; exact hl.trans hdraft.top)).trans hdraft.share
        have hstep {l share : Nat} (hlow : a.floorOf m c ≤ l) (hhigh : l ≤ a.requestedOf m c)
            (hshare : share ≤ 250) : ClaimsFit (stepLevel i l share t) :=
          claimsFit_stepLevel h hlive hclaim hrec hother hin hpend hmode hlow hhigh hshare
        have hfloor : a.floorOf m c ≤ a.requestedOf m c := hdraft.requested
        unfold alignLevel
        rw [hclaim]
        dsimp only
        split
        · exact hstep hfloor le_rfl (Nat.zero_le _)
        · next hlow =>
          have hlow : c.granted ≤ a.requestedOf m c := not_lt.mp hlow
          split
          · next heq =>
            have heq : c.granted = a.requestedOf m c := heq
            exact hplain fun _ => ⟨heq ▸ hfloor, hlow⟩
          · split
            · exact hstep hfloor le_rfl ((Nat.sub_le ..).trans (hshare _ le_rfl))
            · split
              · next hf => exact hplain fun _ => ⟨hf, hlow⟩
              · split
                · exact hstep le_rfl hfloor ((Nat.sub_le ..).trans (hshare _ hfloor))
                · exact h.of_one (c' := { a.record m c with state := .held budgetHold, settle := none }) hc
                    (by rw [hm']; exact hdraft.hold _) rfl
                    (by rw [claimAt_makeHeld, if_pos rfl, hclaim]; rfl)
                    (fun j hj => by rw [claimAt_makeHeld, if_neg (Ne.symm hj), hother j hj]) (by simpa using hin)
                    (by simpa using hpend) (by simpa using hmode)
      · next halign =>
        exact hplain fun hg => Alteration.record_level hfit hg (by simpa using hswitch) (by simpa using halign)

/-! ### RESUME, and the records of the configuration -/

theorem claimAt_foldl_retire (xs : List SlotIx) (s : State) (j : SlotIx) :
    claimAt (xs.foldl (fun s i => retire i s) s) j = if j ∈ xs then none else claimAt s j := by
  induction xs generalizing s with
  | nil => simp
  | cons x xs ih =>
    rw [List.foldl_cons, ih, claimAt_retire]
    by_cases hj : j ∈ xs
    · simp [hj]
    · by_cases hx : x = j
      · subst hx
        simp
      · simp [hj, hx, Ne.symm hx]

/-- A claim brought within another maximum level fits it (R184). -/
theorem Claim.Fits.fitLevels {m m' : Nat} {c : Claim} (h : c.Fits m) (hm : 1 ≤ m') : (c.fitLevels m').Fits m' := by
  obtain ⟨origin, circuit, mode, cls, req, floor, share, source, state, expiry, settle⟩ := c
  obtain ⟨⟨hfloor, hreq, htop, hflash, hshare, hsettle⟩, hlevel⟩ := h
  dsimp only at hfloor hreq htop hshare
  cases mode with
  | flash =>
    refine ⟨⟨hm, le_rfl, le_rfl, fun _ => ⟨rfl, rfl⟩, hshare, hsettle⟩, fun _ => ?_⟩
    cases state with
    | granted l => exact ⟨le_rfl, le_rfl⟩
    | held r => simp_all [Claim.fitLevels, ClaimState.mapLevel, Claim.isHeld]
  | steady =>
    refine ⟨⟨?_, ?_, Nat.min_le_right .., fun h => by simp [Claim.fitLevels] at h, hshare, hsettle⟩, fun hg => ?_⟩
    · simp only [Claim.fitLevels]
      omega
    · exact Nat.min_le_right ..
    · cases state with
      | granted l =>
        have := hlevel rfl
        simp only [Claim.fitLevels, ClaimState.mapLevel, Claim.granted] at this ⊢
        omega
      | held r => simp [Claim.fitLevels, ClaimState.mapLevel, Claim.isHeld] at hg

theorem Claim.Fits.retakeShare {m : Nat} {c : Claim} (h : c.Fits m) (s : State) : (c.retakeShare s).Fits m := by
  unfold Claim.retakeShare
  split
  · exact h
  · exact ⟨⟨h.floor, h.requested, h.top, h.flash, nominalShare_le .., h.settle⟩, h.level⟩

@[simp] theorem fitLevels_circuit (m : Nat) (c : Claim) : (c.fitLevels m).circuit = c.circuit := by
  unfold Claim.fitLevels; split <;> rfl

@[simp] theorem retakeShare_circuit (s : State) (c : Claim) : (c.retakeShare s).circuit = c.circuit := by
  unfold Claim.retakeShare; split <;> rfl

theorem foldl_retire_crs (xs : List SlotIx) (s : State) : (xs.foldl (fun s i => retire i s) s).crs = s.crs :=
  foldl_frame (fun s : State => s.crs) _ (fun s i => retire_crs i s) xs s

theorem foldl_retire_mdc (xs : List SlotIx) (s : State) : (xs.foldl (fun s i => retire i s) s).mdc = s.mdc :=
  foldl_frame (fun s : State => s.mdc) _ (fun s i => retire_mdc i s) xs s

theorem applyPending_inForce (s : State) (c : Circ) :
    (applyPending s).crs.inForce.get c = (s.crs.pendingEntry.get c).getD (s.crs.inForce.get c) := by
  simp [applyPending]

@[simp] theorem refitted_crs (s : State) : (refitted s).crs = (applyPending s).crs := by
  simp only [refitted, mapClaims_crs, foldl_retire_crs]

@[simp] theorem refitted_mdc (s : State) : (refitted s).mdc = s.mdc := by
  simp only [refitted, mapClaims_mdc, foldl_retire_mdc, applyPending_mdc]

/-- A claim live after the refitting is one of before, its levels and its share fitted (R184). -/
theorem claimAt_refitted {s : State} {j : SlotIx} {d : Claim} (h : claimAt (refitted s) j = some d) :
    ∃ c u, claimAt s j = some c ∧ d = (c.fitLevels (maxLevelOf (applyPending s) c.circuit)).retakeShare u := by
  have hmax (xs : List SlotIx) (k : Circ) : maxLevelOf (xs.foldl (fun s i => retire i s) (applyPending s)) k
      = maxLevelOf (applyPending s) k := maxLevelOf_congr (by rw [foldl_retire_crs]) k
  simp only [refitted, claimAt_mapClaims, claimAt_foldl_retire, Option.map_map, hmax] at h
  obtain ⟨c, hc, hd⟩ := Option.map_eq_some_iff.mp h
  split at hc
  · contradiction
  · have hclaim : claimAt s j = some c := (claimAt_congr (applyPending_clt s) j) ▸ hc
    exact ⟨c, _, hclaim, hd.symm⟩

theorem ClaimsFit.refitted {s : State} (h : ClaimsFit s) (hmode : s.mdc.mode = .quiesced) :
    ClaimsFit (refitted s) := by
  have hmax (c : Circ) : 1 ≤ maxLevelOf (applyPending s) c ∧ maxLevelOf (applyPending s) c ≤ 15 := by
    unfold maxLevelOf
    rw [applyPending_inForce]
    cases he : s.crs.pendingEntry.get c with
    | none => exact h.inForce c
    | some e => exact h.pending c e he
  have hcrs := refitted_crs s
  refine ⟨fun c => ?_, fun c e he => ?_, fun j d hd => ?_, fun hm => ?_⟩
  · rw [maxLevelOf_congr (congrArg Resolver.inForce hcrs)]
    exact hmax c
  · rw [hcrs] at he
    simp [applyPending] at he
  · obtain ⟨c, u, hc, rfl⟩ := claimAt_refitted hd
    rw [maxLevelOf_congr (congrArg Resolver.inForce hcrs), retakeShare_circuit, fitLevels_circuit]
    exact ((h.fits j c hc).fitLevels (hmax c.circuit).1).retakeShare u
  · rw [refitted_mdc, hmode] at hm
    contradiction

section replaceBinding

variable (b : BindIx) (e : BindEntry) (s : State)

@[simp] theorem replaceBinding_mdc : (replaceBinding b e s).mdc = s.mdc := by
  unfold replaceBinding
  cases (s.bde.recs.get b).link <;> simp [withHandOver]

@[simp] theorem replaceBinding_inForce : (replaceBinding b e s).crs.inForce = s.crs.inForce := by
  unfold replaceBinding
  cases (s.bde.recs.get b).link <;> simp [withHandOver]

@[simp] theorem replaceBinding_pendingEntry : (replaceBinding b e s).crs.pendingEntry = s.crs.pendingEntry := by
  unfold replaceBinding
  cases (s.bde.recs.get b).link <;> simp [withHandOver]

end replaceBinding

theorem ClaimsFit.replaceBinding {s : State} (h : ClaimsFit s) (b : BindIx) (e : BindEntry) :
    ClaimsFit (replaceBinding b e s) := by
  have hclt := replaceBinding_clt b e s
  split at hclt
  · next hd _ => exact (h.retire hd.slot).congr hclt (by simp) (by simp) (by simp)
  · exact h.congr hclt (by simp) (by simp) (by simp)
  · exact h.congr hclt (by simp) (by simp) (by simp)

theorem defaultConfiguration_circuits (c : Circ) : (defaultConfiguration.circuits.get c).sound = true := by
  simp [defaultConfiguration, defaultCircuit, CircuitEntry.sound]

theorem loadImage_inForce (c : Configuration) (s : State) : (loadImage c s).crs.inForce = s.crs.inForce := by
  simp [loadImage, endOperation, takeConfiguration, withHandOver, foldl_retire_crs]

theorem loadImage_pendingEntry (c : Configuration) (s : State) :
    (loadImage c s).crs.pendingEntry = mapTbl some c.circuits := by
  simp [loadImage, endOperation]

theorem loadImage_mode (c : Configuration) (s : State) : (loadImage c s).mdc.mode = s.mdc.mode := by
  simp [loadImage, endOperation, takeConfiguration, withHandOver, foldl_retire_mdc]

/-- A load keeps the claims that it does not retire. -/
theorem claimAt_loadImage {c : Configuration} {s : State} {j : SlotIx} {d : Claim}
    (h : claimAt (loadImage c s) j = some d) : claimAt s j = some d ∧ j ∉ bindingSlots s := by
  rw [claimAt_congr (loadImage_clt c s), claimAt_foldl_retire] at h
  split at h
  · contradiction
  · next hj => exact ⟨h, hj⟩

theorem ClaimsFit.loadImage {s : State} (h : ClaimsFit s) {c : Configuration}
    (hc : ∀ k, (c.circuits.get k).sound = true) : ClaimsFit (loadImage c s) := by
  have hin := loadImage_inForce c s
  refine ⟨fun k => ?_, fun k e he => ?_, fun j d hd => ?_, fun hm => ?_⟩
  · rw [maxLevelOf_congr hin]
    exact h.inForce k
  · rw [loadImage_pendingEntry, mapTbl_get] at he
    injection he with he
    exact he ▸ CircuitEntry.maxLevel_of_sound (hc k)
  · rw [maxLevelOf_congr hin]
    exact h.fits j d (claimAt_loadImage hd).1
  · rw [loadImage_mode] at hm
    exact noClaims_of_live (fun j d hd => by rw [(claimAt_loadImage hd).1]; rfl) (h.loading hm)

theorem loadConfiguration_inForce (found : Option Configuration) (s : State) :
    (loadConfiguration found s).crs.inForce = (found.getD defaultConfiguration).circuits := by
  simp [loadConfiguration]

theorem loadConfiguration_pendingEntry (found : Option Configuration) (s : State) :
    (loadConfiguration found s).crs.pendingEntry = s.crs.pendingEntry := by
  simp [loadConfiguration, takeConfiguration]

theorem ClaimsFit.loadConfiguration {s : State} (h : ClaimsFit s) (hmode : s.mdc.mode = .loading)
    {found : Option Configuration} (hc : ∀ k, ((found.getD defaultConfiguration).circuits.get k).sound = true) :
    ClaimsFit (loadConfiguration found s) := by
  have hclt := loadConfiguration_clt found s
  have hnone := (noClaims_iff_claimAt s).mp (h.loading hmode)
  refine ⟨fun k => ?_, fun k e he => h.pending k e (loadConfiguration_pendingEntry found s ▸ he), fun j d hd => ?_,
    fun _ => ?_⟩
  · rw [maxLevelOf, loadConfiguration_inForce]
    exact CircuitEntry.maxLevel_of_sound (hc k)
  · rw [claimAt_congr hclt, hnone] at hd
    contradiction
  · rw [hclt]
    exact h.loading hmode

theorem reset_inForce : State.reset.crs.inForce = tabulate defaultCircuit := rfl

theorem reset_pendingEntry : State.reset.crs.pendingEntry = tabulate fun _ => none := rfl

theorem claimsFit_reset : ClaimsFit State.reset := by
  refine ⟨fun c => ?_, fun c e he => ?_, fun i c hc => ?_, fun _ => (noClaims_iff_claimAt _).mpr claimAt_reset⟩
  · simp [maxLevelOf, reset_inForce, defaultCircuit]
  · simp [reset_pendingEntry] at he
  · simp [claimAt_reset] at hc

theorem ClaimsFit.mapClaims {s : State} (h : ClaimsFit s) {f : Claim → Claim} (hf : ∀ c : Claim, c.Counted (f c)) :
    ClaimsFit (mapClaims f s) := by
  refine h.of_claims (by simp) (by simp) (fun i d hd => ?_) fun hm => noClaims_of_live (fun i d hd => ?_)
    (h.loading (by simpa using hm))
  · rw [claimAt_mapClaims] at hd
    obtain ⟨c, hc, rfl⟩ := Option.map_eq_some_iff.mp hd
    have hcirc : (f c).circuit = c.circuit := by rw [(hf c).rest]
    rw [hcirc]
    exact (hf c).fits (h.fits i c hc)
  · rw [claimAt_mapClaims] at hd
    obtain ⟨c, hc, -⟩ := Option.map_eq_some_iff.mp hd
    rw [hc]
    rfl

theorem ClaimsFit.pend {s : State} (h : ClaimsFit s) (k : Circ) {e : CircuitEntry} (he : e.sound = true) :
    ClaimsFit { s with crs := { s.crs with pendingEntry := put s.crs.pendingEntry k (some e) } } := by
  refine ⟨h.inForce, fun c x hx => ?_, h.fits, h.loading⟩
  simp only [put_get] at hx
  split at hx
  · injection hx with hx
    exact hx ▸ CircuitEntry.maxLevel_of_sound he
  · exact h.pending c x hx

theorem circuits_sound_of_found {bytes : List Byte} {found : Option Configuration}
    (h : found = none ∨ found = readImage bytes) (k : Circ) :
    ((found.getD defaultConfiguration).circuits.get k).sound = true := by
  cases found with
  | none => exact defaultConfiguration_circuits k
  | some c =>
    obtain h | h := h
    · contradiction
    · exact judgeCircuitRecord_sound ((readImage_eq_some h.symm).circuits k)

theorem ClaimsFit.stepLevel {s : State} (h : ClaimsFit s) {i : SlotIx} {c : Claim} (hc : claimAt s i = some c)
    {l share : Nat} (hlow : c.floor ≤ l) (hhigh : l ≤ c.requested) (hshare : share ≤ 250) :
    ClaimsFit (stepLevel i l share s) :=
  claimsFit_stepLevel h (by rw [hc]; rfl) hc (h.fits i c hc).toDrafted (fun _ _ => rfl) rfl rfl rfl hlow hhigh hshare

theorem claimsLaw : ClaimLaw ClaimsFit where
  same hsame h := h.congr hsame.clt hsame.inForce hsame.pendingEntry hsame.mode
  grant hc hbounds h := by
    obtain ⟨hlow, hhigh, hshare⟩ := hbounds ((claimsSound_iff _).mpr h)
    exact h.makeGranted hc hlow hhigh hshare
  step hc _ hbounds h := by
    obtain ⟨hlow, hhigh, hshare⟩ := hbounds ((claimsSound_iff _).mpr h)
    exact h.stepLevel hc hlow hhigh hshare
  hold hc _ r h := h.makeHeld hc r
  count hf s i h := h.modifyClaim fun c hc => ⟨by rw [(hf c).rest], (hf c).fits (h.fits i c hc)⟩
  countAll hf _ h := h.mapClaims hf
  retire _ i h := h.retire i
  alter hc a h := h.alter hc a
  raise hmode _ _ _ h := h.raiseInto hmode _
  bind hmode _ _ _ h := (h.raiseInto hmode _).congr rfl rfl rfl id
  unlink _ _ h := h.congr rfl rfl rfl id
  replace _ b e h := h.replaceBinding b e
  refit _ hmode h := h.refitted hmode
  pend _ k _ he h := h.pend k he
  load _ _ _ hread h := h.loadImage fun k => judgeCircuitRecord_sound ((readImage_eq_some hread).circuits k)
  loading _ _ _ hfound hmode h := h.loadConfiguration hmode (circuits_sound_of_found hfound)
  reset s cause := claimsFit_reset.congr (t := resetState cause s) rfl rfl rfl fun _ => rfl

/-- Settles O20: each operation on the claims keeps their records within their bounds, so every step does. -/
theorem claimsSoundKept : Obligations.ClaimsSoundKept :=
  fun s t h hstep => (claimsSound_iff t).mpr (claimsLaw.of_step hstep ((claimsSound_iff s).mp h))

end Sys2Proof.Machine

/-! PROOFS. The owners of the claims (R5) through the operations on the claims, and the statement O21. -/

namespace Sys2Proof.Machine

/-- What R5 reads of a claim: its origin and its circuit. -/
def Claim.owner (c : Claim) : Origin × Circ := (c.origin, c.circuit)

theorem owner_of_origin {s : State} {i : SlotIx} {o : Origin} (h : (claimAt s i).map (·.origin) = some o) :
    ∃ c, claimAt s i = some c ∧ c.origin = o := by
  obtain ⟨c, hc, ho⟩ := Option.map_eq_some_iff.mp h
  exact ⟨c, hc, ho⟩

/-- The owners of the claims, claim by claim (R5). -/
structure Owned (s : State) : Prop where
  linked : ∀ b h, (s.bde.recs.get b).link = .claim h →
    (s.clt.slots.get h.slot).gen = h.gen ∧ ∃ c, claimAt s h.slot = some c ∧ c.origin = .binding b
  bound : ∀ i b c, claimAt s i = some c → c.origin = .binding b → (s.bde.recs.get b).link = .claim (handleAt s i)
  single : ∀ i j c d, claimAt s i = some c → claimAt s j = some d → c.origin = .link → d.origin = .link →
    c.circuit = d.circuit → i = j
  loading : s.mdc.mode = .loading → noClaims s.clt = true

theorem ownersSound_iff (s : State) : OwnersSound s ↔ Owned s := by
  constructor
  · rintro ⟨⟨hlinked, hbound⟩, hsingle, hload⟩
    refine ⟨fun b h hl => ?_, fun i b c hc ho => hbound i b (by rw [hc, Option.map_some, ho]),
      fun i j c d hc hd hco hdo hcirc => hsingle i j (by rw [hc, Option.map_some, hco])
        (by rw [hd, Option.map_some, hdo]) (by rw [hc, hd, Option.map_some, Option.map_some, hcirc]), hload⟩
    obtain ⟨hgen, horigin⟩ := hlinked b h hl
    exact ⟨hgen, owner_of_origin horigin⟩
  · rintro ⟨hlinked, hbound, hsingle, hload⟩
    refine ⟨⟨fun b h hl => ?_, fun i b ho => ?_⟩, fun i j hi hj hcirc => ?_, hload⟩
    · obtain ⟨hgen, c, hc, ho⟩ := hlinked b h hl
      exact ⟨hgen, by rw [hc, Option.map_some, ho]⟩
    · obtain ⟨c, hc, ho⟩ := owner_of_origin ho
      exact hbound i b c hc ho
    · obtain ⟨c, hc, hco⟩ := owner_of_origin hi
      obtain ⟨d, hd, hdo⟩ := owner_of_origin hj
      rw [hc, hd, Option.map_some, Option.map_some] at hcirc
      exact hsingle i j c d hc hd hco hdo (Option.some.inj hcirc)

/-- A change that leaves every claim's owner, every generation and every claim link. -/
theorem Owned.congr {s t : State} (h : Owned s)
    (howner : ∀ i, (claimAt t i).map Claim.owner = (claimAt s i).map Claim.owner)
    (hgen : ∀ i, (t.clt.slots.get i).gen = (s.clt.slots.get i).gen)
    (hlink : ∀ b, (t.bde.recs.get b).link = (s.bde.recs.get b).link)
    (hmode : t.mdc.mode = .loading → s.mdc.mode = .loading) : Owned t := by
  have hback (i : SlotIx) (c : Claim) (hc : claimAt t i = some c) :
      ∃ d, claimAt s i = some d ∧ d.origin = c.origin ∧ d.circuit = c.circuit := by
    have ho := howner i
    rw [hc] at ho
    obtain ⟨d, hd, heq⟩ := Option.map_eq_some_iff.mp ho.symm
    exact ⟨d, hd, congrArg Prod.fst heq, congrArg Prod.snd heq⟩
  refine ⟨fun b k hl => ?_, fun i b c hc ho => ?_, fun i j c d hc hd hco hdo hcirc => ?_, fun hm => ?_⟩
  · obtain ⟨hg, c, hc, ho⟩ := h.linked b k (hlink b ▸ hl)
    have hto := howner k.slot
    rw [hc] at hto
    obtain ⟨d, hd, heq⟩ := Option.map_eq_some_iff.mp hto
    exact ⟨(hgen k.slot).trans hg, d, hd, (congrArg Prod.fst heq).trans ho⟩
  · obtain ⟨d, hd, heq, -⟩ := hback i c hc
    rw [hlink, h.bound i b d hd (heq.trans ho)]
    simp only [handleAt, hgen]
  · obtain ⟨c', hc', hco', hcc'⟩ := hback i c hc
    obtain ⟨d', hd', hdo', hdc'⟩ := hback j d hd
    exact h.single i j c' d' hc' hd' (hco'.trans hco) (hdo'.trans hdo) (hcc'.trans (hcirc.trans hdc'.symm))
  · exact noClaims_of_live (fun i c hc => by obtain ⟨d, hd, -⟩ := hback i c hc; rw [hd]; rfl) (h.loading (hmode hm))

theorem gen_of_clt {s t : State} (h : t.clt = s.clt) (i : SlotIx) :
    (t.clt.slots.get i).gen = (s.clt.slots.get i).gen := by rw [h]

theorem Owned.same {s t : State} (h : Owned s) (hsame : SameClaims s t) : Owned t :=
  h.congr (fun i => by rw [claimAt_congr hsame.clt]) (gen_of_clt hsame.clt) hsame.link hsame.mode

/-! ### The operations that leave every owner -/

/-- One slot's claim replaced by one of the same owner, the links and every generation as they were. -/
theorem Owned.of_one {s t : State} (h : Owned s) {i : SlotIx}
    (hown : (claimAt t i).map Claim.owner = (claimAt s i).map Claim.owner)
    (hother : ∀ j, j ≠ i → claimAt t j = claimAt s j)
    (hgen : ∀ j, (t.clt.slots.get j).gen = (s.clt.slots.get j).gen) (hbde : t.bde = s.bde)
    (hmode : t.mdc.mode = s.mdc.mode) : Owned t := by
  refine h.congr (fun j => ?_) hgen (fun b => by rw [hbde]) fun hm => hmode ▸ hm
  by_cases hj : j = i
  · exact hj ▸ hown
  · rw [hother j hj]

theorem Owned.modifyClaim {s : State} (h : Owned s) {i : SlotIx} {f : Claim → Claim}
    (hf : (claimAt s i).map (Claim.owner ∘ f) = (claimAt s i).map Claim.owner) : Owned (modifyClaim i f s) :=
  h.of_one (by rw [claimAt_modifyClaim, if_pos rfl, Option.map_map]; exact hf)
    (fun j hj => by rw [claimAt_modifyClaim, if_neg (Ne.symm hj)]) (fun j => gen_modifyClaim i j f s) (by simp)
    (by simp)

theorem Owned.makeGranted {s : State} (h : Owned s) (i : SlotIx) (l share : Nat) : Owned (makeGranted i l share s) :=
  (h.modifyClaim (i := i)
    (f := fun c => { c with state := .granted l, settle := addSettle share c.settle }) rfl).congr
    (fun _ => rfl) (fun _ => rfl) (fun _ => rfl) id

theorem Owned.makeHeld {s : State} (h : Owned s) (i : SlotIx) (r : HoldReasons) : Owned (makeHeld i r s) :=
  (h.modifyClaim (i := i) (f := fun c => { c with state := .held r, settle := none }) rfl).congr
    (fun _ => rfl) (fun _ => rfl) (fun _ => rfl) id

theorem Owned.admitSlot {s : State} (h : Owned s) (i : SlotIx) : Owned (admitSlot i s) := by
  unfold Machine.admitSlot
  split
  · exact h
  · split
    · exact h.makeGranted ..
    · exact (h.makeHeld ..).same (aside_setFlagIf ..).sameClaims

theorem Owned.alignLevel {s : State} (h : Owned s) (i : SlotIx) : Owned (alignLevel i s) := by
  have hstep (l added : Nat) : Owned (stepLevel i l added s) := h.modifyClaim rfl
  unfold Machine.alignLevel
  split
  · exact h
  · dsimp only
    repeat' split
    all_goals first | exact hstep .. | exact h | exact h.makeHeld ..

theorem Owned.alter {s : State} (h : Owned s) (i : SlotIx) (c : Claim) (a : Alteration) : Owned (alter i c a s) := by
  unfold Machine.alter
  dsimp only
  have hrecord : Owned (Machine.modifyClaim i (a.record (maxLevelOf s c.circuit)) s) := h.modifyClaim rfl
  generalize Machine.modifyClaim i (a.record (maxLevelOf s c.circuit)) s = t at hrecord ⊢
  split
  · exact hrecord
  · split
    · exact Owned.admitSlot (s := { t with clt := t.clt.leave i })
        (hrecord.congr (fun _ => rfl) (fun _ => rfl) (fun _ => rfl) id) i
    · split
      · exact hrecord.alignLevel i
      · exact hrecord

theorem Owned.mapClaims {s : State} (h : Owned s) {f : Claim → Claim} (hf : ∀ c, (f c).owner = c.owner) :
    Owned (mapClaims f s) := by
  refine h.congr (fun i => ?_) (fun i => by rw [slots_mapClaims]) (fun b => by simp) (by simp)
  rw [claimAt_mapClaims]
  cases claimAt s i with
  | none => rfl
  | some c => simp [hf]

/-! ### Retirement and the raise -/

theorem slotFreed_recs (s : State) : (slotFreed s).bde.recs = s.bde.recs := by
  unfold slotFreed; split <;> rfl

/-- The claim links after a retirement: a binding's own goes, the others stand (R12). -/
theorem link_retire {i : SlotIx} {c : Claim} {s : State} (hc : claimAt s i = some c) (b : BindIx) :
    ((retire i s).bde.recs.get b).link
      = if c.origin = .binding b then .none else (s.bde.recs.get b).link := by
  unfold retire
  rw [hc]
  dsimp only
  rw [slotFreed_recs]
  cases c.origin with
  | link => simp
  | binding k => simp [ClaimLaw.setLink_link]

theorem Owned.retire {s : State} (h : Owned s) (i : SlotIx) : Owned (retire i s) := by
  cases hc : claimAt s i with
  | none => rwa [retire_of_free hc]
  | some c =>
    have hlive (j : SlotIx) (d : Claim) (hd : claimAt (Machine.retire i s) j = some d) :
        i ≠ j ∧ claimAt s j = some d := by
      rw [claimAt_retire] at hd
      split at hd
      · contradiction
      · next hj => exact ⟨hj, hd⟩
    refine ⟨fun b k hl => ?_, fun j b d hd ho => ?_, fun j k d e hd he hdo heo hcirc => ?_, fun hm => ?_⟩
    · rw [link_retire hc] at hl
      split at hl
      · contradiction
      · next hb =>
        obtain ⟨hg, d, hd, ho⟩ := h.linked b k hl
        have hne : i ≠ k.slot := by
          rintro rfl
          obtain rfl : c = d := Option.some.inj (hc.symm.trans hd)
          exact hb ho
        exact ⟨by rw [gen_retire hc, if_neg hne, hg], d, by rw [claimAt_retire, if_neg hne, hd], ho⟩
    · obtain ⟨hj, hd⟩ := hlive j d hd
      have hlink := h.bound j b d hd ho
      rw [link_retire hc, if_neg, hlink]
      · simp only [handleAt, gen_retire hc, if_neg hj]
      · intro hb
        have := h.bound i b c hc hb
        rw [hlink] at this
        injection this with this
        exact hj (congrArg Handle.slot this).symm
    · exact h.single j k d e (hlive j d hd).2 (hlive k e he).2 hdo heo hcirc
    · exact noClaims_of_live (fun j d hd => by rw [(hlive j d hd).2]; rfl) (h.loading (by simpa using hm))

theorem Owned.foldl_retire {s : State} (h : Owned s) (xs : List SlotIx) :
    Owned (xs.foldl (fun s i => Machine.retire i s) s) :=
  Keeps.foldl (P := Owned) (fun i _ h => h.retire i) xs s h

theorem setClaim_gen (t : ClaimTable) (i j : SlotIx) (o : Option Claim) :
    ((t.setClaim i o).slots.get j).gen = (t.slots.get j).gen := by
  simp only [ClaimTable.setClaim, upd_get]
  split
  · next h => rw [h]
  · rfl

theorem gen_admitSlot (i j : SlotIx) (s : State) :
    ((admitSlot i s).clt.slots.get j).gen = (s.clt.slots.get j).gen := by
  unfold admitSlot
  split
  · rfl
  · split
    · exact gen_modifyClaim i j _ s
    · simp only [setFlagIf_clt]
      exact gen_modifyClaim i j _ s

theorem gen_raiseInto (i j : SlotIx) (r : Raise) (s : State) :
    ((raiseInto i r s).clt.slots.get j).gen = (s.clt.slots.get j).gen :=
  (gen_admitSlot ..).trans (setClaim_gen ..)

/-- The claim a raise leaves in its slot has the owner the raise names (R9). -/
theorem owner_raiseInto (i : SlotIx) (r : Raise) (s : State) :
    (claimAt (raiseInto i r s) i).map Claim.owner = some (r.origin, r.circuit) := by
  have h : claimAt { s with clt := s.clt.setClaim i (some (newClaim s r)) } i = some (newClaim s r) := by
    simp [claimAt, ClaimTable.setClaim]
  rw [raiseInto, claimAt_admitSlot h, if_pos rfl]
  split <;> rfl

@[simp] theorem raiseInto_bde (i : SlotIx) (r : Raise) (s : State) : (raiseInto i r s).bde = s.bde := by
  simp [raiseInto]

@[simp] theorem raiseInto_mdc (i : SlotIx) (r : Raise) (s : State) : (raiseInto i r s).mdc = s.mdc := by
  simp [raiseInto]

theorem linkClaimOn_none {s : State} {k : Circ} (h : linkClaimOn s k = none) {i : SlotIx} {c : Claim}
    (hc : claimAt s i = some c) (ho : c.origin = .link) : c.circuit ≠ k := by
  intro hk
  have hlive : i ∈ liveSlots s.clt := (mem_liveSlots ..).mpr (by rw [show (s.clt.slots.get i).claim = some c from hc]; rfl)
  have := List.find?_eq_none.mp h i hlive
  simp [hc, hk, ho] at this

/-- A claim after a raise is the one raised or one of before. -/
theorem claim_raiseInto {i : SlotIx} {r : Raise} {s : State} {j : SlotIx} {c : Claim}
    (h : claimAt (raiseInto i r s) j = some c) :
    (j = i ∧ c.origin = r.origin ∧ c.circuit = r.circuit) ∨ j ≠ i ∧ claimAt s j = some c := by
  by_cases hj : j = i
  · subst hj
    have ho := owner_raiseInto j r s
    rw [h, Option.map_some] at ho
    have ho := Option.some.inj ho
    exact .inl ⟨rfl, congrArg Prod.fst ho, congrArg Prod.snd ho⟩
  · exact .inr ⟨hj, by rwa [claimAt_raiseInto i j r s (Ne.symm hj)] at h⟩

theorem Owned.raise {s : State} (h : Owned s) {i : SlotIx} {r : Raise} (hmode : s.mdc.mode = .run)
    (hfree : claimAt s i = none) (ho : r.origin = .link) (hnone : linkClaimOn s r.circuit = none) :
    Owned (raiseInto i r s) := by
  refine ⟨fun b k hl => ?_, fun j b c hc hco => ?_, fun j k c d hc hd hco hdo hcirc => ?_, fun hm => ?_⟩
  · rw [raiseInto_bde] at hl
    obtain ⟨hg, c, hc, hco⟩ := h.linked b k hl
    have hne : i ≠ k.slot := by
      rintro rfl
      simp [hfree] at hc
    exact ⟨by rw [gen_raiseInto, hg], c, by rw [claimAt_raiseInto i _ r s hne, hc], hco⟩
  · obtain ⟨-, hor, -⟩ | ⟨-, hc⟩ := claim_raiseInto hc
    · rw [hor, ho] at hco
      contradiction
    · simp only [raiseInto_bde, handleAt, gen_raiseInto, h.bound j b c hc hco]
  · obtain ⟨rfl, -, hcc⟩ | ⟨hj, hc⟩ := claim_raiseInto hc
    · obtain ⟨rfl, -, -⟩ | ⟨-, hd⟩ := claim_raiseInto hd
      · rfl
      · exact absurd (hcirc.symm.trans hcc) (linkClaimOn_none hnone hd hdo)
    · obtain ⟨-, -, hdc⟩ | ⟨-, hd⟩ := claim_raiseInto hd
      · exact absurd (hcirc.trans hdc) (linkClaimOn_none hnone hc hco)
      · exact h.single j k c d hc hd hco hdo hcirc
  · simp [hmode] at hm

theorem Owned.bind {s : State} (h : Owned s) {i : SlotIx} {b : BindIx} {r : Raise} (hmode : s.mdc.mode = .run)
    (hfree : claimAt s i = none) (ho : r.origin = .binding b) (hlink : ∀ k, (s.bde.recs.get b).link ≠ .claim k) :
    Owned (setLink b (.claim (handleAt s i)) (raiseInto i r s)) := by
  have hclaim (j : SlotIx) : claimAt (setLink b (.claim (handleAt s i)) (raiseInto i r s)) j
      = claimAt (raiseInto i r s) j := rfl
  have hgen (j : SlotIx) : ((setLink b (.claim (handleAt s i)) (raiseInto i r s)).clt.slots.get j).gen
      = (s.clt.slots.get j).gen := gen_raiseInto i j r s
  refine ⟨fun k l hl => ?_, fun j k c hc hco => ?_, fun j k c d hc hd hco hdo hcirc => ?_, fun hm => ?_⟩
  · rw [ClaimLaw.setLink_link, raiseInto_bde] at hl
    rw [hgen, hclaim]
    split at hl
    · next hk =>
      injection hl with hl
      subst hl
      have hown := owner_raiseInto i r s
      obtain ⟨c, hc, hco⟩ := Option.map_eq_some_iff.mp hown
      exact ⟨rfl, c, hc, (congrArg Prod.fst hco).trans (ho.trans (by rw [hk]))⟩
    · obtain ⟨hg, c, hc, hco⟩ := h.linked k l hl
      have hne : i ≠ l.slot := by
        rintro rfl
        simp [hfree] at hc
      exact ⟨hg, c, by rw [claimAt_raiseInto i _ r s hne, hc], hco⟩
  · have hhandle : handleAt (setLink b (.claim (handleAt s i)) (raiseInto i r s)) j = handleAt s j :=
      congrArg (Handle.mk j) (hgen j)
    rw [hhandle, ClaimLaw.setLink_link, raiseInto_bde]
    obtain ⟨hj, hor, -⟩ | ⟨-, hc⟩ := claim_raiseInto hc
    · rw [hor, ho] at hco
      injection hco with hco
      rw [if_pos hco, hj]
    · have hk := h.bound j k c hc hco
      rw [if_neg, hk]
      rintro rfl
      exact hlink _ hk
  · obtain ⟨-, hor, -⟩ | ⟨-, hc⟩ := claim_raiseInto hc
    · rw [hor, ho] at hco
      contradiction
    · obtain ⟨-, hor, -⟩ | ⟨-, hd⟩ := claim_raiseInto hd
      · rw [hor, ho] at hdo
        contradiction
      · exact h.single j k c d hc hd hco hdo hcirc
  · have hm : (raiseInto i r s).mdc.mode = .loading := hm
    simp [hmode] at hm

/-! ### The claim links and the configuration -/

/-- A claim link that names no claim may become another that names none. -/
theorem Owned.unlink {s t : State} (h : Owned s) (hclt : t.clt = s.clt) {b : BindIx}
    (hb : ∀ k, (s.bde.recs.get b).link ≠ .claim k) (hb' : ∀ k, (t.bde.recs.get b).link ≠ .claim k)
    (hother : ∀ k, k ≠ b → (t.bde.recs.get k).link = (s.bde.recs.get k).link)
    (hmode : t.mdc.mode = s.mdc.mode) : Owned t := by
  refine ⟨fun k l hl => ?_, fun j k c hc ho => ?_, fun i j c d hc hd => ?_, fun hm => ?_⟩
  · have hk : k ≠ b := fun hk => hb' l (hk ▸ hl)
    rw [hclt, claimAt_congr hclt]
    exact h.linked k l (hother k hk ▸ hl)
  · rw [claimAt_congr hclt] at hc
    have hlink := h.bound j k c hc ho
    have hk : k ≠ b := fun hk => hb _ (hk ▸ hlink)
    rw [hother k hk, hlink]
    simp only [handleAt, hclt]
  · rw [claimAt_congr hclt] at hc hd
    exact h.single i j c d hc hd
  · exact hclt ▸ h.loading (hmode ▸ hm)

/-- The claim links after a BIND.WRITE: the binding's own is none (R133). -/
theorem replaceBinding_link (b : BindIx) (e : BindEntry) (s : State) (k : BindIx) :
    ((replaceBinding b e s).bde.recs.get k).link = if b = k then .none
      else ((match (s.bde.recs.get b).link with
        | .claim h => retire h.slot s
        | .wanting | .none => s).bde.recs.get k).link := by
  unfold replaceBinding
  cases (s.bde.recs.get b).link <;> simp only [beginRequested_recs, requestPass, put_get, withHandOver, handOver_bde] <;>
    split <;> rfl

theorem Owned.replaceBinding {s : State} (h : Owned s) (b : BindIx) (e : BindEntry) :
    Owned (replaceBinding b e s) := by
  have hclt := replaceBinding_clt b e s
  have hlink := replaceBinding_link b e s
  have hb : ∀ k, ((Machine.replaceBinding b e s).bde.recs.get b).link ≠ .claim k := by
    intro k
    rw [hlink, if_pos rfl]
    simp
  cases hl : (s.bde.recs.get b).link with
  | claim hd =>
    rw [hl] at hclt
    simp only [hl] at hlink
    obtain ⟨-, c, hc, ho⟩ := h.linked b hd hl
    refine (h.retire hd.slot).unlink hclt (b := b) (fun k => ?_) hb (fun k hk => ?_) (by simp)
    · rw [link_retire hc, if_pos ho]
      simp
    · rw [hlink, if_neg (Ne.symm hk)]
  | wanting | none =>
    rw [hl] at hclt
    simp only [hl] at hlink
    exact h.unlink hclt (b := b) (by simp [hl]) hb (fun k hk => by rw [hlink, if_neg (Ne.symm hk)]) (by simp)

theorem mem_bindingSlots (s : State) (i : SlotIx) :
    i ∈ bindingSlots s ↔ ∃ c, claimAt s i = some c ∧ c.origin ≠ .link := by
  unfold bindingSlots
  rw [List.mem_filter, mem_liveSlots]
  cases hc : claimAt s i <;> simp_all [claimAt]

theorem loadImage_recs (c : Configuration) (s : State) (b : BindIx) : (loadImage c s).bde.recs.get b = resetBindRec := by
  simp [loadImage, endOperation, takeConfiguration, requestPass]

theorem Owned.loadImage {s : State} (h : Owned s) (c : Configuration) : Owned (loadImage c s) := by
  refine ⟨fun b k hl => ?_, fun j b d hd ho => ?_, fun i j d e hd he => ?_, fun hm => ?_⟩
  · rw [loadImage_recs] at hl
    contradiction
  · obtain ⟨hd, hj⟩ := claimAt_loadImage hd
    exact absurd ((mem_bindingSlots s j).mpr ⟨d, hd, by simp [ho]⟩) hj
  · exact h.single i j d e (claimAt_loadImage hd).1 (claimAt_loadImage he).1
  · rw [loadImage_mode] at hm
    exact noClaims_of_live (fun j d hd => by rw [(claimAt_loadImage hd).1]; rfl) (h.loading hm)

theorem Owned.of_empty {s : State} (hnone : ∀ i, claimAt s i = none)
    (hlink : ∀ b, (s.bde.recs.get b).link = .none) : Owned s :=
  ⟨fun b k hl => by simp [hlink b] at hl, fun i _ _ hc => by simp [hnone i] at hc,
    fun i _ _ _ hc => by simp [hnone i] at hc, fun _ => (noClaims_iff_claimAt s).mpr hnone⟩

theorem Owned.loadConfiguration {s : State} (h : Owned s) (hmode : s.mdc.mode = .loading)
    (found : Option Configuration) : Owned (loadConfiguration found s) := by
  refine .of_empty (fun i => ?_) fun b => ?_
  · rw [claimAt_congr (loadConfiguration_clt found s)]
    exact (noClaims_iff_claimAt s).mp (h.loading hmode) i
  · simp [Machine.loadConfiguration, takeConfiguration, resetBindRec]

theorem reset_recs : State.reset.bde.recs = tabulate fun _ => resetBindRec := rfl

theorem owned_reset : Owned State.reset :=
  .of_empty claimAt_reset fun b => by simp [reset_recs, resetBindRec]

theorem Claim.Counted.owner_eq {c c' : Claim} (h : c.Counted c') : c'.owner = c.owner := by
  rw [h.rest]
  rfl

theorem Owned.refitted {s : State} (h : Owned s) : Owned (refitted s) := by
  have hfit (m : Nat) (c : Claim) : (c.fitLevels m).owner = c.owner := by
    unfold Claim.fitLevels; split <;> rfl
  have hretake (s : State) (c : Claim) : (c.retakeShare s).owner = c.owner := by
    unfold Claim.retakeShare; split <;> rfl
  have happlied : Owned (applyPending s) := h.congr (fun _ => rfl) (fun _ => rfl) (fun _ => rfl) id
  exact ((happlied.foldl_retire _).mapClaims fun c => hfit _ c).mapClaims (hretake _)

theorem ownersLaw : ClaimLaw Owned where
  same hsame h := h.same hsame
  grant _ _ h := h.makeGranted ..
  step _ _ _ h := h.modifyClaim rfl
  hold _ _ r h := h.makeHeld _ r
  count hf s i h := h.modifyClaim (by
    cases claimAt s i with
    | none => rfl
    | some c => simp [(hf c).owner_eq])
  countAll hf _ h := h.mapClaims fun c => (hf c).owner_eq
  retire _ i h := h.retire i
  alter _ a h := h.alter _ _ a
  raise hmode hfree ho hnone h := h.raise hmode hfree ho hnone
  bind hmode hfree ho hlink h := h.bind hmode hfree ho hlink
  unlink {s b l} hb hl h := h.unlink (t := setLink b l s) rfl hb
    (fun k => by rw [ClaimLaw.setLink_link, if_pos rfl]; exact hl k)
    (fun k hk => by rw [ClaimLaw.setLink_link, if_neg (Ne.symm hk)]) rfl
  replace _ b e h := h.replaceBinding b e
  refit _ _ h := h.refitted
  pend _ _ _ _ h := h.congr (fun _ => rfl) (fun _ => rfl) (fun _ => rfl) id
  load _ _ c _ h := h.loadImage c
  loading _ _ found _ hmode h := h.loadConfiguration hmode found
  reset s cause := owned_reset.congr (t := resetState cause s) (fun _ => rfl) (fun _ => rfl) (fun _ => rfl) fun _ => rfl

/-- Settles O21: each operation on the claims keeps the owners sound, so every step does. -/
theorem ownersSoundKept : Obligations.OwnersSoundKept :=
  fun s t h hstep => (ownersSound_iff t).mpr (ownersLaw.of_step hstep ((ownersSound_iff s).mp h))

end Sys2Proof.Machine

/-! PROOFS. What the operations on the claims leave of the outputs, the configuration, the mode, the link and the pass. -/

namespace Sys2Proof.Machine

/-- Two states that differ in the claims, the budget's runs and holds, the bindings' records, the pass-requested mark and
the status flags alone. -/
structure ClaimsMove (s t : State) : Prop where
  crs : t.crs = s.crs
  fls : t.fls = s.fls
  chd : t.chd = s.chd
  sws : t.sws = s.sws
  gau : t.gau = s.gau
  mdc : t.mdc = s.mdc
  link : t.lif.link = s.lif.link
  entries : t.bde.entries = s.bde.entries
  pass : t.bde.pass = s.bde.pass
  waiting : t.bde.waiting = s.bde.waiting
  charging : t.sbu.charging = s.sbu.charging

namespace ClaimsMove

variable {s t u : State}

theorem refl (s : State) : ClaimsMove s s := ⟨rfl, rfl, rfl, rfl, rfl, rfl, rfl, rfl, rfl, rfl, rfl⟩

theorem trans (h : ClaimsMove s t) (h' : ClaimsMove t u) : ClaimsMove s u :=
  ⟨h'.crs.trans h.crs, h'.fls.trans h.fls, h'.chd.trans h.chd, h'.sws.trans h.sws, h'.gau.trans h.gau,
    h'.mdc.trans h.mdc, h'.link.trans h.link, h'.entries.trans h.entries, h'.pass.trans h.pass,
    h'.waiting.trans h.waiting, h'.charging.trans h.charging⟩

theorem foldl {α : Type} {f : State → α → State} (hf : ∀ s a, ClaimsMove s (f s a)) (xs : List α) (s : State) :
    ClaimsMove s (xs.foldl f s) := by
  induction xs generalizing s with
  | nil => exact refl s
  | cons x xs ih => exact (hf s x).trans (ih (f s x))

theorem ite {p : Prop} [Decidable p] (ht : ClaimsMove s t) (hu : ClaimsMove s u) :
    ClaimsMove s (if p then t else u) := by
  split
  · exact ht
  · exact hu

end ClaimsMove

/-! ### The operations -/

theorem move_setClt (s : State) (t : ClaimTable) : ClaimsMove s { s with clt := t } := { ClaimsMove.refl s with }

theorem move_setFlag (f : Flag) (s : State) : ClaimsMove s (setFlag f s) := { ClaimsMove.refl s with }

theorem move_setFlagIf (b : Bool) (f : Flag) (s : State) : ClaimsMove s (setFlagIf b f s) := by
  cases b
  · exact .refl s
  · exact move_setFlag f s

theorem move_modifyClaim (i : SlotIx) (f : Claim → Claim) (s : State) : ClaimsMove s (modifyClaim i f s) :=
  move_setClt s _

theorem move_mapClaims (f : Claim → Claim) (s : State) : ClaimsMove s (mapClaims f s) := move_setClt s _

theorem move_makeGranted (i : SlotIx) (l share : Nat) (s : State) : ClaimsMove s (makeGranted i l share s) :=
  (move_modifyClaim i _ s).trans (move_setClt _ _)

theorem move_makeHeld (i : SlotIx) (r : HoldReasons) (s : State) : ClaimsMove s (makeHeld i r s) :=
  (move_modifyClaim i _ s).trans (move_setClt _ _)

theorem move_admitSlot (i : SlotIx) (s : State) : ClaimsMove s (admitSlot i s) := by
  unfold admitSlot
  split
  · exact .refl s
  · split
    · exact move_makeGranted ..
    · exact (move_makeHeld ..).trans (move_setFlagIf ..)

theorem move_raiseInto (i : SlotIx) (r : Raise) (s : State) : ClaimsMove s (raiseInto i r s) :=
  (move_setClt s _).trans (move_admitSlot _ _)

theorem move_setLink (b : BindIx) (l : BindLink) (s : State) : ClaimsMove s (setLink b l s) :=
  { ClaimsMove.refl s with }

theorem move_slotFreed (s : State) : ClaimsMove s (slotFreed s) := by
  unfold slotFreed
  split
  · exact { ClaimsMove.refl s with }
  · exact .refl s

theorem move_retire (i : SlotIx) (s : State) : ClaimsMove s (retire i s) := by
  unfold retire
  split
  · exact .refl s
  · dsimp only
    split
    · exact ((move_setClt s _).trans (move_setLink ..)).trans (move_slotFreed _)
    · exact (move_setClt s _).trans (move_slotFreed _)

theorem move_alignLevel (i : SlotIx) (s : State) : ClaimsMove s (alignLevel i s) := by
  unfold alignLevel
  split
  · exact .refl s
  · exact .ite (move_modifyClaim ..) (.ite (.refl s) (.ite (move_modifyClaim ..)
      (.ite (.refl s) (.ite (move_modifyClaim ..) (move_makeHeld ..)))))

theorem move_alter (i : SlotIx) (c : Claim) (a : Alteration) (s : State) : ClaimsMove s (alter i c a s) :=
  (move_modifyClaim i (a.record (maxLevelOf s c.circuit)) s).trans
    (.ite (.refl _) (.ite ((move_setClt _ _).trans (move_admitSlot _ _)) (.ite (move_alignLevel ..) (.refl _))))

theorem move_crankWalk (s : State) : ClaimsMove s (crankWalk s) := .foldl (fun _ _ => move_makeHeld ..) _ s

theorem move_endRecovery (s : State) : ClaimsMove s (endRecovery s) :=
  ClaimsMove.trans (t := { s with sbu := { s.sbu with crank := .none } }) { ClaimsMove.refl s with } (move_mapClaims _ _)

theorem move_endHostHold (s : State) : ClaimsMove s (endHostHold s) :=
  ClaimsMove.trans (t := { s with sbu := { s.sbu with hostHold := none } }) { ClaimsMove.refl s with }
    (move_mapClaims _ _)

theorem move_endCrank (s : State) : ClaimsMove s (endCrank s) := by
  unfold endCrank
  split
  · exact { ClaimsMove.refl s with }
  · exact .refl s

theorem move_placeHostHold (h : HostHold) (s : State) : ClaimsMove s (placeHostHold h s).1 :=
  (ClaimsMove.trans (t := { s with sbu := { s.sbu with hostHold := some h } }) { ClaimsMove.refl s with }
    (move_mapClaims _ _)).trans (.foldl (fun _ _ => move_makeHeld ..) _ _)

theorem move_countExpiry (s : State) (i : SlotIx) : ClaimsMove s (countExpiry s i) := by
  unfold countExpiry
  split
  · exact .refl s
  · split
    · exact .refl s
    · exact .ite ((move_retire ..).trans (move_setFlag ..)) (move_modifyClaim ..)

theorem move_countRecovery (s : State) : ClaimsMove s (countRecovery s) := by
  unfold countRecovery
  split
  · exact .ite (move_endRecovery s) { ClaimsMove.refl s with }
  · exact .refl s
  · exact .refl s

theorem move_countHostHold (s : State) : ClaimsMove s (countHostHold s) := by
  unfold countHostHold
  split
  · exact .ite (move_endHostHold s) { ClaimsMove.refl s with }
  · exact .refl s

theorem move_countStages (s : State) : ClaimsMove s (countStages s) :=
  (((move_mapClaims _ s).trans (move_mapClaims _ _)).trans ((move_countRecovery _).trans (move_countHostHold _))).trans
    (.foldl move_countExpiry _ _)

theorem move_setRuns (d u : Nat) (s : State) : ClaimsMove s (setRuns d u s) := { ClaimsMove.refl s with }

theorem move_shed (i : SlotIx) (s : State) : ClaimsMove s (shed i s) := by
  unfold shed
  split
  · exact .refl s
  · exact .ite (move_modifyClaim ..) ((move_makeHeld ..).trans (move_setFlag ..))

theorem move_takeBack (room : Int) (i : SlotIx) (s : State) : ClaimsMove s (takeBack room i s) := by
  unfold takeBack
  split
  · exact .refl s
  · exact .ite ((move_makeGranted ..).trans (move_setFlag ..)) (move_modifyClaim ..)

theorem move_actionStage (s : State) : ClaimsMove s (actionStage s) := by
  refine .ite (.ite ?_ ?_) (move_setRuns ..)
  · refine .ite ?_ (move_setRuns ..)
    split
    · exact (move_setRuns ..).trans (move_shed ..)
    · exact move_setRuns ..
  · unfold surplusStage
    split
    · exact move_setRuns ..
    · split
      · exact move_setRuns ..
      · exact .ite (.ite ((move_setRuns ..).trans (move_takeBack ..)) (move_setRuns ..)) (move_setRuns ..)

/-- From the measurement on an evaluation moves the claims alone. -/
theorem move_evaluationStages (s : State) : ClaimsMove (measureStage s) (evaluationStages s) :=
  (move_countStages _).trans (move_actionStage _)

theorem move_bindingRaise (b : BindIx) (a : Action) (s : State) : ClaimsMove s (bindingRaise b a s) := by
  refine .ite (move_setLink ..) ?_
  split
  · exact (move_setLink ..).trans (move_setFlag ..)
  · exact (move_raiseInto ..).trans (move_setLink ..)

theorem move_reconcile (b : BindIx) (a : Action) (matched : Bool) (s : State) :
    ClaimsMove s (reconcile b a matched s) := by
  unfold reconcile
  split
  · exact move_bindingRaise ..
  · exact move_bindingRaise ..
  · exact move_modifyClaim ..
  · exact .ite (move_retire ..) (move_modifyClaim ..)
  · exact move_setLink ..
  · exact .refl s

theorem move_takeBinding (p : Pass) (b : BindIx) (s : State) : ClaimsMove s (takeBinding p b s).2 := by
  have hresult (r : Bool) : ClaimsMove s (recordResult b r s) := { ClaimsMove.refl s with }
  unfold takeBinding
  split
  · exact .refl s
  · exact .refl s
  · exact hresult _
  · dsimp only
    split
    · exact hresult _
    · have hverdict (r m : Bool) : ClaimsMove s (recordVerdict b m (recordResult b r s)) :=
        (hresult r).trans { ClaimsMove.refl _ with }
      dsimp only
      split
      · exact (hverdict _ _).trans (move_reconcile ..)
      · exact hverdict _ _

theorem move_foldl_retire (xs : List SlotIx) (s : State) : ClaimsMove s (xs.foldl (fun s i => retire i s) s) :=
  .foldl (fun s i => move_retire i s) xs s

theorem move_refitted (s : State) : ClaimsMove (applyPending s) (refitted s) :=
  ((move_foldl_retire _ _).trans (move_mapClaims _ _)).trans (move_mapClaims _ _)

theorem move_stopBudget (s : State) : ClaimsMove s (stopBudget s) :=
  ((move_endHostHold s).trans (move_endRecovery _)).trans { ClaimsMove.refl _ with }

end Sys2Proof.Machine

/-! PROOFS. A step brings a property about from another, or keeps one, when the effect of each command does: the commands
taken apart once, for every property whose keeping is stated. -/

namespace Sys2Proof.Machine

/-- An effect brings about `Q` where `P` held. -/
abbrev Brings (P Q : State → Prop) (f : State → State) : Prop := ∀ s, P s → Q (f s)

/-- The owner of a request that stands in work at the link brings about `Q` where `P` held, when it carries the request
out and answers. -/
abbrev ServeBrings (P Q : State → Prop) (r : Req) (body : List Byte → State → State × Reply) : Prop :=
  ∀ p s, s.lif.link = .working { req := r, params := p } → P s → Q (answer (body p s).2 (body p s).1)

/-- The owner of a request keeps a property when it carries the request out and answers. -/
abbrev ServeKeeps (P : State → Prop) (r : Req) (body : List Byte → State → State × Reply) : Prop := ServeBrings P P r body

theorem act_brings {P Q : State → Prop} (weak : ∀ s, P s → Q s) (settle : Keeps Q settleTimer) {f : State → State}
    (hf : Brings P Q f) {s t : State} (h : act f s = .next t) (hP : P s) : Q t := by
  rw [act_eq] at h
  injection h with h
  subst h
  split
  · exact weak s hP
  · exact settle _ (hf s hP)

/-- What LOADING finds in a store's content: nothing, or the image that stands in it (R180). -/
abbrev FoundIn (bytes : List Byte) (found : Option Configuration) : Prop := found = none ∨ found = readImage bytes

/-- The effects of the commands bring about `Q` where `P` held; `P` stands until the effect. -/
structure Effects (P Q : State → Prop) : Prop where
  weak : ∀ s, P s → Q s
  settle : Keeps Q settleTimer
  pop : ∀ s rest, P s → P { s with pending := rest }
  frame : ∀ bytes, Keeps P (takeFrame bytes)
  fetch : ∀ n, Brings P Q (takeFetch n)
  read : ∀ r body, r ≠ .bindWrite → (∀ p s, (body p s).1 = s) → ServeBrings P Q r body
  statusClear : ServeBrings P Q .statusClear statusClear
  enableSet : ServeBrings P Q .enableSet (enableChange fun enable named => enable ||| named)
  enableClear : ServeBrings P Q .enableClear (enableChange fun enable named => enable &&& ~~~named)
  channelRead : ServeBrings P Q .channelRead channelRead
  channelRestore : ServeBrings P Q .channelRestore channelRestore
  claimRaise : ServeBrings P Q .claimRaise claimRaise
  claimAlter : ServeBrings P Q .claimAlter claimAlter
  claimRetire : ServeBrings P Q .claimRetire claimRetire
  holdSet : ServeBrings P Q .holdSet holdSet
  circuitWrite : ServeBrings P Q .circuitWrite circuitWrite
  flasherSet : ServeBrings P Q .flasherSet flasherSet
  profileWrite : ServeBrings P Q .profileWrite profileWrite
  groupWrite : ServeBrings P Q .groupWrite groupWrite
  bindWaits : ∀ p s, s.lif.link = .working { req := .bindWrite, params := p } → s.bde.pass.isSome = true → P s →
    Q { s with bde := { s.bde with waiting := some p } }
  bindWrite : ∀ p s, s.lif.link = .working { req := .bindWrite, params := p } → s.bde.pass.isSome = false → P s →
    Q (answer (bindWrite p s).2 (bindWrite p s).1)
  gaugeSet : ServeBrings P Q .gaugeSet gaugeSet
  quiesce : ServeBrings P Q .quiesce quiesce
  resume : ServeBrings P Q .resume resume
  storeSave : ServeBrings P Q .storeSave storeSave
  storeLoad : ServeBrings P Q .storeLoad storeLoad
  outputs : ∀ c s t, movesOutputs c = true → exec c s = .next t → P s → Q t
  levels : ∀ s levels, P s → P { s with pins := { s.pins with levels := levels } }
  scan : ∀ levels s, s.mdc.mode ≠ .loading → P s → Q (scanInputs levels s)
  passStep : ∀ s, s.mdc.mode = .run → P s → Q (passStep s)
  evaluation : ∀ s, budgetRuns s = true → P s → Q (beginRequested (refreshDemands (withHandOver evaluationStages s)))
  count : ∀ (f : Claim → Claim) s i, (∀ c : Claim, c.Counted (f c)) → P s → Q (modifyClaim i f s)
  recovery : Brings P Q endRecovery
  hostHold : Brings P Q endHostHold
  expiry : ∀ s i, budgetRuns s = true → P s →
    Q (beginRequested (withHandOver (fun s => setFlag .claimExpired (retire i s)) s))
  reset : ∀ cause, Brings P Q (resetState cause)
  loading : ∀ s bytes found, s.mdc.mode = .loading → FoundIn bytes found → P s →
    Q (scanInputs s.pins.levels (enterRun true (loadConfiguration found { s with store := bytes })))
  saved : ∀ s image, s.mdc.op = .save image → P s →
    Q (endOperation .storeDone { s with store := image ++ s.store.drop image.length })
  saveFailed : ∀ s, saving s = true → P s → Q (endOperation .storeFail (cutSave s))
  loaded : ∀ s bytes c, s.mdc.op = .load → readImage bytes = some c → P s →
    Q (beginRequested (loadImage c { s with store := bytes }))
  loadFailed : ∀ s bytes, s.mdc.op = .load → P s → Q (endOperation .storeFail { s with store := bytes })
  sleepEntry : ∀ s, mayDoze s = true → P s → Q (dropReply (stopBudget (leaveRun .sleep s)))
  leaveReset : ∀ s, s.mdc.heldInReset = true → P s → Q { s with mdc := { s.mdc with heldInReset := false } }

namespace Effects

variable {P Q : State → Prop} (law : Effects P Q)
include law

theorem event {f : State → State} (hf : Brings P Q f) {s t : State} (h : act f s = .next t) (hP : P s) : Q t :=
  act_brings law.weak law.settle hf h hP

theorem reach (r : Req) (p : List Byte) : Keeps P (reach r p) := by
  intro s h
  unfold Machine.reach
  split
  · exact h
  · exact law.frame _ s h

theorem serve {r : Req} {body : List Byte → State → State × Reply} (hb : ServeBrings P Q r body) {p : List Byte}
    {s t : State} (hstep : serve r body p s = .next t) (hP : P s) : Q t := by
  refine law.event (fun s h => ?_) hstep hP
  have hreach := law.reach r p s h
  dsimp only
  split
  · next hwork => exact hb p _ ((inWork_iff ..).mp hwork) hreach
  · exact law.weak _ hreach

theorem execBindWrite (p : List Byte) {s t : State} (hstep : execBindWrite p s = .next t) (hP : P s) : Q t := by
  unfold Machine.execBindWrite at hstep
  refine law.event (fun s h => ?_) hstep hP
  have hreach := law.reach .bindWrite p s h
  dsimp only
  split
  · next hwork =>
    have hwork := (inWork_iff ..).mp hwork
    split
    · next hpass => exact law.bindWaits p _ hwork hpass hreach
    · next hpass => exact law.bindWrite p _ hwork (by simpa using hpass) hreach
  · exact law.weak _ hreach

theorem execSwitchScan (levels : BitVec 26) {s t : State} (hstep : execSwitchScan levels s = .next t) (hP : P s) : Q t := by
  unfold Machine.execSwitchScan at hstep
  refine law.event (fun s h => ?_) hstep hP
  have hpins := law.levels s levels h
  dsimp only
  split
  · exact law.weak _ hpins
  · next hmode => exact law.scan levels _ hmode hpins

theorem execPassStep {s t : State} (hstep : execPassStep s = .next t) (hP : P s) : Q t := by
  unfold Machine.execPassStep at hstep
  refine law.event (fun s h => ?_) hstep hP
  split
  · next hmode => exact law.passStep s hmode h
  · exact law.weak _ h

theorem execBudgetEvaluation {s t : State} (hstep : execBudgetEvaluation s = .next t) (hP : P s) : Q t := by
  unfold Machine.execBudgetEvaluation at hstep
  refine law.event (fun s h => ?_) hstep hP
  split
  · next hruns => exact law.evaluation s hruns h
  · exact law.weak _ h

theorem execSettlePartExpiry (i : SlotIx) {s t : State} (hstep : execSettlePartExpiry i s = .next t) (hP : P s) : Q t := by
  unfold Machine.execSettlePartExpiry at hstep
  refine law.event (fun s h => ?_) hstep hP
  split
  · refine law.count _ s i (fun c => ?_) h
    split
    · exact ⟨rfl, rfl, rfl, fun _ => rfl⟩
    · exact ⟨rfl, rfl, rfl, id⟩
  · exact law.weak _ h

theorem execHoldTimerExpiry (i : SlotIx) {s t : State} (hstep : execHoldTimerExpiry i s = .next t) (hP : P s) : Q t := by
  unfold Machine.execHoldTimerExpiry at hstep
  refine law.event (fun s h => ?_) hstep hP
  split
  · exact law.count _ s i (ClaimLaw.counted_mapReasons _) h
  · exact law.weak _ h

theorem execCrankRecoveryEnd {s t : State} (hstep : execCrankRecoveryEnd s = .next t) (hP : P s) : Q t := by
  unfold Machine.execCrankRecoveryEnd at hstep
  refine law.event (fun s h => ?_) hstep hP
  split
  · exact law.recovery s h
  · exact law.weak _ h

theorem execHostHoldEnd {s t : State} (hstep : execHostHoldEnd s = .next t) (hP : P s) : Q t := by
  unfold Machine.execHostHoldEnd at hstep
  refine law.event (fun s h => ?_) hstep hP
  split
  · exact law.hostHold s h
  · exact law.weak _ h

theorem execClaimExpiry (i : SlotIx) {s t : State} (hstep : execClaimExpiry i s = .next t) (hP : P s) : Q t := by
  unfold Machine.execClaimExpiry at hstep
  refine law.event (fun s h => ?_) hstep hP
  split
  · next hruns => exact law.expiry s i hruns.1 h
  · exact law.weak _ h

theorem execReset (cause : ResetCause) {s t : State} (hstep : execReset cause s = .next t) (hP : P s) : Q t := by
  unfold Machine.execReset at hstep
  injection hstep with hstep
  subst hstep
  split
  · exact law.weak _ hP
  · exact law.reset cause s hP

theorem execLoadingComplete (read : StoreRead) {s t : State} (hstep : execLoadingComplete read s = .next t) (hP : P s) :
    Q t := by
  unfold Machine.execLoadingComplete at hstep
  refine law.event (fun s h => ?_) hstep hP
  dsimp only
  split
  · next hmode =>
    simp only [enterRun_pins]
    have hpins (found : Option Configuration) (s : State) : (loadConfiguration found s).pins = s.pins := by
      simp [loadConfiguration, takeConfiguration]
    rw [hpins]
    cases read with
    | noAck => exact law.loading s s.store none hmode (.inl rfl) h
    | held => exact law.loading s s.store _ hmode (.inr rfl) h
    | given bytes => exact law.loading s bytes _ hmode (.inr rfl) h
  · exact law.weak _ h

theorem execStoreSaveComplete {s t : State} (hstep : execStoreSaveComplete s = .next t) (hP : P s) : Q t := by
  unfold Machine.execStoreSaveComplete at hstep
  refine law.event (fun s h => ?_) hstep hP
  split
  · next hop => exact law.saved s _ hop h
  · exact law.weak _ h
  · exact law.weak _ h

theorem execStoreSaveFail {s t : State} (hstep : execStoreSaveFail s = .next t) (hP : P s) : Q t := by
  unfold Machine.execStoreSaveFail at hstep
  refine law.event (fun s h => ?_) hstep hP
  split
  · next hop => exact law.saveFailed s hop h
  · exact law.weak _ h

theorem execStoreLoadComplete (read : StoreRead) {s t : State} (hstep : execStoreLoadComplete read s = .next t)
    (hP : P s) : Q t := by
  unfold Machine.execStoreLoadComplete at hstep
  refine law.event (fun s h => ?_) hstep hP
  dsimp only
  split
  · next hop =>
    split
    · next c hfound =>
      cases read with
      | noAck => contradiction
      | held => exact law.loaded s s.store c hop hfound h
      | given bytes => exact law.loaded s bytes c hop hfound h
    · exact law.loadFailed s _ hop h
  · exact law.weak _ h

theorem execSleepEntry {s t : State} (hstep : execSleepEntry s = .next t) (hP : P s) : Q t := by
  unfold Machine.execSleepEntry at hstep
  refine law.event (fun s h => ?_) hstep hP
  split
  · next hdoze => exact law.sleepEntry s (Bool.and_eq_true_iff.mp hdoze).1 h
  · exact law.weak _ h

theorem execLeaveReset {s t : State} (hstep : execLeaveReset s = .next t) (hP : P s) : Q t := by
  unfold Machine.execLeaveReset at hstep
  injection hstep with hstep
  subst hstep
  split
  · next hheld => exact law.leaveReset s hheld hP
  · exact law.weak _ hP

theorem exec {c : Instr} {s t : State} (hstep : exec c s = .next t) (h : P s) : Q t := by
  by_cases hout : movesOutputs c = true
  · exact law.outputs c s t hout hstep h
  cases c <;> first | exact absurd rfl hout | skip
  case claimRaise p => exact law.serve law.claimRaise hstep h
  case claimAlter p => exact law.serve law.claimAlter hstep h
  case claimRetire p => exact law.serve law.claimRetire hstep h
  case claimLookup p => exact law.serve (law.read _ _ (by decide) claimLookup_state) hstep h
  case claimScan p => exact law.serve (law.read _ _ (by decide) claimScan_state) hstep h
  case supplyRead p => exact law.serve (law.read _ _ (by decide) (readAll_state _)) hstep h
  case holdSet p => exact law.serve law.holdSet hstep h
  case circuitRead p => exact law.serve (law.read _ _ (by decide) circuitRead_state) hstep h
  case circuitWrite p => exact law.serve law.circuitWrite hstep h
  case flasherRead p => exact law.serve (law.read _ _ (by decide) (readAll_state _)) hstep h
  case flasherSet p => exact law.serve law.flasherSet hstep h
  case channelRead p => exact law.serve law.channelRead hstep h
  case channelRestore p => exact law.serve law.channelRestore hstep h
  case profileRead p => exact law.serve (law.read _ _ (by decide) profileRead_state) hstep h
  case profileWrite p => exact law.serve law.profileWrite hstep h
  case groupRead p => exact law.serve (law.read _ _ (by decide) groupRead_state) hstep h
  case groupWrite p => exact law.serve law.groupWrite hstep h
  case bindRead p => exact law.serve (law.read _ _ (by decide) bindRead_state) hstep h
  case bindWrite p => exact law.execBindWrite p hstep h
  case gaugeRead p => exact law.serve (law.read _ _ (by decide) gaugeRead_state) hstep h
  case gaugeSet p => exact law.serve law.gaugeSet hstep h
  case statusRead p => exact law.serve (law.read _ _ (by decide) (readAll_state _)) (exec_statusRead p s ▸ hstep) h
  case statusClear p => exact law.serve law.statusClear hstep h
  case enableRead p => exact law.serve (law.read _ _ (by decide) (readAll_state _)) (exec_enableRead p s ▸ hstep) h
  case enableSet p => exact law.serve law.enableSet (exec_enableSet p s ▸ hstep) h
  case enableClear p => exact law.serve law.enableClear (exec_enableClear p s ▸ hstep) h
  case pendingRead p => exact law.serve (law.read _ _ (by decide) (readAll_state _)) (exec_pendingRead p s ▸ hstep) h
  case deviceRead p => exact law.serve (law.read _ _ (by decide) (readAll_state _)) hstep h
  case quiesce p => exact law.serve law.quiesce hstep h
  case resume p => exact law.serve law.resume hstep h
  case storeSave p => exact law.serve law.storeSave hstep h
  case storeLoad p => exact law.serve law.storeLoad hstep h
  case requestFrame bytes => exact law.event (f := takeFrame bytes) (fun s h => law.weak _ (law.frame bytes s h)) hstep h
  case fetchFrame n => exact law.event (f := takeFetch n) (law.fetch n) hstep h
  case switchScan levels => exact law.execSwitchScan levels hstep h
  case passStep => exact law.execPassStep hstep h
  case budgetEvaluation => exact law.execBudgetEvaluation hstep h
  case settlePartExpiry slot => exact law.execSettlePartExpiry slot hstep h
  case holdTimerExpiry slot => exact law.execHoldTimerExpiry slot hstep h
  case crankRecoveryEnd => exact law.execCrankRecoveryEnd hstep h
  case hostHoldEnd => exact law.execHostHoldEnd hstep h
  case claimExpiry slot => exact law.execClaimExpiry slot hstep h
  case reset cause => exact law.execReset cause hstep h
  case loadingComplete read => exact law.execLoadingComplete read hstep h
  case storeSaveComplete => exact law.execStoreSaveComplete hstep h
  case storeSaveFail => exact law.execStoreSaveFail hstep h
  case storeLoadComplete read => exact law.execStoreLoadComplete read hstep h
  case sleepEntry => exact law.execSleepEntry hstep h
  case leaveReset => exact law.execLeaveReset hstep h

/-- What every effect, and the passing of a millisecond, brings about is brought about by every step. -/
theorem of_step (tick : ∀ s, s.pending = [] → P s → Q (tick s)) {s t : State} (hstep : step s = .next t) (h : P s) :
    Q t := by
  obtain ⟨hpending, rfl⟩ | ⟨c, rest, -, hexec⟩ := step_cases hstep
  · exact tick s hpending h
  · exact law.exec hexec (law.pop s rest h)

end Effects

/-- A body whose effect and whose answer keep a property. -/
theorem ServeKeeps.of_body {P : State → Prop} {r : Req} {body : List Byte → State → State × Reply}
    (ha : ∀ reply, Keeps P (answer reply)) (hb : ∀ p s, P s → P (body p s).1) : ServeKeeps P r body :=
  fun p s _ h => ha _ _ (hb p s h)

/-! ### What a request can do

One lemma for each request that changes the state: it is refused, which changes nothing, or it does what its rule says. -/

theorem raiseOnLink_cases (r : Raise) (s : State) : (raiseOnLink r s).1 = s
    ∨ ∃ i, (raiseOnLink r s).1 = withHandOver (raiseInto i r) s := by
  unfold raiseOnLink
  split
  · exact .inl rfl
  · split
    · exact .inl rfl
    · split
      · exact .inl rfl
      · dsimp only
        exact .inr ⟨_, rfl⟩

theorem claimRaise_cases (p : List Byte) (s : State) : (claimRaise p s).1 = s
    ∨ s.mdc.mode = .run ∧ ∃ i r, (claimRaise p s).1 = withHandOver (raiseInto i r) s := by
  unfold claimRaise
  split
  · exact .inl rfl
  · next hmode =>
    split
    · split
      · split
        · exact (raiseOnLink_cases _ s).imp_right fun ⟨i, h⟩ => ⟨by simpa using hmode, i, _, h⟩
        · exact .inl rfl
      · exact .inl rfl
    · exact .inl rfl

theorem claimAlter_cases (p : List Byte) (s : State) : (claimAlter p s).1 = s
    ∨ s.mdc.mode = .run ∧ ∃ i c a, claimAt s i = some c ∧ (claimAlter p s).1 = withHandOver (alter i c a) s := by
  unfold claimAlter
  split
  · exact .inl rfl
  · next hmode =>
    split
    · next changes _ _ _ _ mode =>
      generalize (if changes.getLsbD 3 then ClaimMode.ofCode mode else none) = newMode
      dsimp only
      split
      · exact .inl rfl
      · split
        · exact .inl rfl
        · next i c hown =>
            dsimp only
            exact .inr ⟨by simpa using hmode, i, c, _, (ClaimLaw.ownedClaim_ok hown).1, rfl⟩
    · exact .inl rfl

theorem claimRetire_cases (p : List Byte) (s : State) : (claimRetire p s).1 = s
    ∨ ∃ i c, claimAt s i = some c ∧ c.origin = .link
        ∧ (claimRetire p s).1 = beginRequested (withHandOver (retire i) s) := by
  unfold claimRetire
  split
  · split
    · exact .inl rfl
    · next i c hown =>
      obtain ⟨hc, ho⟩ := ClaimLaw.ownedClaim_ok hown
      dsimp only
      exact .inr ⟨i, c, hc, ho, rfl⟩
  · exact .inl rfl

theorem holdSet_cases (p : List Byte) (s : State) : (holdSet p s).1 = s
    ∨ s.mdc.mode = .run ∧ ((holdSet p s).1 = endHostHold s
        ∨ ∃ h, (holdSet p s).1 = withHandOver (fun s => (placeHostHold h s).1) s) := by
  unfold holdSet
  split
  · exact .inl rfl
  · next hmode =>
    have hmode : s.mdc.mode = .run := by simpa using hmode
    split
    · split
      · exact .inl rfl
      · dsimp only
        split
        · dsimp only
          exact .inr ⟨hmode, .inl rfl⟩
        · dsimp only
          exact .inr ⟨hmode, .inr ⟨_, rfl⟩⟩
    · exact .inl rfl

theorem circuitWrite_cases (p : List Byte) (s : State) : (circuitWrite p s).1 = s
    ∨ s.mdc.mode = .quiesced ∧ ∃ c e, e.sound = true
        ∧ (circuitWrite p s).1 = { s with crs := { s.crs with pendingEntry := put s.crs.pendingEntry c (some e) } } := by
  unfold circuitWrite
  split
  · exact .inl rfl
  · next hmode =>
    split
    · exact .inl rfl
    · split
      · split
        · exact .inl rfl
        · split
          · split
            · exact .inl rfl
            · exact .inl rfl
            · next hj =>
              split
              · exact .inl rfl
              · dsimp only
                exact .inr ⟨by simpa using hmode, _, _, ClaimLaw.judgeCircuit_sound hj, rfl⟩
          · exact .inl rfl
      · exact .inl rfl

theorem flasherSet_cases (p : List Byte) (s : State) : (flasherSet p s).1 = s
    ∨ ∃ rate ticker, Takes (judgeFlasher p) (rate, ticker)
        ∧ (flasherSet p s).1 = { s with fls := { s.fls with rateSet := rate, ticker := ticker } } := by
  unfold flasherSet
  split
  · exact .inl rfl
  · split
    · exact .inl rfl
    · next hj =>
        dsimp only
        exact .inr ⟨_, _, ⟨_, hj⟩, rfl⟩

theorem profileWrite_cases (p : List Byte) (s : State) : (profileWrite p s).1 = s
    ∨ s.mdc.mode = .quiesced ∧ ∃ ch bytes q, Takes (judgeProfile ch bytes) q
        ∧ (profileWrite p s).1 = { s with chd := upd s.chd ch (Channel.takeProfile q) } := by
  unfold profileWrite
  split
  · exact .inl rfl
  · next hmode =>
    split
    · exact .inl rfl
    · split
      · split
        · exact .inl rfl
        · split
          · exact .inl rfl
          · split
            · exact .inl rfl
            · next hj =>
                dsimp only
                exact .inr ⟨by simpa using hmode, _, _, _, ⟨_, hj⟩, rfl⟩
      · exact .inl rfl

theorem groupWrite_cases (p : List Byte) (s : State) : (groupWrite p s).1 = s
    ∨ s.mdc.mode = .quiesced ∧ ∃ g bytes d, Takes (judgeGroup bytes) d ∧ (groupWrite p s).1 = defineGroup g d s := by
  unfold groupWrite
  split
  · exact .inl rfl
  · next hmode =>
    split
    · exact .inl rfl
    · split
      · split
        · exact .inl rfl
        · split
          · split
            · exact .inl rfl
            · next hj =>
                dsimp only
                exact .inr ⟨by simpa using hmode, _, _, _, ⟨_, hj⟩, rfl⟩
          · exact .inl rfl
      · exact .inl rfl

theorem gaugeSet_cases (p : List Byte) (s : State) : (gaugeSet p s).1 = s
    ∨ s.mdc.mode = .run ∧ ∃ g points k vstab settings, Takes (judgeGauge points k vstab) settings
        ∧ (gaugeSet p s).1 = { s with gau := upd s.gau g fun x => { x with settings := settings } } := by
  unfold gaugeSet
  split
  · exact .inl rfl
  · next hmode =>
    split
    · exact .inl rfl
    · split
      · split
        · exact .inl rfl
        · split
          · split
            · dsimp only
              split
              · exact .inl rfl
              · next hj =>
                  dsimp only
                  exact .inr ⟨by simpa using hmode, _, _, _, _, _, ⟨_, hj⟩, rfl⟩
            · exact .inl rfl
          · exact .inl rfl
      · exact .inl rfl

theorem bindWrite_cases (p : List Byte) (s : State) : (bindWrite p s).1 = s
    ∨ ∃ b bytes e, Takes (judgeBind bytes) e ∧ (bindWrite p s).1 = replaceBinding b e s := by
  unfold bindWrite
  split
  · exact .inl rfl
  · split
    · split
      · exact .inl rfl
      · split
        · dsimp only
          split
          · exact .inl rfl
          · next hj =>
              dsimp only
              exact .inr ⟨_, _, _, ⟨_, hj⟩, rfl⟩
        · exact .inl rfl
    · exact .inl rfl

theorem quiesce_cases (p : List Byte) (s : State) : (quiesce p s).1 = s
    ∨ s.mdc.mode = .run ∧ saving s = false ∧ ignitionOn s = false ∧ (quiesce p s).1 = leaveRun .quiesced s := by
  unfold quiesce
  split
  · exact .inl rfl
  · next hmode =>
    split
    · exact .inl rfl
    · next hsaving =>
      split
      · exact .inl rfl
      · split
        · exact .inl rfl
        · next hign =>
            dsimp only
            exact .inr ⟨by simpa using hmode, by simpa using hsaving, by simpa using hign, rfl⟩

theorem resume_cases (p : List Byte) (s : State) : (resume p s).1 = s
    ∨ s.mdc.mode = .quiesced ∧ s.mdc.op ≠ .load ∧ (resume p s).1 = (resumeRun s).1 := by
  unfold resume
  split
  · exact .inl rfl
  · next hmode =>
    split
    · exact .inl rfl
    · next hop =>
      split
      · exact .inl rfl
      · dsimp only
        exact .inr ⟨by simpa using hmode, hop, rfl⟩

theorem storeSave_cases (p : List Byte) (s : State) : (storeSave p s).1 = s
    ∨ ∃ image store, (storeSave p s).1 = { s with mdc := { s.mdc with op := .save image }, store := store } := by
  unfold storeSave
  split
  · exact .inl rfl
  · split
    · exact .inl rfl
    · dsimp only
      exact .inr ⟨_, _, rfl⟩

theorem storeLoad_cases (p : List Byte) (s : State) : (storeLoad p s).1 = s
    ∨ s.mdc.mode = .quiesced ∧ (storeLoad p s).1 = { s with mdc := { s.mdc with op := .load } } := by
  unfold storeLoad
  split
  · exact .inl rfl
  · next hmode =>
    split
    · exact .inl rfl
    · split
      · exact .inl rfl
      · dsimp only
        exact .inr ⟨by simpa using hmode, rfl⟩

/-! ### A valid image taken by a load -/

/-- The image's records taken, and every circuit pending (R66, R186): the part of a load after the binding claims are
retired. -/
def takenImage (c : Configuration) (s : State) : State :=
  let s := requestPass (takeConfiguration c s)
  let s := { s with crs := { s.crs with pendingEntry := mapTbl some c.circuits } }
  { s with mdc := { s.mdc with source := .stored } }

theorem loadImage_eq (c : Configuration) (s : State) : loadImage c s = endOperation .storeDone
    (takenImage c (withHandOver (fun s => (bindingSlots s).foldl (fun s i => retire i s) s) s)) := by
  unfold loadImage takenImage
  rfl

end Sys2Proof.Machine

/-! PROOFS. The records that a judgement accepts (R51, R68, R83, R112, R117, R136), the configuration through a step, and
the statement O58. -/

namespace Sys2Proof.Machine

/-! ### What a judgement accepts is within its bounds -/

theorem judgeTellSource_bounds {src arg : Byte} {th : Nat} {source : TellSource} {clamped : Bool}
    (h : judgeTellSource src arg th = some (source, clamped)) :
    ∀ g t, source = .gaugeHigh g t → 1 ≤ t ∧ t ≤ 1000 := by
  rintro g t rfl
  unfold judgeTellSource at h
  repeat' split at h
  all_goals simp only [Option.some.injEq, Prod.mk.injEq, reduceCtorEq, TellSource.gaugeHigh.injEq, false_and] at h
  obtain ⟨⟨-, rfl⟩, -⟩ := h
  exact ⟨le_clampNat .., clampNat_le (by omega) _⟩

/-- The common bounds of a profile (R83). -/
theorem profileCurrentsFit_iff (ch : Chan) (nominal trip openLoad : Nat) :
    profileCurrentsFit ch nominal trip openLoad = true
      ↔ nominal ≤ Config.rating ch ∧ 10 ≤ trip ∧ trip ≤ Config.rating ch ∧ openLoad ≤ trip := by
  simp [profileCurrentsFit, and_assoc]

theorem Profile.sound_of_fit {ch : Chan} {p : Profile} (hfit : profileCurrentsFit ch p.nominal p.trip p.openLoad = true)
    (hkind : match p.kind with
      | .unused | .led => p.inrush = 0 ∧ p.minDuty = 0 ∧ p.stall = 0 ∧ p.source = none
      | .filament => p.inrush ≤ 250 ∧ p.minDuty = 0 ∧ p.stall = 0 ∧ p.source = none
      | .motor => 16 ≤ ch.val ∧ p.inrush = 0 ∧ p.minDuty ≤ 900 ∧ p.stall ≤ Config.rating ch ∧ p.source = none
      | .telltale => p.inrush = 0 ∧ p.minDuty = 0 ∧ p.stall = 0 ∧ ∃ src, p.source = some src
          ∧ ∀ g t, src = .gaugeHigh g t → 1 ≤ t ∧ t ≤ 1000) : p.sound ch = true := by
  obtain ⟨hn, h10, ht, ho⟩ := (profileCurrentsFit_iff ..).mp hfit
  unfold Profile.sound
  simp only [hn, h10, ht, ho, decide_true, Bool.true_and]
  cases hk : p.kind with
  | unused | led | filament | motor => simp_all
  | telltale =>
    simp only [hk] at hkind
    obtain ⟨hi, hm, hs, src, hsrc, hbounds⟩ := hkind
    simp only [hi, hm, hs, hsrc]
    cases src with
    | gaugeHigh g t => simpa using hbounds g t rfl
    | circuit c | flash | charge | openLoad => rfl

theorem judgeProfile_sound {ch : Chan} {bytes : List Byte} {p : Profile} (h : Takes (judgeProfile ch bytes) p) :
    p.sound ch = true := by
  obtain ⟨clamped, h⟩ := h
  unfold judgeProfile at h
  split at h
  · split at h
    · contradiction
    · dsimp only at h
      split at h
      · split at h
        · next hfit =>
          injection h with h
          injection h with h
          subst h
          exact Profile.sound_of_fit hfit ⟨rfl, rfl, rfl, rfl⟩
        · contradiction
      split at h
      · split at h
        · next hfit =>
          injection h with h
          injection h with h
          subst h
          exact Profile.sound_of_fit hfit ⟨Nat.min_le_right .., rfl, rfl, rfl⟩
        · contradiction
      split at h
      · split at h
        · next hfit =>
          injection h with h
          injection h with h
          subst h
          exact Profile.sound_of_fit hfit ⟨rfl, rfl, rfl, rfl⟩
        · contradiction
      split at h
      · split at h
        · next hfit =>
          obtain ⟨hch, hfit, hstall⟩ := hfit
          injection h with h
          injection h with h
          subst h
          exact Profile.sound_of_fit hfit ⟨hch, rfl, Nat.min_le_right .., hstall, rfl⟩
        · contradiction
      split at h
      · split at h
        · contradiction
        · next hsrc =>
          split at h
          · next hfit =>
            injection h with h
            injection h with h
            subst h
            exact Profile.sound_of_fit hfit ⟨rfl, rfl, rfl, _, rfl, judgeTellSource_bounds hsrc⟩
          · contradiction
      · contradiction
  · contradiction

theorem GroupDef.sound_iff (d : GroupDef) : d.sound = true ↔
    d.first ≤ 23 ∧ 1 ≤ d.width ∧ d.width ≤ 4 ∧ d.first + d.width ≤ 24 ∧ 2 ≤ d.debounce ∧ d.debounce ≤ 16 := by
  simp [GroupDef.sound, and_assoc]

theorem judgeGroup_sound {bytes : List Byte} {d : GroupDef} (h : Takes (judgeGroup bytes) d) : d.sound = true := by
  obtain ⟨clamped, h⟩ := h
  unfold judgeGroup at h
  split at h
  · next f w p n =>
    split at h
    · contradiction
    · split at h
      · contradiction
      · split at h
        · contradiction
        · next hf _ hw =>
          injection h with h
          injection h with h
          subst h
          have hw0 : w.toNat ≠ 0 := fun h0 => hw (.inl (BitVec.eq_of_toNat_eq h0))
          simp only [not_or, not_lt] at hf hw
          refine (GroupDef.sound_iff _).mpr ⟨?_, ?_, ?_, ?_, le_clampNat .., clampNat_le (by omega) _⟩ <;> dsimp only <;> omega
  · contradiction

theorem Action.sound_iff (a : Action) : a.sound = true ↔
    1 ≤ a.level ∧ a.level ≤ 15 ∧ (∀ f, a.floor = some f → 1 ≤ f ∧ f ≤ a.level) ∧ (∀ x, a.share = some x → x ≤ 250)
      ∧ a.offDelay ≤ 14400 := by
  cases hf : a.floor <;> cases hs : a.share <;> simp [Action.sound, hf, hs, and_assoc]

theorem judgeAction_sound (circuit : Circ) (mode : ClaimMode) (cls : ClaimClass) (level floor : Nat)
    (share : Option Nat) (offDelay : Nat) : (judgeAction circuit mode cls level floor share offDelay).1.sound = true := by
  have hlow : 1 ≤ clampNat 1 15 level := le_clampNat ..
  have hhigh : clampNat 1 15 level ≤ 15 := clampNat_le (by omega) _
  refine (Action.sound_iff _).mpr ⟨hlow, hhigh, fun f hf => ?_, fun x hx => ?_, Nat.min_le_right ..⟩
  · simp only [judgeAction] at hf ⊢
    split at hf
    · contradiction
    · injection hf with hf
      omega
  · obtain ⟨y, -, rfl⟩ := Option.map_eq_some_iff.mp hx
    exact Nat.min_le_right ..

theorem judgeTest_map {α : Type} {g m o v : Byte} {f : Test → α} {x : α}
    (h : (judgeTest g m o v).map f = .ok x) : ∃ t, x = f t := by
  cases ht : judgeTest g m o v with
  | error e => rw [ht] at h; contradiction
  | ok t =>
    rw [ht] at h
    injection h with h
    exact ⟨t, h.symm⟩

theorem judgeBind_sound {bytes : List Byte} {e : BindEntry} (h : Takes (judgeBind bytes) e) : e.sound = true := by
  obtain ⟨clamped, h⟩ := h
  unfold judgeBind at h
  split at h
  · split at h
    · injection h with h
      injection h with h
      subst h
      rfl
    split at h
    · injection h with h
      injection h with h
      subst h
      rfl
    split at h
    · obtain ⟨t, ht⟩ := judgeTest_map h
      injection ht with he
      subst he
      rfl
    split at h
    · dsimp only at h
      split at h
      · split at h
        · split at h
          · contradiction
          · injection h with h
            injection h with h
            subst h
            exact judgeAction_sound ..
          · contradiction
        · contradiction
      · obtain ⟨t, ht⟩ := judgeTest_map h
        injection ht with he
        subst he
        rfl
    · contradiction
  · contradiction

theorem judgeGauge_sound {points : List (Nat × Nat)} {k vstab : Nat} {g : GaugeSettings}
    (h : Takes (judgeGauge points k vstab) g) : g.sound = true := by
  obtain ⟨clamped, h⟩ := h
  unfold judgeGauge at h
  split at h
  · contradiction
  · next hlen =>
    split at h
    · contradiction
    · next hpoints =>
      injection h with h
      injection h with h
      subst h
      simp only [not_or, not_lt, not_not] at hlen hpoints
      obtain ⟨hbound, hincr⟩ := hpoints
      have hmap : (points.map fun p => (p.1, min p.2 1000)).map (·.1) = points.map (·.1) := by
        simp [List.map_map, Function.comp_def]
      simp only [GaugeSettings.sound, hmap, hincr, List.length_map, Bool.and_eq_true, decide_eq_true_eq, le_clampNat,
        clampNat_le (show 1 ≤ 256 by omega), clampNat_le (show 800 ≤ 1200 by omega), and_true]
      refine ⟨⟨hlen.1, hlen.2⟩, ?_⟩
      simp only [List.any_eq_true, decide_eq_true_eq, not_exists, not_and, not_lt] at hbound
      simp only [List.all_map, List.all_eq_true, Function.comp_apply, Bool.and_eq_true, decide_eq_true_eq]
      exact fun p hp => ⟨hbound p hp, Nat.min_le_right ..⟩

theorem judgeGaugeRecord_sound {bytes : List Byte} {g : GaugeSettings} (h : Takes (judgeGaugeRecord bytes) g) :
    g.sound = true := by
  obtain ⟨clamped, h⟩ := h
  unfold judgeGaugeRecord at h
  split at h
  · split at h
    · split at h
      · contradiction
      · exact judgeGauge_sound ⟨clamped, h⟩
    · contradiction
  · contradiction

theorem judgeFlasher_bounds {bytes : List Byte} {rate : Nat} {ticker : Bool}
    (h : Takes (judgeFlasher bytes) (rate, ticker)) : 60 ≤ rate ∧ rate ≤ 120 := by
  obtain ⟨clamped, h⟩ := h
  unfold judgeFlasher at h
  split at h
  · split at h
    · contradiction
    · injection h with h
      injection h with h
      injection h with h
      subst h
      exact ⟨le_clampNat .., clampNat_le (by omega) _⟩
  · contradiction

/-- A configuration judged from an image is within its bounds (R181). -/
theorem Judges.sound {bytes : List Byte} {c : Configuration} (h : Judges bytes c) : c.Sound :=
  ⟨fun ch => judgeProfile_sound (h.profiles ch), fun i => judgeCircuitRecord_sound (h.circuits i),
    fun i => judgeGroup_sound (h.groups i), fun b => judgeBind_sound (h.bindings b),
    fun g => judgeGaugeRecord_sound (h.gauges g), judgeFlasher_bounds h.flasher⟩

theorem defaultProfile_sound (ch : Chan) : (defaultProfile ch).sound ch = true := by
  unfold defaultProfile
  split <;> next hch => simp [Profile.sound, Config.rating, hch]

theorem defaultBinding_sound (b : BindIx) : (defaultBinding b).sound = true := by
  unfold defaultBinding
  split
  · rfl
  · rfl

theorem defaultGroup_sound (i : Fin 16) : (defaultGroup i).sound = true := by
  have := i.isLt
  refine (GroupDef.sound_iff _).mpr ⟨?_, ?_, ?_, ?_, ?_, ?_⟩ <;> simp only [defaultGroup] <;> omega

theorem defaultConfiguration_sound : defaultConfiguration.Sound := by
  refine ⟨fun ch => ?_, defaultConfiguration_circuits, fun i => ?_, fun b => ?_, fun g => ?_, by decide, by decide⟩
  · simp [defaultConfiguration, defaultProfile_sound]
  · simp [defaultConfiguration, defaultGroup_sound]
  · simp [defaultConfiguration, defaultBinding_sound]
  · simp only [defaultConfiguration, tabulate_get]
    decide

/-! ### The configuration of a state -/

/-- Two states with the same configuration, in force and pending. -/
structure SameConfig (s t : State) : Prop where
  profile : ∀ ch, (t.chd.get ch).profile = (s.chd.get ch).profile
  inForce : t.crs.inForce = s.crs.inForce
  pendingEntry : t.crs.pendingEntry = s.crs.pendingEntry
  defs : t.sws.defs = s.sws.defs
  entries : t.bde.entries = s.bde.entries
  settings : ∀ g, (t.gau.get g).settings = (s.gau.get g).settings
  rateSet : t.fls.rateSet = s.fls.rateSet

theorem SameConfig.refl (s : State) : SameConfig s s := ⟨fun _ => rfl, rfl, rfl, rfl, rfl, fun _ => rfl, rfl⟩

theorem SameConfig.trans {s t u : State} (h : SameConfig s t) (h' : SameConfig t u) : SameConfig s u :=
  ⟨fun ch => (h'.profile ch).trans (h.profile ch), h'.inForce.trans h.inForce, h'.pendingEntry.trans h.pendingEntry,
    h'.defs.trans h.defs, h'.entries.trans h.entries, fun g => (h'.settings g).trans (h.settings g),
    h'.rateSet.trans h.rateSet⟩

theorem Aside.sameConfig {s t : State} (h : Aside s t) : SameConfig s t :=
  ⟨h.profile, h.inForce, h.pendingEntry, by rw [h.sws], by rw [h.bde], h.settings, h.rateSet⟩

theorem ClaimsMove.sameConfig {s t : State} (h : ClaimsMove s t) : SameConfig s t :=
  ⟨fun ch => by rw [h.chd], by rw [h.crs], by rw [h.crs], by rw [h.sws], h.entries, fun g => by rw [h.gau],
    by rw [h.fls]⟩

/-- Every record of the configuration, in force and pending, is within its bounds. -/
structure ConfigFits (s : State) : Prop where
  profiles : ∀ ch, (s.chd.get ch).profile.sound ch = true
  inForce : ∀ c, (s.crs.inForce.get c).sound = true
  pending : ∀ c e, s.crs.pendingEntry.get c = some e → e.sound = true
  groups : ∀ i, (s.sws.defs.get i).sound = true
  bindings : ∀ b, (s.bde.entries.get b).sound = true
  gauges : ∀ g, (s.gau.get g).settings.sound = true
  rate : 60 ≤ s.fls.rateSet ∧ s.fls.rateSet ≤ 120

theorem configurationSound_iff (s : State) : ConfigurationSound s ↔ ConfigFits s := by
  constructor
  · rintro ⟨⟨hp, hc, hg, hb, hga, hr⟩, hin⟩
    refine ⟨fun ch => by simpa [currentConfiguration] using hp ch, hin, fun c e he => ?_, hg, hb,
      fun g => by simpa [currentConfiguration] using hga g, hr⟩
    simpa [currentConfiguration, he] using hc c
  · rintro ⟨hp, hin, hpend, hg, hb, hga, hr⟩
    refine ⟨⟨fun ch => by simpa [currentConfiguration] using hp ch, fun c => ?_, hg, hb,
      fun g => by simpa [currentConfiguration] using hga g, hr⟩, hin⟩
    simp only [currentConfiguration, tabulate_get]
    cases he : s.crs.pendingEntry.get c with
    | none => exact hin c
    | some e => exact hpend c e he

namespace ConfigFits

variable {s t : State}

theorem same (h : ConfigFits s) (hsame : SameConfig s t) : ConfigFits t :=
  ⟨fun ch => by rw [hsame.profile]; exact h.profiles ch, fun c => by rw [hsame.inForce]; exact h.inForce c,
    fun c e he => h.pending c e (hsame.pendingEntry ▸ he), fun i => by rw [hsame.defs]; exact h.groups i,
    fun b => by rw [hsame.entries]; exact h.bindings b, fun g => by rw [hsame.settings]; exact h.gauges g,
    by rw [hsame.rateSet]; exact h.rate⟩

theorem aside (h : ConfigFits s) (ha : Aside s t) : ConfigFits t := h.same ha.sameConfig

theorem move (h : ConfigFits s) (hm : ClaimsMove s t) : ConfigFits t := h.same hm.sameConfig

theorem handed {f : State → State} (h : ConfigFits (f s)) : ConfigFits (withHandOver f s) :=
  h.aside (aside_withHandOver f s)

theorem beginRequested (h : ConfigFits s) : ConfigFits (beginRequested s) :=
  h.same ⟨by simp, by simp, by simp, by simp, by simp, by simp, by simp⟩

theorem requestPass (h : ConfigFits s) : ConfigFits (requestPass s) := h.same { SameConfig.refl s with }

theorem answer (h : ConfigFits s) (r : Reply) : ConfigFits (answer r s) := h.same { SameConfig.refl s with }

theorem beginCrank (h : ConfigFits s) : ConfigFits (beginCrank s) := by
  unfold Machine.beginCrank
  split
  · exact h
  · refine ConfigFits.move ?_ (move_setFlag ..)
    refine ConfigFits.handed ?_
    exact (h.same (t := { s with sbu := { s.sbu with crank := .cranking } }) { SameConfig.refl s with }).move
      (move_crankWalk _)

theorem enterRun (h : ConfigFits s) (b : Bool) : ConfigFits (enterRun b s) := by
  rw [enterRun_eq]
  have hsample (s : State) : SameConfig s (if b then entrySample s else s) := by
    split
    · exact { SameConfig.refl s with }
    · exact .refl s
  have hentered : ConfigFits (entered b s) :=
    ((h.same (t := { s with mdc := { s.mdc with mode := .run } }) { SameConfig.refl s with }).same (hsample _)).aside
      ((aside_restartGauges _).trans (aside_resolveAll _))
  refine ConfigFits.beginRequested ?_
  unfold crankCheck
  split
  · exact hentered.beginCrank
  · exact hentered

theorem wake (h : ConfigFits s) : ConfigFits (wake s) := (h.move (move_setFlag ..)).enterRun true

theorem refitted (h : ConfigFits s) : ConfigFits (refitted s) := by
  refine ConfigFits.move ?_ (move_refitted s)
  refine ⟨h.profiles, fun c => ?_, fun c e he => ?_, h.groups, h.bindings, h.gauges, h.rate⟩
  · rw [applyPending_inForce]
    cases he : s.crs.pendingEntry.get c with
    | none => exact h.inForce c
    | some e => exact h.pending c e he
  · simp [applyPending] at he

theorem resumeRun (h : ConfigFits s) : ConfigFits (resumeRun s).1 := by
  rw [resumeRun_eq]
  exact h.refitted.requestPass.enterRun false

theorem abandonPass (h : ConfigFits s) : ConfigFits (abandonPass s) := by
  unfold Machine.abandonPass
  split
  · exact h
  · refine ConfigFits.aside ?_ (aside_handOver ..)
    exact h.same { SameConfig.refl s with }

theorem leaveRun (h : ConfigFits s) (m : Mode) : ConfigFits (leaveRun m s) := by
  have hmode := (h.same (t := { s with mdc := { s.mdc with mode := m } }) { SameConfig.refl s with }).abandonPass
  have hstood := (hmode.aside (aside_syncFlasher _)).aside
    (Aside.foldl (fun s ch => aside_modifyChannel standDown_profile ch s) (List.finRange 20) _)
  exact hstood.aside (aside_setGau (by simp))

theorem takeFrame (h : ConfigFits s) (bytes : List Byte) : ConfigFits (takeFrame bytes s) := by
  cases bytes with
  | nil => exact h
  | cons b bs =>
    unfold Machine.takeFrame
    dsimp only
    split
    · exact h.same ⟨by simp, by simp, by simp, by simp, by simp, by simp, by simp⟩
    · unfold takeRequest
      dsimp only
      have hwoken : ConfigFits (if s.mdc.mode = .sleep then Machine.wake s else s) := by
        split
        · exact h.wake
        · exact h
      generalize (if s.mdc.mode = .sleep then Machine.wake s else s) = t at hwoken ⊢
      have hdealt : SameConfig t (dealFrame (b :: bs) t) := by
        unfold dealFrame
        split
        · exact (move_setFlag ..).sameConfig
        · exact (move_setFlag ..).sameConfig
        · split
          · exact { SameConfig.refl t with }
          · split <;> exact { SameConfig.refl t with }
      exact (hwoken.same hdealt).same { SameConfig.refl (dealFrame (b :: bs) t) with }

theorem replaceBinding (h : ConfigFits s) (b : BindIx) {e : BindEntry} (he : e.sound = true) :
    ConfigFits (replaceBinding b e s) := by
  have hput (s : State) (h : ConfigFits s) (recs : Vector BindRec 64) :
      ConfigFits { s with bde := { s.bde with entries := put s.bde.entries b e, recs := recs } } := by
    refine ⟨h.profiles, h.inForce, h.pending, h.groups, fun k => ?_, h.gauges, h.rate⟩
    simp only [put_get]
    split
    · exact he
    · exact h.bindings k
  unfold Machine.replaceBinding
  dsimp only
  refine ConfigFits.beginRequested (ConfigFits.requestPass (hput _ ?_ _))
  split
  · exact ConfigFits.handed (f := retire _) (h.move (move_retire ..))
  · exact h
  · exact h

theorem bindWrite (h : ConfigFits s) (p : List Byte) : ConfigFits (bindWrite p s).1 := by
  obtain heq | ⟨b, bytes, e, hj, heq⟩ := bindWrite_cases p s
  · rwa [heq]
  · rw [heq]
    exact h.replaceBinding b (judgeBind_sound hj)

theorem setPass (h : ConfigFits s) (p : Option Pass) : ConfigFits { s with bde := { s.bde with pass := p } } :=
  h.same { SameConfig.refl s with }

theorem serveWaiting (h : ConfigFits s) : ConfigFits (serveWaiting s) := by
  unfold Machine.serveWaiting
  split
  · exact h
  · have hcleared : ConfigFits { s with bde := { s.bde with waiting := none } } := h.same { SameConfig.refl s with }
    dsimp only
    split
    · exact (hcleared.bindWrite _).answer _
    · exact hcleared

theorem endPass (h : ConfigFits s) (p : Pass) : ConfigFits (endPass p s) :=
  ConfigFits.beginRequested (((h.setPass none).aside (aside_handOver ..)).serveWaiting)

theorem passStep (h : ConfigFits s) : ConfigFits (passStep s) := by
  unfold Machine.passStep
  split
  · exact h
  · next p hp =>
    have htaken := h.move (move_takeBinding p p.next s)
    dsimp only
    split
    · exact htaken.setPass _
    · exact htaken.endPass _

theorem abandonLoad (h : ConfigFits s) : ConfigFits (abandonLoad s) := by
  have hop : ConfigFits { s with mdc := { s.mdc with op := .none } } := h.same { SameConfig.refl s with }
  unfold Machine.abandonLoad
  split
  · exact hop.move (move_setFlag ..)
  · exact h

theorem handAcceptance (h : ConfigFits s) (g : GroupIx) : ConfigFits (handAcceptance s g) := by
  unfold Machine.handAcceptance
  dsimp only
  have hwoken : ConfigFits (if (restartTimer s).mdc.mode = .sleep then Machine.wake (restartTimer s)
      else restartTimer s) := by
    have := h.aside (aside_restartTimer s)
    split
    · exact this.wake
    · exact this
  generalize (if (restartTimer s).mdc.mode = .sleep then Machine.wake (restartTimer s) else restartTimer s) = t
    at hwoken ⊢
  have hresumed : ConfigFits (if g = ign ∧ ignitionOn t = true ∧ t.mdc.mode = .quiesced
      then (Machine.resumeRun (Machine.abandonLoad t)).1 else t) := by
    split
    · exact hwoken.abandonLoad.resumeRun
    · exact hwoken
  generalize (if g = ign ∧ ignitionOn t = true ∧ t.mdc.mode = .quiesced
      then (Machine.resumeRun (Machine.abandonLoad t)).1 else t) = u at hresumed ⊢
  split
  · unfold acceptIgnition
    split
    · split
      · exact hresumed.aside (aside_gaugesActive u)
      · exact hresumed.aside (aside_refreshDemands u)
    · exact hresumed.aside (aside_gaugesOff u)
  · split
    · unfold acceptStart
      split
      · split
        · exact hresumed.beginCrank
        · exact hresumed
      · exact hresumed.move (move_endCrank u)
    · exact hresumed

theorem scanInputs (h : ConfigFits s) (levels : BitVec 26) : ConfigFits (scanInputs levels s) := by
  unfold Machine.scanInputs
  dsimp only
  refine ConfigFits.beginRequested
    (Keeps.foldl (P := ConfigFits) (f := Machine.handAcceptance) (fun g s h => h.handAcceptance g) _ _ ?_)
  have hscanned (recs : Vector GroupRec 18) :
      ConfigFits { s with sws := { s.sws with recs := recs, levels := levels } } := h.same { SameConfig.refl s with }
  split
  · exact hscanned _
  · exact (hscanned _).requestPass

/-! ### The requests -/

theorem setOp (h : ConfigFits s) (o : StoreOp) : ConfigFits { s with mdc := { s.mdc with op := o } } :=
  h.same { SameConfig.refl s with }

theorem setStore (h : ConfigFits s) (bytes : List Byte) : ConfigFits { s with store := bytes } :=
  h.same { SameConfig.refl s with }

theorem endOperation (h : ConfigFits s) (f : Flag) : ConfigFits (endOperation f s) :=
  (h.setOp .none).move (move_setFlag ..)

theorem claimRaise (h : ConfigFits s) (p : List Byte) : ConfigFits (claimRaise p s).1 := by
  obtain heq | ⟨-, i, r, heq⟩ := claimRaise_cases p s
  · rwa [heq]
  · rw [heq]
    exact ConfigFits.handed (h.move (move_raiseInto i r s))

theorem claimAlter (h : ConfigFits s) (p : List Byte) : ConfigFits (claimAlter p s).1 := by
  obtain heq | ⟨-, i, c, a, -, heq⟩ := claimAlter_cases p s
  · rwa [heq]
  · rw [heq]
    exact ConfigFits.handed (h.move (move_alter i c a s))

theorem claimRetire (h : ConfigFits s) (p : List Byte) : ConfigFits (claimRetire p s).1 := by
  obtain heq | ⟨i, -, -, -, heq⟩ := claimRetire_cases p s
  · rwa [heq]
  · rw [heq]
    exact (ConfigFits.handed (f := retire i) (h.move (move_retire i s))).beginRequested

theorem holdSet (h : ConfigFits s) (p : List Byte) : ConfigFits (holdSet p s).1 := by
  obtain heq | ⟨-, heq | ⟨hold, heq⟩⟩ := holdSet_cases p s
  · rwa [heq]
  · rw [heq]
    exact h.move (move_endHostHold s)
  · rw [heq]
    exact ConfigFits.handed (f := fun s => (placeHostHold hold s).1) (h.move (move_placeHostHold hold s))

theorem circuitWrite (h : ConfigFits s) (p : List Byte) : ConfigFits (circuitWrite p s).1 := by
  obtain heq | ⟨-, c, e, he, heq⟩ := circuitWrite_cases p s
  · rwa [heq]
  · rw [heq]
    refine { h with pending := fun k e' he' => ?_ }
    simp only [put_get] at he'
    split at he'
    · injection he' with he'
      exact he' ▸ he
    · exact h.pending k e' he'

theorem flasherSet (h : ConfigFits s) (p : List Byte) : ConfigFits (flasherSet p s).1 := by
  obtain heq | ⟨rate, ticker, hj, heq⟩ := flasherSet_cases p s
  · rwa [heq]
  · rw [heq]
    exact { h with rate := judgeFlasher_bounds hj }

theorem profileWrite (h : ConfigFits s) (p : List Byte) : ConfigFits (profileWrite p s).1 := by
  obtain heq | ⟨-, ch, bytes, q, hj, heq⟩ := profileWrite_cases p s
  · rwa [heq]
  · rw [heq]
    refine { h with profiles := fun k => ?_ }
    simp only [upd_get]
    split
    · next hk => exact hk ▸ judgeProfile_sound hj
    · exact h.profiles k

theorem groupWrite (h : ConfigFits s) (p : List Byte) : ConfigFits (groupWrite p s).1 := by
  obtain heq | ⟨-, g, bytes, d, hj, heq⟩ := groupWrite_cases p s
  · rwa [heq]
  · rw [heq]
    refine { h with groups := fun i => ?_ }
    simp only [defineGroup, put_get]
    split
    · exact judgeGroup_sound hj
    · exact h.groups i

theorem gaugeSet (h : ConfigFits s) (p : List Byte) : ConfigFits (gaugeSet p s).1 := by
  obtain heq | ⟨-, g, points, k, vstab, settings, hj, heq⟩ := gaugeSet_cases p s
  · rwa [heq]
  · rw [heq]
    refine { h with gauges := fun x => ?_ }
    simp only [upd_get]
    split
    · exact judgeGauge_sound hj
    · exact h.gauges x

theorem quiesce (h : ConfigFits s) (p : List Byte) : ConfigFits (quiesce p s).1 := by
  obtain heq | ⟨-, -, -, heq⟩ := quiesce_cases p s
  · rwa [heq]
  · rw [heq]
    exact h.leaveRun .quiesced

theorem resume (h : ConfigFits s) (p : List Byte) : ConfigFits (resume p s).1 := by
  obtain heq | ⟨-, -, heq⟩ := resume_cases p s
  · rwa [heq]
  · rw [heq]
    exact h.resumeRun

theorem storeSave (h : ConfigFits s) (p : List Byte) : ConfigFits (storeSave p s).1 := by
  obtain heq | ⟨image, store, heq⟩ := storeSave_cases p s
  · rwa [heq]
  · rw [heq]
    exact h.same { SameConfig.refl s with }

theorem storeLoad (h : ConfigFits s) (p : List Byte) : ConfigFits (storeLoad p s).1 := by
  obtain heq | ⟨-, heq⟩ := storeLoad_cases p s
  · rwa [heq]
  · rw [heq]
    exact h.setOp .load

/-! ### The configuration replaced, and the reset -/

theorem takeConfiguration (h : ConfigFits s) {c : Configuration} (hc : c.Sound) : ConfigFits (takeConfiguration c s) := by
  obtain ⟨hp, -, hg, hb, hga, hr⟩ := hc
  exact ⟨fun ch => by simpa [Machine.takeConfiguration, Channel.takeProfile] using hp ch, h.inForce, h.pending, hg, hb,
    fun g => by simpa [Machine.takeConfiguration] using hga g, hr⟩

theorem takenImage (h : ConfigFits s) {c : Configuration} (hc : c.Sound) : ConfigFits (takenImage c s) := by
  have htaken := h.takeConfiguration hc
  refine ⟨htaken.profiles, h.inForce, fun k e he => ?_, htaken.groups, htaken.bindings, htaken.gauges, htaken.rate⟩
  have hentry : (Machine.takenImage c s).crs.pendingEntry = mapTbl some c.circuits := rfl
  simp only [hentry, mapTbl_get, Option.some.injEq] at he
  exact he ▸ hc.2.1 k

theorem loadImage (h : ConfigFits s) {c : Configuration} (hc : c.Sound) : ConfigFits (loadImage c s) := by
  rw [loadImage_eq]
  refine ConfigFits.endOperation (ConfigFits.takenImage ?_ hc) _
  exact ConfigFits.handed (f := fun s => (bindingSlots s).foldl (fun s i => retire i s) s) (h.move (move_foldl_retire ..))

theorem loadConfiguration (h : ConfigFits s) {found : Option Configuration} (hfound : ∀ c, found = some c → c.Sound) :
    ConfigFits (loadConfiguration found s) := by
  have hc : (found.getD defaultConfiguration).Sound := by
    cases found with
    | none => exact defaultConfiguration_sound
    | some c => exact hfound c rfl
  unfold Machine.loadConfiguration
  dsimp only
  refine ConfigFits.move ?_ (move_setFlagIf ..)
  exact { h.takeConfiguration hc with inForce := hc.2.1 }

theorem reset (cause : ResetCause) (s : State) : ConfigFits (resetState cause s) := by
  have hprofiles (ch : Chan) : ((resetState cause s).chd.get ch).profile = defaultProfile ch := by
    have : (resetState cause s).chd = tabulate fun ch => resetChannel (defaultProfile ch) := rfl
    simp [this, resetChannel]
  have hinForce : (resetState cause s).crs.inForce = tabulate defaultCircuit := rfl
  have hpending : (resetState cause s).crs.pendingEntry = tabulate fun _ => none := rfl
  have hdefs : (resetState cause s).sws.defs = tabulate defaultGroup := rfl
  have hentries : (resetState cause s).bde.entries = tabulate defaultBinding := rfl
  have hgauges (g : GaugeIx) : ((resetState cause s).gau.get g).settings = defaultGauge := by
    have : (resetState cause s).gau = tabulate fun _ => resetGauge defaultGauge := rfl
    simp [this, resetGauge]
  have hrate : (resetState cause s).fls.rateSet = 80 := rfl
  refine ⟨fun ch => ?_, fun c => ?_, fun c e he => ?_, fun i => ?_, fun b => ?_, fun g => ?_, ?_⟩
  · rw [hprofiles]
    exact defaultProfile_sound ch
  · rw [hinForce, tabulate_get]
    simpa [defaultConfiguration] using defaultConfiguration_circuits c
  · rw [hpending, tabulate_get] at he
    contradiction
  · rw [hdefs, tabulate_get]
    exact defaultGroup_sound i
  · rw [hentries, tabulate_get]
    exact defaultBinding_sound b
  · rw [hgauges]
    decide
  · rw [hrate]
    decide

theorem readImage_sound {bytes : List Byte} {c : Configuration} (h : readImage bytes = some c) : c.Sound :=
  (readImage_eq_some h).sound

/-! ### Every command -/

theorem tick (h : ConfigFits s) : ConfigFits (tick s) := by
  unfold Machine.tick
  split
  · exact h
  · exact h.same { SameConfig.refl s with profile := fun ch => by simp [Channel.tick] }

theorem cutSave (h : ConfigFits s) : ConfigFits (cutSave s) := by
  refine h.same ?_
  unfold Machine.cutSave
  split
  · exact { SameConfig.refl s with }
  · exact .refl s
  · exact .refl s

theorem dropReply (h : ConfigFits s) : ConfigFits (dropReply s) := h.same { SameConfig.refl s with }

theorem serves {r : Req} {body : List Byte → State → State × Reply}
    (hb : ∀ p s, ConfigFits s → ConfigFits (body p s).1) : ServeKeeps ConfigFits r body :=
  ServeKeeps.of_body (fun r _ h => h.answer r) hb

theorem effects : Effects ConfigFits ConfigFits where
  weak := fun _ h => h
  settle := fun s h => h.aside (aside_settleTimer s)
  pop := fun s _ h => h.same { SameConfig.refl s with }
  frame := fun bytes _ h => h.takeFrame bytes
  fetch := fun _ s h => h.same ⟨by simp, by simp, by simp, by simp, by simp, by simp, by simp⟩
  read := fun r body _ hbody => serves fun p s h => by rw [hbody]; exact h
  statusClear := serves fun p s h => h.aside (statusClear_aside p s).1
  enableSet := serves fun p s h => h.aside (enableChange_aside _ p s).1
  enableClear := serves fun p s h => h.aside (enableChange_aside _ p s).1
  channelRead := serves fun p s h => h.aside (channelRead_aside p s).1
  channelRestore := serves fun p s h => h.aside (channelRestore_aside p s).1
  claimRaise := serves fun p _ h => h.claimRaise p
  claimAlter := serves fun p _ h => h.claimAlter p
  claimRetire := serves fun p _ h => h.claimRetire p
  holdSet := serves fun p _ h => h.holdSet p
  circuitWrite := serves fun p _ h => h.circuitWrite p
  flasherSet := serves fun p _ h => h.flasherSet p
  profileWrite := serves fun p _ h => h.profileWrite p
  groupWrite := serves fun p _ h => h.groupWrite p
  bindWaits := fun _ s _ _ h => h.same { SameConfig.refl s with }
  bindWrite := fun p _ _ _ h => (h.bindWrite p).answer _
  gaugeSet := serves fun p _ h => h.gaugeSet p
  quiesce := serves fun p _ h => h.quiesce p
  resume := serves fun p _ h => h.resume p
  storeSave := serves fun p _ h => h.storeSave p
  storeLoad := serves fun p _ h => h.storeLoad p
  outputs := fun c s t hc hstep h => by
    obtain ⟨f, hf, hexec⟩ := exec_movesOutputs hc s
    exact act_keeps (fun s h => h.aside (aside_settleTimer s)) (fun s h => h.aside (hf s).1) (hexec ▸ hstep) h
  levels := fun s _ h => h.same { SameConfig.refl s with }
  scan := fun levels _ _ h => h.scanInputs levels
  passStep := fun _ _ h => h.passStep
  evaluation := fun s _ h => by
    have hmeasured := h.same (t := measureStage s) (ClaimLaw.aside_measureStage s).sameConfig
    have hstages := hmeasured.move (move_evaluationStages s)
    exact ((ConfigFits.handed (f := evaluationStages) hstages).aside (aside_refreshDemands _)).beginRequested
  count := fun f s i _ h => h.move (move_modifyClaim ..)
  recovery := fun s h => h.move (move_endRecovery s)
  hostHold := fun s h => h.move (move_endHostHold s)
  expiry := fun s i _ h => (ConfigFits.handed (f := fun s => setFlag .claimExpired (retire i s))
    (h.move ((move_retire i s).trans (move_setFlag ..)))).beginRequested
  reset := fun cause s _ => reset cause s
  loading := fun s bytes found _ hfound h => by
    refine ((ConfigFits.loadConfiguration (h.setStore bytes) ?_).enterRun true).scanInputs _
    rintro c rfl
    obtain hnone | hread := hfound
    · contradiction
    · exact readImage_sound hread.symm
  saved := fun s _ _ h => (h.setStore _).endOperation _
  saveFailed := fun _ _ h => h.cutSave.endOperation _
  loaded := fun s bytes c _ hread h => ((h.setStore bytes).loadImage (readImage_sound hread)).beginRequested
  loadFailed := fun s bytes _ h => (h.setStore bytes).endOperation _
  sleepEntry := fun _ _ h => ((h.leaveRun .sleep).move (move_stopBudget _)).dropReply
  leaveReset := fun s _ h => h.same { SameConfig.refl s with }

end ConfigFits

/-- Settles O58: every effect keeps each record of the configuration within its bounds, for a write stores a judged record
alone. -/
theorem configurationKept : Obligations.ConfigurationKept := by
  unfold Obligations.ConfigurationKept
  intro s t h hstep
  exact (configurationSound_iff t).mpr (ConfigFits.effects.of_step (fun _ _ h => h.tick) hstep ((configurationSound_iff s).mp h))

end Sys2Proof.Machine

/-! PROOFS. The outputs through a step: what the invariants of the Flasher, the resolver, the channels and the gauges ask of
each part of an effect, and that a property which the parts keep is kept by every step. -/

namespace Sys2Proof.Machine

/-! ### What the outputs read -/

/-- Two states alike in all that the outputs are formed from, IGN's code and the charging state aside. -/
structure Beside (s t : State) : Prop where
  clt : t.clt = s.clt
  inForce : t.crs.inForce = s.crs.inForce
  resolved : t.crs.resolved = s.crs.resolved
  present : t.crs.flashPresent = s.crs.flashPresent
  flashSet : t.crs.flashSet = s.crs.flashSet
  fls : t.fls = s.fls
  chd : t.chd = s.chd
  touched : ∀ c, (t.bde.pass.any fun p => p.touched.get c) = (s.bde.pass.any fun p => p.touched.get c)
  gauge : ∀ g, (t.gau.get g).state = (s.gau.get g).state ∧ (t.gau.get g).duty = (s.gau.get g).duty
    ∧ (t.gau.get g).applied = (s.gau.get g).applied ∧ (t.gau.get g).filtered = (s.gau.get g).filtered
  mode : t.mdc.mode = s.mdc.mode
  op : t.mdc.op = s.mdc.op

theorem Beside.refl (s : State) : Beside s s :=
  ⟨rfl, rfl, rfl, rfl, rfl, rfl, rfl, fun _ => rfl, fun _ => ⟨rfl, rfl, rfl, rfl⟩, rfl, rfl⟩

/-- Two states alike in all that the outputs are formed from. -/
structure Same (s t : State) : Prop extends Beside s t where
  ignition : acceptedCode t ign = acceptedCode s ign
  charging : t.sbu.charging = s.sbu.charging

theorem Same.refl (s : State) : Same s s := ⟨.refl s, rfl, rfl⟩

/-- What an entry to RUN keeps of the state before a RESUME, which changes the claims and the circuits. -/
structure Refit (s t : State) : Prop where
  flashSet : t.crs.flashSet = s.crs.flashSet
  fls : t.fls = s.fls
  chd : t.chd = s.chd
  gau : t.gau = s.gau
  ignition : acceptedCode t ign = acceptedCode s ign
  mode : t.mdc.mode = s.mdc.mode
  op : t.mdc.op = s.mdc.op

theorem Refit.refl (s : State) : Refit s s := ⟨rfl, rfl, rfl, rfl, rfl, rfl, rfl⟩

/-- Two states that differ, among what the outputs read, in the configuration and the open-load flags alone. -/
structure Reconfigured (s t : State) : Prop where
  resolved : t.crs.resolved = s.crs.resolved
  present : t.crs.flashPresent = s.crs.flashPresent
  flashSet : t.crs.flashSet = s.crs.flashSet
  phase : t.fls.phase = s.fls.phase
  fast : t.fls.fast = s.fls.fast
  failed : t.fls.failed = s.fls.failed
  chd : ∀ ch, ∃ p b, t.chd.get ch = { s.chd.get ch with profile := p, openLoadFlag := b }
  gauge : ∀ g, (t.gau.get g).state = (s.gau.get g).state ∧ (t.gau.get g).duty = (s.gau.get g).duty
    ∧ (t.gau.get g).applied = (s.gau.get g).applied
  ignition : acceptedCode t ign = acceptedCode s ign
  mode : t.mdc.mode = s.mdc.mode
  op : t.mdc.op = s.mdc.op

/-- A pass with the circuits of the claims that have changed between two states added to those it is to hand over. -/
def Touches (s t : State) (p q : Pass) : Prop :=
  ∀ c, q.touched.get c = (p.touched.get c || (touchedCircuits s.clt t.clt).get c)

/-- The effects on a channel's record of its own events and of CHANNEL.RESTORE, in RUN or not; a sample and a trip fall on a
driven channel alone. -/
inductive ChannelStep (run : Bool) (c : Channel) : (Channel → Channel) → Prop
  | record (h : c.state.driven = true) (threshold reading : Nat) : ChannelStep run c (Channel.record threshold reading)
  | trip (h : c.state.driven = true) (kind : TripKind) : ChannelStep run c (Channel.trip kind)
  | endPeriod : ChannelStep run c Channel.endPeriod
  | rampStep : ChannelStep run c Channel.rampStep
  | endInrush : ChannelStep run c Channel.endInrush
  | forgive : ChannelStep run c Channel.forgive
  | endBackOff : ChannelStep run c (Channel.endBackOff run)
  | restore : ChannelStep run c (Channel.restore run)

/-- Two states that differ, among what the outputs read, in the open-load flags and times and in the phase of a running
Flasher. -/
structure LampsJudged (s t : State) : Prop where
  clt : t.clt = s.clt
  crs : t.crs = s.crs
  chd : ∀ ch, ∃ low good b, t.chd.get ch = { s.chd.get ch with lowTime := low, goodTime := good, openLoadFlag := b }
  sws : t.sws = s.sws
  bde : t.bde = s.bde
  gau : t.gau = s.gau
  mdc : t.mdc = s.mdc
  idle : t.fls.phase = .idle ↔ s.fls.phase = .idle
  standing : s.fls.phase = .idle → t.fls.fast = s.fls.fast ∧ t.fls.failed = s.fls.failed

/-- Two states that differ, among what the outputs read, in the gauges alone, an OFF one as it was. -/
structure Gauged (s t : State) : Prop where
  clt : t.clt = s.clt
  crs : t.crs = s.crs
  fls : t.fls = s.fls
  chd : t.chd = s.chd
  sws : t.sws = s.sws
  bde : t.bde = s.bde
  mdc : t.mdc = s.mdc
  applied : ∀ g, (t.gau.get g).applied = (s.gau.get g).applied
  duty : ∀ g, (t.gau.get g).duty = (s.gau.get g).duty ∨ (t.gau.get g).duty ≤ 1000
  off : ∀ g, (s.gau.get g).state = .off → (t.gau.get g).state = .off ∧ (t.gau.get g).duty = (s.gau.get g).duty

/-! ### The laws -/

/-- A property of the outputs that a hand-over and an entry to RUN keep. -/
structure RunLaw (P : State → Prop) : Prop where
  same : ∀ {s t}, Same s t → P s → P t
  setOp : ∀ {s : State} (o : StoreOp), (o = .load → s.mdc.mode = .quiesced) → P s →
    P { s with mdc := { s.mdc with op := o } }
  handed : ∀ {s t}, ClaimsMove s t → P s → P (handOver (touchedCircuits s.clt t.clt) t)
  entered : ∀ {s t} (b : Bool), s.mdc.mode ≠ .run → (s.mdc.mode = .quiesced → s.mdc.op ≠ .load) → Refit s t → P s →
    P (entered b t)

/-- A property `P` of the outputs that what is done to the claims keeps, with what follows from it. While a scan hands its
acceptances on, the weaker `Q` holds until that of IGN has been. -/
structure ActLaw (P Q : State → Prop) : Prop extends RunLaw P where
  weak : RunLaw Q
  weaken : ∀ {s t}, Beside s t → t.sbu.charging = s.sbu.charging → P s → Q t
  ignition : ∀ {s}, Q s → P (acceptIgnition s)
  moved : ∀ {s t}, ClaimsMove s t → (∀ c, resolve t c = resolve s c) → P s → P t
  taken : ∀ {s t p q}, s.mdc.mode = .run → s.bde.pass = some p → ClaimsMove s t → Touches s t p q → P s →
    P { t with bde := { t.bde with pass := some q } }
  ended : ∀ {s t p q}, s.mdc.mode = .run → s.bde.pass = some p → ClaimsMove s t → Touches s t p q → P s →
    P (handOver q.touched { t with bde := { t.bde with pass := none } })
  left : ∀ {s} m, s.mdc.mode = .run → m ≠ .run → P s → P (leaveRun m s)
  evaluation : ∀ {s}, P s → P (refreshDemands (withHandOver evaluationStages s))

/-- A property of the outputs that their own events keep. -/
structure EventLaw (P : State → Prop) : Prop where
  same : ∀ {s t}, Same s t → P s → P t
  settings : ∀ {s} rate ticker pulse, P s →
    P { s with fls := { s.fls with rateSet := rate, ticker := ticker, tickPulse := pulse } }
  channel : ∀ {s f} ch, ChannelStep (s.mdc.mode == .run) (s.chd.get ch) f → P s → P (modifyChannel ch f s)
  judged : ∀ {s t}, LampsJudged s t → P s → P (refreshDemands t)
  gauged : ∀ {s t}, s.mdc.mode = .run → Gauged s t → P s → P (refreshDemands t)
  heater : ∀ {s} g, s.mdc.mode = .run → P s → P { s with gau := upd s.gau g fun x => { x with applied := x.duty } }

/-- A property of the outputs that the parts of every effect keep. -/
structure OutputLaw (P Q : State → Prop) : Prop extends ActLaw P Q, EventLaw P where
  config : ∀ {s t}, (s.mdc.mode = .run → s.mdc.op = .load) → Reconfigured s t → P s → P t
  lifetime : ∀ {s} ch, P s → P { s with chd := upd s.chd ch fun c => { c with lifetime := 0 } }
  tick : ∀ {s}, P s → P (tick s)
  reset : ∀ cause s, P (resetState cause s)

/-- The four conditions of the sleep entry timer, in RUN (R187). -/
theorem mayDoze_iff (s : State) : mayDoze s = true ↔
    s.mdc.mode = .run ∧ acceptedCode s ign = some 0 ∧ noClaims s.clt = true ∧ saving s = false
      ∧ ∀ r, s.lif.link ≠ .working r := by
  unfold mayDoze
  cases hl : s.lif.link <;> simp [and_assoc]

theorem abandonLoad_op (s : State) : (abandonLoad s).mdc.op ≠ .load := by
  unfold abandonLoad
  split
  · simp
  · assumption

@[simp] theorem abandonLoad_mode (s : State) : (abandonLoad s).mdc.mode = s.mdc.mode := by
  unfold abandonLoad
  split <;> simp

/-- The accepted code of a group that does not accept stands (R114). -/
theorem scan_accepted_of_not_accepting {n : Nat} {raw : BitVec 4} {r : GroupRec} (h : (r.scan n raw).2 = false) :
    (r.scan n raw).1.accepted = r.accepted := by
  unfold GroupRec.scan at h ⊢
  dsimp only at h ⊢
  split
  · rfl
  · next hne =>
    rw [if_neg hne] at h
    generalize (if r.candidate = some raw then r.run + 1 else 1) = run at h ⊢
    split
    · next hrun =>
      rw [if_pos hrun] at h
      contradiction
    · rfl

/-! ### Entries to RUN, and the crank -/

namespace RunLaw

variable {P : State → Prop} (law : RunLaw P) {s : State}
include law

theorem withHandOver {f : State → State} (hf : ClaimsMove s (f s)) (h : P s) : P (withHandOver f s) := law.handed hf h

theorem setFlag (f : Flag) (h : P s) : P (setFlag f s) := law.same { Same.refl s with } h

theorem restartTimer (h : P s) : P (restartTimer s) := law.same { Same.refl s with } h

theorem beginRequested (h : P s) : P (beginRequested s) := by
  unfold Machine.beginRequested
  split
  · next hready =>
    have hnone : s.bde.pass = none := by
      simp only [Bool.and_eq_true, Option.isNone_iff_eq_none] at hready
      exact hready.1.2
    exact law.same { Same.refl s with touched := fun c => by simp [freshPass, hnone] } h
  · exact h

theorem beginCrank (h : P s) : P (beginCrank s) := by
  unfold Machine.beginCrank
  split
  · exact h
  · refine law.setFlag _ (law.withHandOver ?_ h)
    exact ClaimsMove.trans (t := { s with sbu := { s.sbu with crank := .cranking } }) { ClaimsMove.refl s with }
      (move_crankWalk _)

theorem crankCheck (h : P s) : P (crankCheck s) := by
  unfold Machine.crankCheck
  split
  · exact law.beginCrank h
  · exact h

theorem enterRun {t : State} (b : Bool) (hmode : s.mdc.mode ≠ .run) (hop : s.mdc.mode = .quiesced → s.mdc.op ≠ .load)
    (hfit : Refit s t) (h : P s) : P (enterRun b t) := by
  rw [enterRun_eq]
  exact law.beginRequested (law.crankCheck (law.entered b hmode hop hfit h))

theorem wake (hmode : s.mdc.mode = .sleep) (h : P s) : P (wake s) :=
  law.enterRun true (by simp [hmode]) (by simp [hmode]) (.refl _) (law.setFlag .wake h)

theorem resumeRun (hmode : s.mdc.mode = .quiesced) (hop : s.mdc.op ≠ .load) (h : P s) : P (resumeRun s).1 := by
  rw [resumeRun_eq]
  have hmove := move_refitted s
  refine law.enterRun (s := s) false (by simp [hmode]) (fun _ => hop) ?_ h
  exact ⟨by simp [applyPending], by simp [hmove.fls], by simp [hmove.chd], by simp [hmove.gau], by simp [acceptedCode, hmove.sws],
    by simp, by simp⟩

theorem abandonLoad (h : P s) : P (abandonLoad s) := by
  unfold Machine.abandonLoad
  split
  · exact law.setFlag _ (law.setOp .none (by simp) h)
  · exact h

theorem endCrank (h : P s) : P (endCrank s) := by
  unfold Machine.endCrank
  split
  · exact law.same { Same.refl s with } h
  · exact h

theorem acceptStart (h : P s) : P (acceptStart s) := by
  unfold Machine.acceptStart
  split
  · split
    · exact law.beginCrank h
    · exact h
  · exact law.endCrank h

/-- An acceptance wakes a part in SLEEP, whichever group accepts. -/
theorem wakeCheck (h : P s) : P (if (Machine.restartTimer s).mdc.mode = .sleep then Machine.wake (Machine.restartTimer s)
    else Machine.restartTimer s) := by
  have := law.restartTimer h
  split
  · next hsleep => exact law.wake hsleep this
  · exact this

theorem handAcceptance {g : GroupIx} (hg : g ≠ ign) (h : P s) : P (handAcceptance s g) := by
  unfold Machine.handAcceptance
  dsimp only
  have hwoken := law.wakeCheck h
  generalize (if (Machine.restartTimer s).mdc.mode = .sleep then Machine.wake (Machine.restartTimer s)
    else Machine.restartTimer s) = t at hwoken ⊢
  simp only [hg, false_and, if_false]
  split
  · exact law.acceptStart hwoken
  · exact hwoken

theorem ignitionCheck (h : P s) : P (if ign = ign ∧ ignitionOn s = true ∧ s.mdc.mode = .quiesced
    then (Machine.resumeRun (Machine.abandonLoad s)).1 else s) := by
  split
  · next hquiet =>
    refine law.resumeRun ?_ (abandonLoad_op s) (law.abandonLoad h)
    simpa using hquiet.2.2
  · exact h

end RunLaw

theorem reconfigured_takeConfiguration (c : Configuration) (s : State) : Reconfigured s (takeConfiguration c s) where
  resolved := rfl
  present := rfl
  flashSet := rfl
  phase := rfl
  fast := rfl
  failed := rfl
  chd ch := ⟨c.profiles.get ch, false, by simp [takeConfiguration, Channel.takeProfile]⟩
  gauge g := by simp [takeConfiguration]
  ignition := by simp [acceptedCode, takeConfiguration, ign]
  mode := rfl
  op := rfl

theorem reconfigured_takenImage (c : Configuration) (s : State) : Reconfigured s (takenImage c s) := by
  obtain ⟨-, -, -, -, -, -, hchd, hgauge, hign, -, -⟩ := reconfigured_takeConfiguration c s
  have hchd' : (takenImage c s).chd = (takeConfiguration c s).chd := rfl
  have hgau' : (takenImage c s).gau = (takeConfiguration c s).gau := rfl
  have hsws' : (takenImage c s).sws = (takeConfiguration c s).sws := rfl
  refine ⟨rfl, rfl, rfl, rfl, rfl, rfl, ?_, ?_, ?_, rfl, rfl⟩
  · rwa [hchd']
  · rwa [hgau']
  · rw [acceptedCode, hsws']
    exact hign

/-! ### Resolution and the counts of a claim -/

/-- What the resolution of a circuit sees of a slot: the mode and the granted level of a GRANTED claim on it (R54). -/
def seenOn (s : State) (c : Circ) (i : SlotIx) : Option (ClaimMode × Nat) :=
  ((claimAt s i).filter fun x => x.circuit = c && !x.isHeld).map fun x => (x.mode, x.granted)

theorem map_claimsOn_eq_seenOn (s : State) (c : Circ) :
    ((claimsOn s c).filter fun x => !x.isHeld).map (fun x => (x.mode, x.granted))
      = (List.finRange 32).filterMap (seenOn s c) := by
  unfold claimsOn liveSlots
  rw [List.filterMap_filter, List.filter_filterMap, List.map_filterMap]
  congr 1
  funext i
  simp only [seenOn]
  cases hc : claimAt s i with
  | none => simp [claimAt] at hc; simp [hc]
  | some x =>
    have hsome : (s.clt.slots.get i).claim.isSome = true := by simpa [claimAt] using Option.isSome_of_eq_some hc
    by_cases hcirc : x.circuit = c <;> simp [hsome, hcirc, Option.filter_some]

/-- A circuit resolves from what it sees of the slots, and from its maximum level. -/
theorem resolve_of_seenOn {s t : State} (hin : t.crs.inForce = s.crs.inForce) {c : Circ}
    (hseen : ∀ i, seenOn t c i = seenOn s c i) : resolve t c = resolve s c := by
  have hlists : ((claimsOn t c).filter fun x => !x.isHeld).map (fun x => (x.mode, x.granted))
      = ((claimsOn s c).filter fun x => !x.isHeld).map (fun x => (x.mode, x.granted)) := by
    rw [map_claimsOn_eq_seenOn, map_claimsOn_eq_seenOn, funext hseen]
  have hresolve (u : State) : resolve u c =
      (let seen := ((claimsOn u c).filter fun x => !x.isHeld).map (fun x => (x.mode, x.granted))
       if seen.any fun x => x.1 = .flash then .flashing
       else if seen.isEmpty then .off
       else .steady ((seen.map Prod.snd).foldl max 0 * 1000 / (u.crs.inForce.get c).maxLevel)) := by
    simp only [resolve, maxLevelOf, List.any_map, Function.comp_def, List.isEmpty_map, List.map_map]
  rw [hresolve, hresolve, hlists, hin]

theorem seenOn_of_counted {s t : State} {i : SlotIx} {x y : Claim} (hx : claimAt s i = some x)
    (hy : claimAt t i = some y) (h : x.Counted y) (c : Circ) : seenOn t c i = seenOn s c i := by
  have hmode : y.mode = x.mode := by rw [h.rest]
  have hcircuit : y.circuit = x.circuit := by rw [h.rest]
  by_cases hc : x.circuit = c <;> simp [seenOn, hx, hy, Option.filter_some, hmode, hcircuit, h.held, h.level, hc]

theorem resolve_mapClaims {f : Claim → Claim} (hf : ∀ c : Claim, c.Counted (f c)) (s : State) (c : Circ) :
    resolve (mapClaims f s) c = resolve s c := by
  refine resolve_of_seenOn (by simp) fun i => ?_
  cases hx : claimAt s i with
  | none => simp [seenOn, claimAt_mapClaims, hx]
  | some x => exact seenOn_of_counted hx (by rw [claimAt_mapClaims, hx]; rfl) (hf x) c

theorem resolve_modifyClaim {f : Claim → Claim} (hf : ∀ c : Claim, c.Counted (f c)) (i : SlotIx) (s : State) (c : Circ) :
    resolve (modifyClaim i f s) c = resolve s c := by
  refine resolve_of_seenOn (by simp) fun j => ?_
  by_cases hij : i = j
  · subst hij
    cases hx : claimAt s i with
    | none => simp [seenOn, claimAt_modifyClaim, hx]
    | some x => exact seenOn_of_counted hx (by rw [claimAt_modifyClaim, if_pos rfl, hx]; rfl) (hf x) c
  · simp [seenOn, claimAt_modifyClaim, hij]

/-! ### The judgements and the gauges' events -/

theorem LampsJudged.refl (s : State) : LampsJudged s s :=
  ⟨rfl, rfl, fun _ => ⟨_, _, _, rfl⟩, rfl, rfl, rfl, rfl, .rfl, fun _ => ⟨rfl, rfl⟩⟩

theorem LampsJudged.trans {s t u : State} (h : LampsJudged s t) (h' : LampsJudged t u) : LampsJudged s u where
  clt := h'.clt.trans h.clt
  crs := h'.crs.trans h.crs
  chd ch := by
    obtain ⟨low, good, b, hc⟩ := h'.chd ch
    obtain ⟨low', good', b', hc'⟩ := h.chd ch
    exact ⟨low, good, b, by rw [hc, hc']⟩
  sws := h'.sws.trans h.sws
  bde := h'.bde.trans h.bde
  gau := h'.gau.trans h.gau
  mdc := h'.mdc.trans h.mdc
  idle := h'.idle.trans h.idle
  standing hs :=
    let ⟨hfast, hfailed⟩ := h.standing hs
    let ⟨hfast', hfailed'⟩ := h'.standing (h.idle.mpr hs)
    ⟨hfast'.trans hfast, hfailed'.trans hfailed⟩

theorem judged_setFlag (f : Flag) (s : State) : LampsJudged s (setFlag f s) := { LampsJudged.refl s with }

theorem judged_setFlagIf (b : Bool) (f : Flag) (s : State) : LampsJudged s (setFlagIf b f s) := by
  cases b
  · exact .refl s
  · exact judged_setFlag f s

theorem judged_setOpenLoad (ch : Chan) (b : Bool) (s : State) : LampsJudged s (setOpenLoad ch b s) :=
  { LampsJudged.refl s with
    chd := fun k => by
      simp only [setOpenLoad, upd_get]
      split
      · next hk => exact ⟨_, _, b, by rw [hk]⟩
      · exact ⟨_, _, _, rfl⟩ }

theorem judged_putTimes (ch : Chan) (low good : Nat) (s : State) :
    LampsJudged s { s with chd := put s.chd ch { s.chd.get ch with lowTime := low, goodTime := good } } :=
  { LampsJudged.refl s with
    chd := fun k => by
      simp only [put_get]
      split
      · next hk => exact ⟨low, good, _, by rw [hk]⟩
      · exact ⟨_, _, _, rfl⟩ }

theorem judged_openLoad (ch : Chan) (low good : Nat) (b : Bool) (s : State) : LampsJudged s (setOpenLoad ch b
    { s with chd := put s.chd ch { s.chd.get ch with lowTime := low, goodTime := good } }) :=
  (judged_putTimes ch low good s).trans (judged_setOpenLoad ch b _)

theorem judged_modifyCheck (ch : Chan) (f : CheckEntry → CheckEntry) (s : State) :
    LampsJudged s { s with fls := { s.fls with phase := s.fls.phase.modifyCheck ch f } } :=
  { LampsJudged.refl s with idle := modifyCheck_eq_idle .. }

theorem judged_actVerdict (ch : Chan) (e : CheckEntry) (s : State) : LampsJudged s (actVerdict ch e s) := by
  cases e with
  | pass => exact judged_setOpenLoad ch false s
  | fail => exact (judged_setOpenLoad ch true s).trans (judged_setFlag ..)
  | pending joined t => exact .refl s
  | unjudged => exact .refl s

theorem judged_verdict (ch : Chan) (e : CheckEntry) (s : State) : LampsJudged s
    (actVerdict ch e { s with fls := { s.fls with phase := s.fls.phase.modifyCheck ch fun _ => e } }) :=
  (judged_modifyCheck ch (fun _ => e) s).trans (judged_actVerdict ch e _)

theorem judged_actFinal (checks : Vector (Option CheckEntry) 20) (s : State) (ch : Chan) :
    LampsJudged s (actFinal checks s ch) := by
  unfold actFinal
  split
  · exact judged_actVerdict ..
  · exact .refl s

theorem LampsJudged.foldl {α : Type} {f : State → α → State} (hf : ∀ s a, LampsJudged s (f s a)) (xs : List α) (s : State) :
    LampsJudged s (xs.foldl f s) := by
  induction xs generalizing s with
  | nil => exact refl s
  | cons x xs ih => exact (hf s x).trans (ih (f s x))

/-- A running Flasher's phase replaced by another phase that runs. -/
theorem judged_setFls {s : State} {f : Flasher} (hs : s.fls.phase ≠ .idle) (hf : f.phase ≠ .idle) :
    LampsJudged s { s with fls := f } :=
  { LampsJudged.refl s with idle := iff_of_false hf hs, standing := fun h => absurd h hs }

@[simp] theorem pulse_phase (f : Flasher) : f.pulse.phase = f.phase := by
  unfold Flasher.pulse
  split <;> rfl

theorem judged_litEnded {s : State} {rate n : Nat} {checks : Vector (Option CheckEntry) 20}
    (h : s.fls.phase = .lit rate n checks) :
    LampsJudged s
      (let s := (List.finRange 20).foldl (actFinal checks) s
       let failed := failedSet checks
       let fast := failed.toList.any id
       { s with fls := { s.fls with
          phase := .dark rate (darkTime rate fast), failed := failed, fast := fast }.pulse }) := by
  have hfinal := LampsJudged.foldl (judged_actFinal checks) (List.finRange 20) s
  refine hfinal.trans (judged_setFls ?_ (by simp))
  rw [Ne, hfinal.idle, h]
  simp

theorem judged_darkEnded {s : State} {rate n : Nat} (h : s.fls.phase = .dark rate n) :
    LampsJudged s { s with fls := s.fls.beginLit s.crs.flashSet } :=
  judged_setFls (by simp [h]) (by simp [Flasher.beginLit])

theorem update_duty_bound (vbatF a : Nat) (g : Gauge) :
    (g.update vbatF a).duty = g.duty ∨ (g.update vbatF a).duty ≤ 1000 := by
  unfold Gauge.update
  dsimp only
  split
  · exact .inl rfl
  · exact .inr (Nat.min_le_left ..)

theorem updateGauges_get (s : State) (g : GaugeIx) :
    (updateGauges s).gau.get g = (s.gau.get g).update s.sbu.vbatF ((updateReadings s).get g) := by
  simp [updateGauges]

theorem gauged_updateGauges (s : State) : Gauged s (updateGauges s) where
  clt := by simp [updateGauges]
  crs := by simp [updateGauges]
  fls := by simp [updateGauges]
  chd := by simp [updateGauges]
  sws := by simp [updateGauges]
  bde := by simp [updateGauges]
  mdc := by simp [updateGauges]
  applied g := by rw [updateGauges_get, (Gauge.update_recorded ..).2.2.2]
  duty g := by
    rw [updateGauges_get]
    exact update_duty_bound ..
  off g hoff := by
    rw [updateGauges_get, Gauge.update_off hoff]
    exact ⟨hoff, rfl⟩

theorem gauged_endHold (g : GaugeIx) (s : State) : Gauged s { s with gau := upd s.gau g Gauge.endHold } := by
  have hend (x : Gauge) : x.endHold.applied = x.applied ∧ x.endHold.duty = x.duty
      ∧ (x.state = .off → x.endHold.state = .off) := by
    unfold Gauge.endHold
    split
    · split <;> simp_all
    all_goals simp
  refine ⟨rfl, rfl, rfl, rfl, rfl, rfl, rfl, fun k => ?_, fun k => .inl ?_, fun k hk => ?_⟩
  all_goals simp only [upd_get]
  · split
    · next h => rw [(hend _).1, h]
    · rfl
  · split
    · next h => rw [(hend _).2.1, h]
    · rfl
  · split
    · next h => subst h; exact ⟨(hend _).2.2 hk, (hend _).2.1⟩
    · exact ⟨hk, rfl⟩

theorem driven_of_stalling {c : Channel} (h : c.stalling = true) : c.state.driven = true := by
  simp only [Channel.stalling, Bool.and_eq_true] at h
  obtain ⟨⟨⟨-, hon⟩, -⟩, -⟩ := h
  cases hs : c.state <;> simp_all [ChanState.isOn, ChanState.driven]

/-! ### Stage 1 of an evaluation -/

theorem beside_measureStage (s : State) : Beside s (measureStage s) := by
  have hform (s : State) : ∃ sbu n, formFiltered s = { s with sbu := sbu, freeCount := n } := by
    unfold formFiltered
    split <;> exact ⟨_, _, rfl⟩
  have hflag (b : Bool) (f : Flag) (s : State) : ∃ lif, setFlagIf b f s = { s with lif := lif } := by
    cases b <;> exact ⟨_, rfl⟩
  have hband (s : State) : ∃ sbu lif, setBand s = { s with sbu := sbu, lif := lif } := by
    unfold setBand
    split
    · dsimp only
      obtain ⟨lif, h⟩ := hflag (s.sbu.band.after s.sbu.vbatF != s.sbu.band) .band
        { s with sbu := { s.sbu with band := s.sbu.band.after s.sbu.vbatF } }
      exact ⟨_, lif, h⟩
    · exact ⟨_, _, rfl⟩
  have hcharging (s : State) : ∃ sbu lif, setCharging s = { s with sbu := sbu, lif := lif } := by
    obtain ⟨lif, h⟩ := hflag (s.sbu.charging.after s.sbu.vgenF s.sbu.vbatF != s.sbu.charging) .charge
      { s with sbu := { s.sbu with charging := s.sbu.charging.after s.sbu.vgenF s.sbu.vbatF } }
    exact ⟨_, lif, h⟩
  obtain ⟨sbu, n, h1⟩ := hform s
  obtain ⟨sbu', lif, h2⟩ := hband (formFiltered s)
  obtain ⟨sbu'', lif', h3⟩ := hcharging (setBand (formFiltered s))
  rw [measureStage, h3, h2, h1]
  exact { Beside.refl s with }

/-! ### The commands -/

namespace ActLaw

variable {P Q : State → Prop} (law : ActLaw P Q) {s : State}
include law

theorem handAcceptance_ign (h : Q s) : P (handAcceptance s ign) := by
  unfold Machine.handAcceptance
  dsimp only
  have hready := law.weak.ignitionCheck (law.weak.wakeCheck h)
  rw [if_pos rfl]
  exact law.ignition hready

theorem to_weak (h : P s) : Q s := law.weaken (.refl s) rfl h

theorem handAcceptances (gs : List GroupIx) (hgs : ign ∉ gs) (h : P s) : P (gs.foldl handAcceptance s) := by
  induction gs generalizing s with
  | nil => exact h
  | cons g gs ih =>
    simp only [List.mem_cons, not_or] at hgs
    exact ih hgs.2 (law.handAcceptance (Ne.symm hgs.1) h)

theorem handAcceptances_weak (gs : List GroupIx) (h : Q s) : Q (gs.foldl handAcceptance s) := by
  induction gs generalizing s with
  | nil => exact h
  | cons g gs ih =>
    by_cases hg : g = ign
    · exact ih (law.to_weak (hg ▸ law.handAcceptance_ign h))
    · exact ih (law.weak.handAcceptance hg h)

theorem handAcceptances_ign {gs : List GroupIx} (hnodup : gs.Nodup) (hmem : ign ∈ gs) (h : Q s) :
    P (gs.foldl handAcceptance s) := by
  obtain ⟨front, back, rfl⟩ := List.append_of_mem hmem
  rw [List.foldl_append, List.foldl_cons]
  have hback : ign ∉ back := (List.nodup_cons.mp (List.nodup_append.mp hnodup).2.1).1
  exact law.handAcceptances back hback (law.handAcceptance_ign (law.handAcceptances_weak front h))

theorem scanInputs (levels : BitVec 26) (h : P s) : P (scanInputs levels s) := by
  unfold Machine.scanInputs
  dsimp only
  refine law.beginRequested ?_
  set t : State := { s with sws := { s.sws with recs := mapTbl Prod.fst (scanRecs s levels), levels := levels } } with ht
  have hrequest (u : State) : Same u (if ((List.finRange 18).filter fun g => ((scanRecs s levels).get g).2).isEmpty then u
      else requestPass u) := by
    split
    · exact .refl u
    · exact { Same.refl u with }
  by_cases hign : ((scanRecs s levels).get ign).2 = true
  · have hweak : Q t := law.weaken { Beside.refl s with } rfl h
    refine law.handAcceptances_ign ((List.nodup_finRange 18).filter _) ?_ (law.weak.same (hrequest t) hweak)
    simp [hign]
  · have hcode : acceptedCode t ign = acceptedCode s ign := by
      simp only [scanRecs, tabulate_get, Bool.not_eq_true] at hign
      simp only [ht, acceptedCode, mapTbl_get, scanRecs, tabulate_get]
      exact scan_accepted_of_not_accepting hign
    have hscanned : P t := law.same { Beside.refl s with ignition := hcode, charging := rfl } h
    exact law.handAcceptances _ (by simp [hign]) (law.same (hrequest t) hscanned)

theorem answer (r : Reply) (h : P s) : P (answer r s) := law.same { Same.refl s with } h

theorem takeFrame (bytes : List Byte) (h : P s) : P (takeFrame bytes s) := by
  cases bytes with
  | nil => exact h
  | cons b bs =>
    unfold Machine.takeFrame
    dsimp only
    split
    · exact law.same (Same.mk ⟨by simp, by simp, by simp, by simp, by simp, by simp, by simp, by simp, by simp, by simp,
        by simp⟩ (by simp [acceptedCode]) (by simp)) h
    · unfold takeRequest
      dsimp only
      have hwoken : P (if s.mdc.mode = .sleep then Machine.wake s else s) := by
        split
        · next hsleep => exact law.wake hsleep h
        · exact h
      generalize (if s.mdc.mode = .sleep then Machine.wake s else s) = t at hwoken ⊢
      have hdealt : P (dealFrame (b :: bs) t) := by
        unfold dealFrame
        split
        · exact law.setFlag _ hwoken
        · exact law.setFlag _ hwoken
        · split
          · exact law.same { Same.refl t with } hwoken
          · split <;> exact law.same { Same.refl t with } hwoken
      exact law.same { Same.refl (dealFrame (b :: bs) t) with } hdealt

theorem replaceBinding (b : BindIx) (e : BindEntry) (h : P s) : P (replaceBinding b e s) := by
  have hput (s : State) (h : P s) (recs : Vector BindRec 64) :
      P { s with bde := { s.bde with entries := put s.bde.entries b e, recs := recs } } :=
    law.same { Same.refl s with } h
  have hrequest (s : State) (h : P s) : P (requestPass s) := law.same { Same.refl s with } h
  unfold Machine.replaceBinding
  dsimp only
  refine law.beginRequested (hrequest _ (hput _ ?_ _))
  split
  · exact law.withHandOver (f := retire _) (move_retire ..) h
  · exact h
  · exact h

theorem bindWrite (p : List Byte) (h : P s) : P (bindWrite p s).1 := by
  obtain heq | ⟨b, bytes, e, -, heq⟩ := bindWrite_cases p s
  · rwa [heq]
  · rw [heq]
    exact law.replaceBinding b e h

theorem setWaiting (w : Option (List Byte)) (h : P s) : P { s with bde := { s.bde with waiting := w } } :=
  law.same { Same.refl s with } h

theorem serveWaiting (h : P s) : P (serveWaiting s) := by
  unfold Machine.serveWaiting
  split
  · exact h
  · dsimp only
    split
    · exact law.answer _ (law.bindWrite _ (law.setWaiting none h))
    · exact law.setWaiting none h

theorem passStep (hmode : s.mdc.mode = .run) (h : P s) : P (passStep s) := by
  unfold Machine.passStep
  split
  · exact h
  · next p hp =>
    have hmove := move_takeBinding p p.next s
    have htouched : (takeBinding p p.next s).1.touched = p.touched := by
      unfold takeBinding
      split
      · rfl
      · rfl
      · rfl
      · dsimp only
        split <;> rfl
    have htouches : Touches s (takeBinding p p.next s).2 p
        ((takeBinding p p.next s).1.touch (touchedCircuits s.clt (takeBinding p p.next s).2.clt)) := fun c => by
      simp [Pass.touch, htouched]
    dsimp only
    split
    · exact law.taken hmode hp hmove htouches h
    · unfold endPass
      exact law.beginRequested (law.serveWaiting (law.ended hmode hp hmove htouches h))

theorem setStore (bytes : List Byte) (h : P s) : P { s with store := bytes } := law.same { Same.refl s with } h

theorem endOperation (f : Flag) (h : P s) : P (endOperation f s) := law.setFlag f (law.setOp .none (by simp) h)

/-! ### The requests -/

theorem claimRaise (p : List Byte) (h : P s) : P (claimRaise p s).1 := by
  obtain heq | ⟨-, i, r, heq⟩ := claimRaise_cases p s
  · rwa [heq]
  · rw [heq]
    exact law.withHandOver (move_raiseInto i r s) h

theorem claimAlter (p : List Byte) (h : P s) : P (claimAlter p s).1 := by
  obtain heq | ⟨-, i, c, a, -, heq⟩ := claimAlter_cases p s
  · rwa [heq]
  · rw [heq]
    exact law.withHandOver (move_alter i c a s) h

theorem claimRetire (p : List Byte) (h : P s) : P (claimRetire p s).1 := by
  obtain heq | ⟨i, -, -, -, heq⟩ := claimRetire_cases p s
  · rwa [heq]
  · rw [heq]
    exact law.beginRequested (law.withHandOver (f := retire i) (move_retire i s) h)

theorem mapReasons (f : HoldReasons → HoldReasons) (h : P s) : P (mapClaims (Claim.mapReasons f) s) :=
  law.moved (move_mapClaims ..) (resolve_mapClaims (ClaimLaw.counted_mapReasons f) s) h

theorem endRecovery (h : P s) : P (endRecovery s) := law.mapReasons _ (law.same { Same.refl s with } h)

theorem endHostHold (h : P s) : P (endHostHold s) := law.mapReasons _ (law.same { Same.refl s with } h)

theorem holdSet (p : List Byte) (h : P s) : P (holdSet p s).1 := by
  obtain heq | ⟨-, heq | ⟨hold, heq⟩⟩ := holdSet_cases p s
  · rwa [heq]
  · rw [heq]
    exact law.endHostHold h
  · rw [heq]
    exact law.withHandOver (f := fun s => (placeHostHold hold s).1) (move_placeHostHold hold s) h

theorem circuitWrite (p : List Byte) (h : P s) : P (circuitWrite p s).1 := by
  obtain heq | ⟨-, c, e, -, heq⟩ := circuitWrite_cases p s
  · rwa [heq]
  · rw [heq]
    exact law.same { Same.refl s with } h

theorem groupWrite (p : List Byte) (h : P s) : P (groupWrite p s).1 := by
  obtain heq | ⟨hmode, g, bytes, d, -, heq⟩ := groupWrite_cases p s
  · rwa [heq]
  · rw [heq]
    refine law.same { Same.refl s with ignition := ?_ } h
    have hne : g.castLE (by decide) ≠ ign := fun he => by
      have := congrArg Fin.val he
      simp [ign] at this
      omega
    simp only [acceptedCode, defineGroup, put_get]
    rw [if_neg hne]

theorem gaugeSet (p : List Byte) (h : P s) : P (gaugeSet p s).1 := by
  obtain heq | ⟨-, g, points, k, vstab, settings, -, heq⟩ := gaugeSet_cases p s
  · rwa [heq]
  · rw [heq]
    refine law.same { Same.refl s with gauge := fun x => ?_ } h
    simp only [upd_get]
    split
    · next hx => simp [hx]
    · exact ⟨rfl, rfl, rfl, rfl⟩

theorem quiesce (p : List Byte) (h : P s) : P (quiesce p s).1 := by
  obtain heq | ⟨hmode, -, -, heq⟩ := quiesce_cases p s
  · rwa [heq]
  · rw [heq]
    exact law.left .quiesced hmode (by simp) h

theorem resume (p : List Byte) (h : P s) : P (resume p s).1 := by
  obtain heq | ⟨hmode, hop, heq⟩ := resume_cases p s
  · rwa [heq]
  · rw [heq]
    exact law.resumeRun hmode hop h

theorem storeSave (p : List Byte) (h : P s) : P (storeSave p s).1 := by
  obtain heq | ⟨image, store, heq⟩ := storeSave_cases p s
  · rwa [heq]
  · rw [heq]
    exact law.setOp (.save image) (by simp) (law.setStore store h)

theorem storeLoad (p : List Byte) (h : P s) : P (storeLoad p s).1 := by
  obtain heq | ⟨hmode, heq⟩ := storeLoad_cases p s
  · rwa [heq]
  · rw [heq]
    exact law.setOp .load (fun _ => hmode) h

/-! ### The image -/

theorem cutSave (h : P s) : P (cutSave s) := by
  unfold Machine.cutSave
  split
  · exact law.same { Same.refl s with } h
  · exact h
  · exact h

theorem stopBudget (h : P s) : P (stopBudget s) :=
  law.same (s := Machine.endRecovery (Machine.endHostHold s)) { Same.refl _ with } (law.endRecovery (law.endHostHold h))

theorem dropReply (h : P s) : P (dropReply s) := law.same { Same.refl s with } h

theorem serves {r : Req} {body : List Byte → State → State × Reply} (hb : ∀ p s, P s → P (body p s).1) :
    ServeKeeps P r body :=
  ServeKeeps.of_body (fun r _ h => law.answer r h) hb

theorem statusClear (p : List Byte) (h : P s) : P (statusClear p s).1 := by
  unfold Machine.statusClear
  split
  · exact law.same { Same.refl s with } h
  · exact h

theorem enableChange (f : BitVec 17 → BitVec 17 → BitVec 17) (p : List Byte) (h : P s) : P (enableChange f p s).1 := by
  unfold Machine.enableChange
  split
  · exact law.same { Same.refl s with } h
  · exact h

end ActLaw

/-! ### The events of the outputs -/

namespace EventLaw

variable {P : State → Prop} (law : EventLaw P) {s : State}
include law

theorem setFlag (f : Flag) (h : P s) : P (setFlag f s) := law.same { Same.refl s with } h

theorem event {f : State → State} (hf : Keeps P f) {s t : State} (hstep : act f s = .next t) (h : P s) : P t :=
  act_keeps (fun s h => law.same { Same.refl s with } h) hf hstep h

theorem trip {ch : Chan} (hdriven : (s.chd.get ch).state.driven = true) (kind : TripKind) (h : P s) :
    P (tripChannel ch kind s) := by
  have hflag (b : Bool) (s : State) (h : P s) : P (setFlagIf b .lock s) := by
    cases b
    · exact h
    · exact law.setFlag _ h
  exact law.setFlag _ (hflag _ _ (law.channel ch (.trip hdriven kind) h))

theorem execCurrentSample (ch : Chan) (reading : Nat) {s t : State} (hstep : execCurrentSample ch reading s = .next t)
    (h : P s) : P t := by
  unfold Machine.execCurrentSample at hstep
  refine law.event (fun s h => ?_) hstep h
  dsimp only
  split
  · next hconducts =>
    have hdriven : (s.chd.get ch).state.driven = true := (Bool.and_eq_true_iff.mp hconducts).1
    have hrecord := law.channel ch (.record hdriven (tripThreshold ch (s.chd.get ch)) (min 500 reading)) h
    have hdriven' : ((modifyChannel ch (Channel.record (tripThreshold ch (s.chd.get ch)) (min 500 reading)) s).chd.get
        ch).state.driven = true := by
      rw [chd_modifyChannel, if_pos rfl]
      exact hdriven
    split
    · exact law.trip hdriven' _ hrecord
    · split
      · exact law.trip hdriven' _ hrecord
      · exact hrecord
  · exact h

theorem execBulbCheckReading (ch : Chan) {s t : State} (hstep : execBulbCheckReading ch s = .next t) (h : P s) : P t := by
  unfold Machine.execBulbCheckReading at hstep
  refine law.event (fun s h => ?_) hstep h
  dsimp only
  split
  · split
    · exact law.judged (judged_verdict ch _ s) h
    · exact h
  · exact h

theorem execOpenLoadDetected (ch : Chan) {s t : State} (hstep : execOpenLoadDetected ch s = .next t) (h : P s) : P t := by
  unfold Machine.execOpenLoadDetected at hstep
  refine law.event (fun s h => ?_) hstep h
  dsimp only
  split
  · exact law.judged ((judged_openLoad ch _ _ true s).trans (judged_setFlagIf ..)) h
  · exact h

theorem execOpenLoadCleared (ch : Chan) {s t : State} (hstep : execOpenLoadCleared ch s = .next t) (h : P s) : P t := by
  unfold Machine.execOpenLoadCleared at hstep
  refine law.event (fun s h => ?_) hstep h
  dsimp only
  split
  · exact law.judged (judged_openLoad ch _ _ false s) h
  · exact h

theorem endLit (h : P s) : P (endLit s) := by
  unfold Machine.endLit
  split
  · next hphase => exact law.judged (judged_litEnded hphase) h
  · exact h
  · exact h

theorem endDark (h : P s) : P (endDark s) := by
  unfold Machine.endDark
  split
  · next hphase => exact law.judged (judged_darkEnded hphase) h
  · exact h
  · exact h

theorem execSupplySample (vbat vgen : Nat) (ibat : Int) {s t : State}
    (hstep : execSupplySample vbat vgen ibat s = .next t) (h : P s) : P t := by
  unfold Machine.execSupplySample at hstep
  refine law.event (fun s h => ?_) hstep h
  dsimp only
  split <;> exact law.same { Same.refl s with } h

theorem execSenderSample (a0 a1 a2 : BitVec 12) {s t : State} (hstep : execSenderSample a0 a1 a2 s = .next t) (h : P s) :
    P t := by
  unfold Machine.execSenderSample at hstep
  refine law.event (fun s h => ?_) hstep h
  dsimp only
  split
  · exact law.same { Same.refl s with gauge := fun g => by simp } h
  · exact law.same { Same.refl s with } h

theorem execGaugeUpdate {s t : State} (hstep : execGaugeUpdate s = .next t) (h : P s) : P t := by
  unfold Machine.execGaugeUpdate at hstep
  refine law.event (fun s h => ?_) hstep h
  split
  · next hmode => exact law.gauged hmode (gauged_updateGauges s) h
  · exact h

theorem execFaultHoldEnd (g : GaugeIx) {s t : State} (hstep : execFaultHoldEnd g s = .next t) (h : P s) : P t := by
  unfold Machine.execFaultHoldEnd at hstep
  refine law.event (fun s h => ?_) hstep h
  split
  · next hmode => exact law.gauged hmode (gauged_endHold g s) h
  · exact h

theorem execHeaterPeriodEnd (g : GaugeIx) {s t : State} (hstep : execHeaterPeriodEnd g s = .next t) (h : P s) : P t := by
  unfold Machine.execHeaterPeriodEnd at hstep
  refine law.event (fun s h => ?_) hstep h
  split
  · next hmode => exact law.heater g hmode h
  · exact h

theorem execStallTrip (ch : Chan) {s t : State} (hstep : execStallTrip ch s = .next t) (h : P s) : P t := by
  unfold Machine.execStallTrip at hstep
  refine law.event (fun s h => ?_) hstep h
  split
  · next hstalling => exact law.trip (driven_of_stalling hstalling) _ h
  · exact h

theorem outputs {c : Instr} (hc : movesOutputs c = true) {s t : State} (hstep : exec c s = .next t) (h : P s) : P t := by
  cases c <;> try contradiction
  case supplySample vbat vgen ibat => exact law.execSupplySample vbat vgen ibat hstep h
  case litExpiry => exact law.event (fun _ h => law.endLit h) hstep h
  case darkExpiry => exact law.event (fun _ h => law.endDark h) hstep h
  case bulbCheckReading ch => exact law.execBulbCheckReading ch hstep h
  case tickPulseEnd =>
    exact law.event (f := fun s => { s with fls := { s.fls with tickPulse := none } })
      (fun s h => law.settings s.fls.rateSet s.fls.ticker none h) hstep h
  case currentSample ch reading => exact law.execCurrentSample ch reading hstep h
  case stallTrip ch => exact law.execStallTrip ch hstep h
  case channelPeriodEnd ch => exact law.event (fun _ h => law.channel ch .endPeriod h) hstep h
  case motorRampStep ch => exact law.event (fun _ h => law.channel ch .rampStep h) hstep h
  case inrushWindowEnd ch => exact law.event (fun _ h => law.channel ch .endInrush h) hstep h
  case continuousOnForgive ch => exact law.event (fun _ h => law.channel ch .forgive h) hstep h
  case backOffExpiry ch => exact law.event (fun _ h => law.channel ch .endBackOff h) hstep h
  case openLoadDetected ch => exact law.execOpenLoadDetected ch hstep h
  case openLoadCleared ch => exact law.execOpenLoadCleared ch hstep h
  case senderSample a0 a1 a2 => exact law.execSenderSample a0 a1 a2 hstep h
  case gaugeUpdate => exact law.execGaugeUpdate hstep h
  case faultHoldEnd g => exact law.execFaultHoldEnd g hstep h
  case heaterPeriodEnd g => exact law.execHeaterPeriodEnd g hstep h

end EventLaw

namespace OutputLaw

variable {P Q : State → Prop} (law : OutputLaw P Q) {s : State}
include law

theorem flasherSet (p : List Byte) (h : P s) : P (flasherSet p s).1 := by
  obtain heq | ⟨rate, ticker, -, heq⟩ := flasherSet_cases p s
  · rwa [heq]
  · rw [heq]
    exact law.settings rate ticker s.fls.tickPulse h

theorem profileWrite (p : List Byte) (h : P s) : P (profileWrite p s).1 := by
  obtain heq | ⟨hmode, ch, bytes, q, -, heq⟩ := profileWrite_cases p s
  · rwa [heq]
  · rw [heq]
    refine law.config (s := s) (by simp [hmode])
      ⟨rfl, rfl, rfl, rfl, rfl, rfl, fun k => ?_, fun _ => ⟨rfl, rfl, rfl⟩, rfl, rfl, rfl⟩ h
    simp only [upd_get]
    split
    · next hk => exact ⟨q, false, hk ▸ rfl⟩
    · exact ⟨_, _, rfl⟩

theorem channelRead (p : List Byte) (h : P s) : P (channelRead p s).1 := by
  unfold Machine.channelRead
  split
  · split
    · exact h
    · split
      · exact h
      · dsimp only
        split
        · exact law.lifetime _ h
        · exact h
  · exact h

theorem channelRestore (p : List Byte) (h : P s) : P (channelRestore p s).1 := by
  unfold Machine.channelRestore
  split
  · split
    · exact h
    · exact law.channel _ .restore h
  · exact h

theorem loadImage (c : Configuration) (hop : s.mdc.op = .load) (h : P s) : P (loadImage c s) := by
  rw [loadImage_eq]
  have hretired := law.withHandOver (f := fun s => (bindingSlots s).foldl (fun s i => retire i s) s)
    (move_foldl_retire ..) h
  have hop' : (Machine.withHandOver (fun s => (bindingSlots s).foldl (fun s i => retire i s) s) s).mdc.op = .load := by
    have := (move_foldl_retire (bindingSlots s) s).mdc
    simp [Machine.withHandOver, this, hop]
  exact law.endOperation _ (law.config (fun _ => hop') (reconfigured_takenImage c _) hretired)

theorem loadConfiguration (found : Option Configuration) (hmode : s.mdc.mode ≠ .run) (h : P s) :
    P (loadConfiguration found s) := by
  have hflag (b : Bool) (s : State) (h : P s) : P (setFlagIf b .loadDefault s) := by
    cases b
    · exact h
    · exact law.setFlag _ h
  unfold Machine.loadConfiguration
  refine hflag _ _ (law.config (fun hrun => absurd hrun hmode) ?_ h)
  exact { reconfigured_takeConfiguration (found.getD defaultConfiguration) s with }

/-- A property that the parts of the effects keep is kept by every effect. -/
theorem effects : Effects P P where
  weak := fun _ h => h
  settle := fun s h => law.same { Same.refl s with } h
  pop := fun s _ h => law.same { Same.refl s with } h
  frame := fun bytes _ h => law.takeFrame bytes h
  fetch := fun _ s h => law.same (Same.mk ⟨by simp, by simp, by simp, by simp, by simp, by simp, by simp, by simp,
    by simp, by simp, by simp⟩ (by simp [acceptedCode]) (by simp)) h
  read := fun r body _ hbody => law.serves fun p s h => by rw [hbody]; exact h
  statusClear := law.serves fun p _ h => law.statusClear p h
  enableSet := law.serves fun p _ h => law.enableChange _ p h
  enableClear := law.serves fun p _ h => law.enableChange _ p h
  channelRead := law.serves fun p _ h => law.channelRead p h
  channelRestore := law.serves fun p _ h => law.channelRestore p h
  claimRaise := law.serves fun p _ h => law.claimRaise p h
  claimAlter := law.serves fun p _ h => law.claimAlter p h
  claimRetire := law.serves fun p _ h => law.claimRetire p h
  holdSet := law.serves fun p _ h => law.holdSet p h
  circuitWrite := law.serves fun p _ h => law.circuitWrite p h
  flasherSet := law.serves fun p _ h => law.flasherSet p h
  profileWrite := law.serves fun p _ h => law.profileWrite p h
  groupWrite := law.serves fun p _ h => law.groupWrite p h
  bindWaits := fun p _ _ _ h => law.setWaiting (some p) h
  bindWrite := fun p _ _ _ h => law.answer _ (law.bindWrite p h)
  gaugeSet := law.serves fun p _ h => law.gaugeSet p h
  quiesce := law.serves fun p _ h => law.quiesce p h
  resume := law.serves fun p _ h => law.resume p h
  storeSave := law.serves fun p _ h => law.storeSave p h
  storeLoad := law.serves fun p _ h => law.storeLoad p h
  outputs := fun _ _ _ hc hstep h => law.toEventLaw.outputs hc hstep h
  levels := fun s _ h => law.same { Same.refl s with } h
  scan := fun levels _ _ h => law.scanInputs levels h
  passStep := fun _ hmode h => law.passStep hmode h
  evaluation := fun _ _ h => law.beginRequested (law.evaluation h)
  count := fun f s i hf h => law.moved (move_modifyClaim ..) (resolve_modifyClaim hf i s) h
  recovery := fun _ h => law.endRecovery h
  hostHold := fun _ h => law.endHostHold h
  expiry := fun s i _ h => law.beginRequested (law.withHandOver (f := fun s => setFlag .claimExpired (retire i s))
    ((move_retire i s).trans (move_setFlag ..)) h)
  reset := fun cause s _ => law.reset cause s
  loading := fun s bytes found hmode _ h => by
    have hconf : (Machine.loadConfiguration found { s with store := bytes }).mdc.mode = .loading := by
      simp [Machine.loadConfiguration, takeConfiguration, hmode]
    refine law.scanInputs _ (law.enterRun true ?_ ?_ (.refl _) ?_)
    · simp [hconf]
    · simp [hconf]
    · exact law.loadConfiguration found (by simp [hmode]) (law.setStore bytes h)
  saved := fun s image _ h => law.endOperation _ (law.setStore _ h)
  saveFailed := fun _ _ h => law.endOperation _ (law.cutSave h)
  loaded := fun s bytes c hop _ h => law.beginRequested (law.loadImage c hop (law.setStore bytes h))
  loadFailed := fun s bytes _ h => law.endOperation _ (law.setStore bytes h)
  sleepEntry := fun s hdoze h => by
    obtain ⟨hmode, -⟩ := (mayDoze_iff s).mp hdoze
    exact law.dropReply (law.stopBudget (law.left .sleep hmode (by simp) h))
  leaveReset := fun s _ h => law.same { Same.refl s with } h

theorem of_step {s t : State} (hstep : step s = .next t) (h : P s) : P t := law.effects.of_step (fun _ _ h => law.tick h) hstep h

end OutputLaw

end Sys2Proof.Machine

/-! PROOFS. The Flasher and the resolved states through a step: two parts of O35. -/

namespace Sys2Proof.Machine

/-! ### Properties through the demands and the hand-overs -/

section
variable {P : State → Prop}

theorem keeps_refreshDemands (hand : ∀ ch d, Keeps P (handDemand ch d)) : Keeps P refreshDemands :=
  Keeps.foldl (fun ch s h => by
    unfold refreshDemand
    dsimp only
    split
    · exact h
    · exact hand _ _ s h) _

theorem keeps_handAllDemands (hand : ∀ ch d, Keeps P (handDemand ch d)) : Keeps P handAllDemands :=
  Keeps.foldl (fun _ s h => hand _ _ s h) _

theorem keeps_handOver (v : Vector Bool 16) (hresolve : ∀ c, Keeps P (resolveCircuit · c)) : Keeps P (handOver v) :=
  Keeps.foldl (fun c s h => by
    dsimp only
    split
    · exact hresolve c s h
    · exact h) _

end

/-- A step that leaves the Flasher's phase IDLE or not as it was, and its flags. -/
structure PhaseKept (s t : State) : Prop where
  idle : t.fls.phase = .idle ↔ s.fls.phase = .idle
  fast : t.fls.fast = s.fls.fast
  failed : t.fls.failed = s.fls.failed
  present : t.crs.flashPresent = s.crs.flashPresent
  mode : t.mdc.mode = s.mdc.mode

theorem PhaseKept.refl (s : State) : PhaseKept s s := ⟨.rfl, rfl, rfl, rfl, rfl⟩

theorem PhaseKept.trans {s t u : State} (h : PhaseKept s t) (h' : PhaseKept t u) : PhaseKept s u :=
  ⟨h'.idle.trans h.idle, h'.fast.trans h.fast, h'.failed.trans h.failed, h'.present.trans h.present,
    h'.mode.trans h.mode⟩

theorem phaseKept_modifyChannel (ch : Chan) (f : Channel → Channel) (s : State) : PhaseKept s (modifyChannel ch f s) := by
  unfold modifyChannel
  dsimp only
  split
  · exact { PhaseKept.refl s with }
  · exact { PhaseKept.refl s with idle := modifyCheck_eq_idle .. }

theorem phaseKept_refreshDemands (s : State) : PhaseKept s (refreshDemands s) :=
  keeps_refreshDemands (P := PhaseKept s) (fun _ _ _ h => h.trans (phaseKept_modifyChannel ..)) s (.refl s)

theorem phaseKept_handAllDemands (s : State) : PhaseKept s (handAllDemands s) :=
  keeps_handAllDemands (P := PhaseKept s) (fun _ _ _ h => h.trans (phaseKept_modifyChannel ..)) s (.refl s)

theorem PhaseKept.of_move {s t : State} (h : ClaimsMove s t) : PhaseKept s t :=
  ⟨by rw [h.fls], by rw [h.fls], by rw [h.fls], by rw [h.crs], by rw [h.mdc]⟩

theorem PhaseKept.of_beside {s t : State} (h : Beside s t) : PhaseKept s t :=
  ⟨by rw [h.fls], by rw [h.fls], by rw [h.fls], h.present, h.mode⟩

theorem phaseKept_acceptIgnition (s : State) : PhaseKept s (acceptIgnition s) := by
  have hgau (gau : Vector Gauge 3) : PhaseKept s (refreshDemands { s with gau := gau }) :=
    PhaseKept.trans (t := { s with gau := gau }) { PhaseKept.refl s with } (phaseKept_refreshDemands _)
  unfold acceptIgnition
  split
  · split
    · exact hgau _
    · exact phaseKept_refreshDemands s
  · exact hgau _

theorem phaseKept_tick (s : State) : PhaseKept s (tick s) := by
  unfold tick
  split
  · exact .refl s
  · refine { PhaseKept.refl s with idle := ?_ }
    dsimp only
    cases s.fls.phase <;> simp [Phase.tick]

/-- A property `P` of the Flasher, the flash-present indication and the mode that the Flasher's start and stop bring about
wherever `R`, a property of the Flasher alone, holds. -/
structure PhaseLaw (P R : State → Prop) : Prop where
  kept : ∀ {s t}, PhaseKept s t → P s → P t
  weak : ∀ {s}, P s → R s
  flasher : ∀ {s t : State}, (t.fls.phase = .idle ↔ s.fls.phase = .idle) → t.fls.fast = s.fls.fast →
    t.fls.failed = s.fls.failed → R s → R t
  sync : ∀ {s}, R s → P (syncFlasher s)
  judged : ∀ {s t}, LampsJudged s t → P s → P t
  reset : ∀ cause s, P (resetState cause s)

namespace PhaseLaw

variable {P R : State → Prop} (law : PhaseLaw P R) {s : State}
include law

theorem reindicated (h : R s) : P (indicate (reformFlashSet s)) := by
  have hreformed : R (reformFlashSet s) := law.flasher (s := s) (follow_eq_idle ..) rfl rfl h
  exact law.sync (law.flasher (s := reformFlashSet s) .rfl rfl rfl hreformed)

theorem resolveCircuit (c : Circ) (h : R s) : P (resolveCircuit s c) :=
  law.kept (phaseKept_refreshDemands _) (law.reindicated (law.flasher (s := s) .rfl rfl rfl h))

theorem handOver (v : Vector Bool 16) (h : P s) : P (handOver v s) :=
  keeps_handOver v (fun c _ h => law.resolveCircuit c (law.weak h)) s h

theorem handOver_weak (v : Vector Bool 16) (h : R s) : R (Machine.handOver v s) :=
  keeps_handOver v (fun c _ h => law.weak (law.resolveCircuit c h)) s h

theorem resolveAll (h : R s) : P (resolveAll s) :=
  law.kept (phaseKept_handAllDemands _) (law.reindicated (law.flasher (s := s) .rfl rfl rfl h))

theorem standDown (h : P s) :
    P ((List.finRange 20).foldl (fun s ch => modifyChannel ch Channel.standDown s) s) :=
  Keeps.foldl (fun ch s h => law.kept (phaseKept_modifyChannel ch _ s) h) _ s h

theorem turnOff {gau : Vector Gauge 3} (h : P s) : P { s with gau := gau } := law.kept { PhaseKept.refl s with } h

theorem leaveRun (m : Mode) (h : R s) : P (leaveRun m s) := by
  have habandoned : R (abandonPass { s with mdc := { s.mdc with mode := m } }) := by
    unfold abandonPass
    split
    · exact law.flasher (s := s) .rfl rfl rfl h
    · exact law.handOver_weak _ (law.flasher (s := s) .rfl rfl rfl h)
  exact law.turnOff (law.standDown (law.sync habandoned))

theorem runLaw : RunLaw P where
  same hsame h := law.kept (.of_beside hsame.toBeside) h
  setOp {s} o _ h := law.kept { PhaseKept.refl s with } h
  handed hmove h := law.handOver _ (law.kept (.of_move hmove) h)
  entered {s t} b _ _ hfit h := by
    unfold entered
    refine law.resolveAll (law.flasher ?_ ?_ ?_ (law.weak h)) <;> cases b <;> simp [hfit.fls]

theorem outputLaw : OutputLaw P P where
  toRunLaw := law.runLaw
  weak := law.runLaw
  weaken hbeside _ h := law.kept (.of_beside hbeside) h
  ignition h := law.kept (phaseKept_acceptIgnition _) h
  moved hmove _ h := law.kept (.of_move hmove) h
  taken _ _ hmove _ h := law.kept { PhaseKept.of_move hmove with } h
  ended _ _ hmove _ h := law.handOver _ (law.kept { PhaseKept.of_move hmove with } h)
  left m _ _ h := law.leaveRun m (law.weak h)
  config _ hconf h :=
    law.kept ⟨by rw [hconf.phase], hconf.fast, hconf.failed, hconf.present, hconf.mode⟩ h
  evaluation {s} h := by
    refine law.kept (phaseKept_refreshDemands _) (law.handOver _ (law.kept ?_ h))
    exact PhaseKept.trans (.of_beside (beside_measureStage s)) (.of_move (move_evaluationStages s))
  settings {s} _ _ _ h := law.kept { PhaseKept.refl s with } h
  channel ch _ h := law.kept (phaseKept_modifyChannel ..) h
  judged hjudged h := law.kept (phaseKept_refreshDemands _) (law.judged hjudged h)
  gauged _ hgauged h :=
    law.kept (phaseKept_refreshDemands _)
      (law.kept ⟨by rw [hgauged.fls], by rw [hgauged.fls], by rw [hgauged.fls], by rw [hgauged.crs], by rw [hgauged.mdc]⟩ h)
  heater {s} g _ h := law.kept { PhaseKept.refl s with } h
  lifetime {s} ch h := law.kept { PhaseKept.refl s with } h
  tick h := law.kept (phaseKept_tick _) h
  reset := law.reset

end PhaseLaw

/-! ### The Flasher runs exactly while it has something to flash (R69, R70) -/

theorem reset_idle (cause : ResetCause) (s : State) : (resetState cause s).fls.phase = .idle := rfl

theorem flasherLaw : PhaseLaw FlasherFollows fun _ => True where
  kept hkept h := by rwa [FlasherFollows, ne_eq, hkept.idle, hkept.present, hkept.mode]
  weak _ := trivial
  flasher _ _ _ _ := trivial
  sync _ := syncFlasher_follows _
  judged hjudged h := by rwa [FlasherFollows, ne_eq, hjudged.idle, hjudged.crs, hjudged.mdc]
  reset cause s := iff_of_false (by simp [reset_idle]) (by simp [show (resetState cause s).crs.flashPresent = false from rfl])

/-- An IDLE Flasher has its fast flag and its failed set clear. -/
def Rested (s : State) : Prop := s.fls.phase = .idle → s.fls.fast = false ∧ ∀ ch : Chan, s.fls.failed.get ch = false

theorem restedLaw : PhaseLaw Rested Rested where
  kept hkept h := by
    unfold Rested
    rw [hkept.idle, hkept.fast, hkept.failed]
    exact h
  weak h := h
  flasher hidle hfast hfailed h := by
    unfold Rested
    rw [hidle, hfast, hfailed]
    exact h
  sync {s} h := by
    unfold syncFlasher
    split
    · split
      · exact fun hidle => absurd hidle (ne_idle_of_isLit (isLit_start ..))
      · exact h
    · split
      · exact h
      · exact fun _ => ⟨rfl, fun ch => by simp [Flasher.stop]⟩
  judged hjudged h hidle := by
    have hidle := hjudged.idle.mp hidle
    obtain ⟨hfast, hfailed⟩ := hjudged.standing hidle
    rw [hfast, hfailed]
    exact h hidle
  reset cause s _ := by
    have hfailed : (resetState cause s).fls.failed = tabulate fun _ => false := rfl
    exact ⟨rfl, fun ch => by simp [hfailed]⟩

end Sys2Proof.Machine

/-! PROOFS. The image operation's mode, the resolved states and the demands through a step: the rest of O35's agreement. -/

namespace Sys2Proof.Machine

/-! ### A load is in flight in QUIESCED alone (R186) -/

theorem LoadsQuiesced.of_eq {s t : State} (hop : t.mdc.op = s.mdc.op) (hmode : t.mdc.mode = s.mdc.mode)
    (h : LoadsQuiesced s) : LoadsQuiesced t := by
  rwa [LoadsQuiesced, hop, hmode]

theorem loadsQuiesced_runLaw : RunLaw LoadsQuiesced where
  same hsame h := h.of_eq hsame.op hsame.mode
  setOp _ ho _ := ho
  handed hmove h := h.of_eq (by simp [hmove.mdc]) (by simp [hmove.mdc])
  entered {s t} b hmode hop hfit h := by
    intro hload
    rw [entered_mdc] at hload
    have hload : s.mdc.op = .load := hfit.op ▸ hload
    exact absurd hload (hop (h hload))

theorem loadsQuiesced_law : OutputLaw LoadsQuiesced LoadsQuiesced where
  toRunLaw := loadsQuiesced_runLaw
  weak := loadsQuiesced_runLaw
  weaken hbeside _ h := h.of_eq hbeside.op hbeside.mode
  ignition {s} h := by
    have hmdc : (acceptIgnition s).mdc = s.mdc := by
      unfold acceptIgnition
      split
      · split <;> simp
      · simp
    exact h.of_eq (by rw [hmdc]) (by rw [hmdc])
  moved hmove _ h := h.of_eq (by rw [hmove.mdc]) (by rw [hmove.mdc])
  taken _ _ hmove _ h := h.of_eq (by rw [hmove.mdc]) (by rw [hmove.mdc])
  ended _ _ hmove _ h := h.of_eq (by simp [hmove.mdc]) (by simp [hmove.mdc])
  left {s} m hmode _ h := by
    intro hload
    rw [leaveRun_mdc] at hload
    have := h hload
    rw [hmode] at this
    contradiction
  config _ hconf h := h.of_eq hconf.op hconf.mode
  evaluation h := h.of_eq (by simp [withHandOver]) (by simp [withHandOver])
  settings _ _ _ h := h
  channel _ _ h := h.of_eq (by simp) (by simp)
  judged hjudged h := h.of_eq (by simp [hjudged.mdc]) (by simp [hjudged.mdc])
  gauged _ hgauged h := h.of_eq (by simp [hgauged.mdc]) (by simp [hgauged.mdc])
  heater _ _ h := h
  lifetime _ h := h
  tick {s} h := by
    unfold tick
    split
    · exact h
    · exact h
  reset cause s := by
    intro hload
    have : (resetState cause s).mdc.op = .none := rfl
    rw [this] at hload
    contradiction

/-! ### The circuits stand resolved (R54, R56, R58) -/

/-- A step that leaves everything the resolved states are formed from. -/
structure ResolutionKept (s t : State) : Prop where
  inForce : t.crs.inForce = s.crs.inForce
  resolved : t.crs.resolved = s.crs.resolved
  present : t.crs.flashPresent = s.crs.flashPresent
  flashSet : t.crs.flashSet = s.crs.flashSet
  profile : ∀ ch, (t.chd.get ch).profile = (s.chd.get ch).profile
  resolve : ∀ c, resolve t c = resolve s c
  touched : ∀ c, (t.bde.pass.any fun p => p.touched.get c) = (s.bde.pass.any fun p => p.touched.get c)
  mode : t.mdc.mode = s.mdc.mode

theorem ResolutionFollows.kept {s t : State} (hkept : ResolutionKept s t) (h : ResolutionFollows s) :
    ResolutionFollows t := by
  intro hmode
  obtain ⟨hres, hpresent, hset⟩ := h (hkept.mode ▸ hmode)
  refine ⟨fun c hc => ?_, by rw [hkept.present, hkept.resolved, hpresent], fun ch => ?_⟩
  · rw [hkept.resolved, hkept.resolve, hres c (hkept.touched c ▸ hc)]
  · rw [hkept.flashSet, hset,
      flashes_congr (hkept.profile ch) hkept.inForce fun c _ => by rw [hkept.resolved]]

theorem ResolutionKept.of_aside {s t : State} (haside : Aside s t) (hres : t.crs.resolved = s.crs.resolved)
    (hpresent : t.crs.flashPresent = s.crs.flashPresent) (hset : t.crs.flashSet = s.crs.flashSet) :
    ResolutionKept s t where
  inForce := haside.inForce
  resolved := hres
  present := hpresent
  flashSet := hset
  profile := haside.profile
  resolve := resolve_congr haside.clt haside.inForce
  touched c := by rw [haside.bde]
  mode := haside.mode

theorem ResolutionKept.of_beside {s t : State} (h : Beside s t) : ResolutionKept s t where
  inForce := h.inForce
  resolved := h.resolved
  present := h.present
  flashSet := h.flashSet
  profile ch := by rw [h.chd]
  resolve := resolve_congr h.clt h.inForce
  touched := h.touched
  mode := h.mode

theorem resolutionKept_refreshDemands (s : State) : ResolutionKept s (refreshDemands s) :=
  .of_aside (aside_refreshDemands s) (by simp) (by simp) (by simp)

theorem resolutionFollows_outside_run {s : State} (h : s.mdc.mode ≠ .run) : ResolutionFollows s := fun hmode =>
  absurd hmode h

/-- What the resolution of a circuit sees of what is visible of a slot. -/
def seenOf (c : Circ) : Fin 16 × Circ × ClaimMode × ClaimState → Option (ClaimMode × Nat)
  | (_, circuit, mode, .granted l) => if circuit = c then some (mode, l) else none
  | (_, _, _, .held _) => none

theorem seenOn_eq_visible (s : State) (c : Circ) (i : SlotIx) :
    seenOn s c i = (s.clt.slots.get i).visible.bind (seenOf c) := by
  unfold seenOn Slot.visible claimAt
  cases (s.clt.slots.get i).claim with
  | none => rfl
  | some x =>
    cases hstate : x.state with
    | granted l => by_cases hc : x.circuit = c <;> simp [hc, seenOf, Claim.isHeld, Claim.granted, hstate, Option.filter_some]
    | held r => simp [seenOf, Claim.isHeld, hstate, Option.filter_some]

theorem seenOn_of_other_circuit {s : State} {c : Circ} {i : SlotIx} (h : ∀ x, claimAt s i = some x → x.circuit ≠ c) :
    seenOn s c i = none := by
  unfold seenOn
  cases hx : claimAt s i with
  | none => rfl
  | some x => simp [h x hx, Option.filter_some]

/-- A circuit whose claims none have changed resolves as before. -/
theorem resolve_of_untouched {s t : State} (hin : t.crs.inForce = s.crs.inForce) {c : Circ}
    (hc : (touchedCircuits s.clt t.clt).get c = false) : resolve t c = resolve s c := by
  refine resolve_of_seenOn hin fun i => ?_
  simp only [touchedCircuits, tabulate_get, decide_eq_false_iff_not, List.mem_flatMap, List.mem_finRange, true_and,
    not_exists] at hc
  have hslot := hc i
  unfold slotTouched at hslot
  split at hslot
  · next hvisible => rw [seenOn_eq_visible, seenOn_eq_visible, hvisible]
  · simp only [List.mem_append, Option.mem_toList, Option.map_eq_some_iff, not_or, not_exists, not_and] at hslot
    rw [seenOn_of_other_circuit fun x hx => hslot.2 x hx, seenOn_of_other_circuit fun x hx => hslot.1 x hx]

/-! #### A hand-over -/

/-- The flash-present indication and the flash set follow the resolved states (R56, R58). -/
def FlashFollows (s : State) : Prop :=
  (s.crs.flashPresent = s.crs.resolved.toList.any fun r => r = .flashing)
    ∧ ∀ ch : Chan, s.crs.flashSet.get ch = flashes s ch

theorem flashFollows_indicate (s : State) : FlashFollows (indicate (reformFlashSet s)) := by
  refine ⟨?_, fun ch => ?_⟩
  · rw [indicate_resolved]
    unfold indicate syncFlasher
    dsimp only
    split
    · split <;> rfl
    · split <;> rfl
  · rw [indicate_flashSet, reformFlashSet_member]
    refine (flashes_congr ?_ (by simp) fun c _ => ?_).symm
    · simp only [indicate, syncFlasher_chd]
      rw [chd_reformFlashSet]
      split <;> rfl
    · rw [indicate_resolved, reformFlashSet_resolved]

theorem FlashFollows.kept {s t : State} (hkept : ResolutionKept s t) (h : FlashFollows s) : FlashFollows t :=
  ⟨by rw [hkept.present, hkept.resolved, h.1], fun ch => by
    rw [hkept.flashSet, h.2,
      flashes_congr (hkept.profile ch) hkept.inForce fun c _ => by rw [hkept.resolved]]⟩

theorem flashFollows_resolveCircuit (s : State) (c : Circ) : FlashFollows (resolveCircuit s c) :=
  (flashFollows_indicate _).kept (resolutionKept_refreshDemands _)

/-- After a hand-over the circuits that it names stand resolved from the claims, and the others as they stood. -/
theorem resolutionFollows_handOver {s : State} {v : Vector Bool 16} (hflash : s.mdc.mode = .run → FlashFollows s)
    (hres : s.mdc.mode = .run → ∀ c, (s.bde.pass.any fun p => p.touched.get c) = false → v.get c = false →
      s.crs.resolved.get c = resolve s c) : ResolutionFollows (handOver v s) := by
  intro hmode
  rw [handOver_mdc] at hmode
  have hflash' : FlashFollows (handOver v s) :=
    keeps_handOver v (fun c s _ => flashFollows_resolveCircuit s c) s (hflash hmode)
  refine ⟨fun c hc => ?_, hflash'⟩
  rw [handOver_bde] at hc
  rw [handOver_resolved, resolve_congr (handOver_clt v s) (handOver_inForce v s)]
  split
  · rfl
  · next hv => exact hres hmode c hc (by simpa using hv)

/-- Every circuit stands resolved from its claims; nothing has followed it yet. -/
def allResolved (s : State) : State := { s with crs := { s.crs with resolved := tabulate fun c => resolve s c } }

theorem resolveAll_eq (s : State) : resolveAll s = handAllDemands (indicate (reformFlashSet (allResolved s))) := rfl

theorem resolveAll_resolved (s : State) (c : Circ) : (resolveAll s).crs.resolved.get c = resolve s c := by
  rw [resolveAll_eq, handAllDemands_crs, indicate_resolved, reformFlashSet_resolved, allResolved, tabulate_get]

theorem resolutionFollows_resolveAll (s : State) : ResolutionFollows (resolveAll s) := by
  intro _
  have hcrs := handAllDemands_crs (indicate (reformFlashSet (allResolved s)))
  have hkept : ResolutionKept (indicate (reformFlashSet (allResolved s))) (resolveAll s) :=
    .of_aside (aside_handAllDemands _) (congrArg Resolver.resolved hcrs) (congrArg Resolver.flashPresent hcrs)
      (congrArg Resolver.flashSet hcrs)
  refine ⟨fun c _ => ?_, (flashFollows_indicate _).kept hkept⟩
  rw [resolveAll_resolved, resolve_congr (resolveAll_clt s) (resolveAll_inForce s)]

theorem resolutionFollows_entered (b : Bool) (s : State) : ResolutionFollows (entered b s) := by
  unfold entered
  dsimp only
  generalize restartGauges _ = u
  exact resolutionFollows_resolveAll u

theorem resolutionFollows_handed {s t : State} (hmove : ClaimsMove s t) (h : ResolutionFollows s) :
    ResolutionFollows (handOver (touchedCircuits s.clt t.clt) t) := by
  have hrun (hmode : t.mdc.mode = .run) := h (hmove.mdc ▸ hmode)
  refine resolutionFollows_handOver (fun hmode => ?_) fun hmode c hc hv => ?_
  · obtain ⟨-, hpresent, hset⟩ := hrun hmode
    exact ⟨by rw [hmove.crs, hpresent], fun ch => by
      rw [hmove.crs, hset]
      exact (flashes_congr (by rw [hmove.chd]) (by rw [hmove.crs]) fun c _ => by rw [hmove.crs]).symm⟩
  · rw [hmove.pass] at hc
    rw [hmove.crs, resolve_of_untouched (by rw [hmove.crs]) hv]
    exact (hrun hmode).1 c hc

theorem resolutionFollows_moved {s t : State} (hmove : ClaimsMove s t) (hres : ∀ c, resolve t c = resolve s c)
    (htouched : ∀ c, (t.bde.pass.any fun p => p.touched.get c) = (s.bde.pass.any fun p => p.touched.get c))
    (h : ResolutionFollows s) : ResolutionFollows t :=
  h.kept ⟨by rw [hmove.crs], by rw [hmove.crs], by rw [hmove.crs], by rw [hmove.crs], fun ch => by rw [hmove.chd], hres,
    htouched, by rw [hmove.mdc]⟩

theorem resolutionKept_acceptIgnition (s : State) : ResolutionKept s (acceptIgnition s) := by
  have hgau (gau : Vector Gauge 3) : ResolutionKept s (refreshDemands { s with gau := gau }) := by
    have hkept := resolutionKept_refreshDemands { s with gau := gau }
    exact { hkept with }
  unfold acceptIgnition
  split
  · split
    · exact hgau _
    · exact resolutionKept_refreshDemands s
  · exact hgau _

theorem flashFollows_moved {s t : State} (hmove : ClaimsMove s t) (h : FlashFollows s) : FlashFollows t :=
  ⟨by rw [hmove.crs, h.1], fun ch => by
    rw [hmove.crs, h.2]
    exact (flashes_congr (by rw [hmove.chd]) (by rw [hmove.crs]) fun c _ => by rw [hmove.crs]).symm⟩

/-- A circuit that a pass has not yet touched once it has taken a binding stands resolved. -/
theorem resolved_of_untouched {s t : State} {p q : Pass} (hp : s.bde.pass = some p) (hmove : ClaimsMove s t)
    (htouch : Touches s t p q) (hmode : s.mdc.mode = .run) (h : ResolutionFollows s) {c : Circ}
    (hc : q.touched.get c = false) : t.crs.resolved.get c = resolve t c := by
  rw [htouch, Bool.or_eq_false_iff] at hc
  rw [hmove.crs, resolve_of_untouched (by rw [hmove.crs]) hc.2]
  exact (h hmode).1 c (by simp [hp, hc.1])

theorem resolutionFollows_taken {s t : State} {p q : Pass} (hp : s.bde.pass = some p) (hmove : ClaimsMove s t)
    (htouch : Touches s t p q) (hmode : s.mdc.mode = .run) (h : ResolutionFollows s) :
    ResolutionFollows { t with bde := { t.bde with pass := some q } } := by
  intro _
  obtain ⟨hpresent, hset⟩ := flashFollows_moved hmove (h hmode).2
  refine ⟨fun c hc => ?_, hpresent, hset⟩
  exact resolved_of_untouched hp hmove htouch hmode h (by simpa using hc)

theorem resolutionFollows_ended {s t : State} {p q : Pass} (hp : s.bde.pass = some p) (hmove : ClaimsMove s t)
    (htouch : Touches s t p q) (hmode : s.mdc.mode = .run) (h : ResolutionFollows s) :
    ResolutionFollows (handOver q.touched { t with bde := { t.bde with pass := none } }) := by
  refine resolutionFollows_handOver (fun _ => ?_) fun _ c _ hc => resolved_of_untouched hp hmove htouch hmode h hc
  obtain ⟨hpresent, hset⟩ := flashFollows_moved hmove (h hmode).2
  exact ⟨hpresent, hset⟩

theorem withHandOver_eq (f : State → State) (s : State) :
    withHandOver f s = handOver (touchedCircuits s.clt (f s).clt) (f s) := rfl

theorem resolutionFollows_evaluation {s : State} (h : ResolutionFollows s) :
    ResolutionFollows (refreshDemands (withHandOver evaluationStages s)) := by
  have hbeside := beside_measureStage s
  have hhanded := resolutionFollows_handed (move_evaluationStages s) (h.kept (.of_beside hbeside))
  rw [hbeside.clt, ← withHandOver_eq] at hhanded
  generalize withHandOver evaluationStages s = t at hhanded ⊢
  exact hhanded.kept (resolutionKept_refreshDemands t)

theorem resolutionKept_modifyChannel (ch : Chan) {f : Channel → Channel} (hf : ∀ c, (f c).profile = c.profile) (s : State) :
    ResolutionKept s (modifyChannel ch f s) :=
  .of_aside (aside_modifyChannel hf ch s) (by simp) (by simp) (by simp)

theorem ChannelStep.profile {run : Bool} {c : Channel} {f : Channel → Channel} (h : ChannelStep run c f) (x : Channel) :
    (f x).profile = x.profile := by
  cases h with
  | record _ threshold reading => exact record_profile ..
  | trip _ kind => exact trip_profile ..
  | endPeriod => exact endPeriod_profile ..
  | rampStep => exact rampStep_profile ..
  | endInrush => exact endInrush_profile ..
  | forgive => exact forgive_profile ..
  | endBackOff => exact endBackOff_profile ..
  | restore => exact restore_profile ..

theorem LampsJudged.resolutionKept {s t : State} (h : LampsJudged s t) : ResolutionKept s t where
  inForce := by rw [h.crs]
  resolved := by rw [h.crs]
  present := by rw [h.crs]
  flashSet := by rw [h.crs]
  profile ch := by
    obtain ⟨_, _, _, hc⟩ := h.chd ch
    rw [hc]
  resolve := resolve_congr h.clt (by rw [h.crs])
  touched c := by rw [h.bde]
  mode := by rw [h.mdc]

theorem Gauged.resolutionKept {s t : State} (h : Gauged s t) : ResolutionKept s t where
  inForce := by rw [h.crs]
  resolved := by rw [h.crs]
  present := by rw [h.crs]
  flashSet := by rw [h.crs]
  profile ch := by rw [h.chd]
  resolve := resolve_congr h.clt (by rw [h.crs])
  touched c := by rw [h.bde]
  mode := by rw [h.mdc]

/-- A load in flight, or a mode other than RUN, keeps out of RUN. -/
theorem not_run_of_load {s : State} (hload : s.mdc.mode = .run → s.mdc.op = .load) (h : LoadsQuiesced s) :
    s.mdc.mode ≠ .run := by
  intro hmode
  have hquiet := h (hload hmode)
  rw [hmode] at hquiet
  contradiction

theorem resolutionKept_tick (s : State) : ResolutionKept s (tick s) := by
  have hbeside (f : Flasher) (chd : Vector Channel 20) (mdc : ModeControl) (hmode : mdc.mode = s.mdc.mode)
      (hchd : ∀ ch, (chd.get ch).profile = (s.chd.get ch).profile) :
      ResolutionKept s { s with fls := f, chd := chd, mdc := mdc } :=
    ⟨rfl, rfl, rfl, rfl, hchd, fun c => resolve_congr rfl rfl c, fun _ => rfl, hmode⟩
  unfold tick
  split
  · exact .of_beside (.refl s)
  · exact hbeside _ _ _ rfl fun ch => by simp [Channel.tick]

theorem resolutionFollows_runLaw : RunLaw fun s => ResolutionFollows s ∧ LoadsQuiesced s where
  same hsame h := ⟨h.1.kept (.of_beside hsame.toBeside), loadsQuiesced_law.same hsame h.2⟩
  setOp o ho h := ⟨h.1.kept ⟨rfl, rfl, rfl, rfl, fun _ => rfl, fun c => resolve_congr rfl rfl c, fun _ => rfl, rfl⟩,
    loadsQuiesced_law.setOp o ho h.2⟩
  handed hmove h := ⟨resolutionFollows_handed hmove h.1, loadsQuiesced_law.handed hmove h.2⟩
  entered b hmode hop hfit h := ⟨resolutionFollows_entered b _, loadsQuiesced_law.entered b hmode hop hfit h.2⟩

theorem resolutionFollows_law : OutputLaw (fun s => ResolutionFollows s ∧ LoadsQuiesced s)
    fun s => ResolutionFollows s ∧ LoadsQuiesced s where
  toRunLaw := resolutionFollows_runLaw
  weak := resolutionFollows_runLaw
  weaken hbeside hcharging h := ⟨h.1.kept (.of_beside hbeside), loadsQuiesced_law.weaken hbeside hcharging h.2⟩
  ignition h := ⟨h.1.kept (resolutionKept_acceptIgnition _), loadsQuiesced_law.ignition h.2⟩
  moved hmove hres h :=
    ⟨resolutionFollows_moved hmove hres (fun c => by rw [hmove.pass]) h.1, loadsQuiesced_law.moved hmove hres h.2⟩
  taken hmode hp hmove htouch h :=
    ⟨resolutionFollows_taken hp hmove htouch hmode h.1, loadsQuiesced_law.taken hmode hp hmove htouch h.2⟩
  ended hmode hp hmove htouch h :=
    ⟨resolutionFollows_ended hp hmove htouch hmode h.1, loadsQuiesced_law.ended hmode hp hmove htouch h.2⟩
  left m hmode hm h := ⟨resolutionFollows_outside_run (by simpa using hm), loadsQuiesced_law.left m hmode hm h.2⟩
  config hload hconf h :=
    ⟨resolutionFollows_outside_run (by rw [hconf.mode]; exact not_run_of_load hload h.2),
      loadsQuiesced_law.config hload hconf h.2⟩
  evaluation h := ⟨resolutionFollows_evaluation h.1, loadsQuiesced_law.evaluation h.2⟩
  settings {s} rate ticker pulse h :=
    ⟨h.1.kept ⟨rfl, rfl, rfl, rfl, fun _ => rfl, fun c => resolve_congr rfl rfl c, fun _ => rfl, rfl⟩, h.2⟩
  channel ch hf h := ⟨h.1.kept (resolutionKept_modifyChannel ch hf.profile _), loadsQuiesced_law.channel ch hf h.2⟩
  judged hjudged h :=
    ⟨(h.1.kept hjudged.resolutionKept).kept (resolutionKept_refreshDemands _), loadsQuiesced_law.judged hjudged h.2⟩
  gauged hmode hgauged h :=
    ⟨(h.1.kept hgauged.resolutionKept).kept (resolutionKept_refreshDemands _), loadsQuiesced_law.gauged hmode hgauged h.2⟩
  heater g hmode h :=
    ⟨h.1.kept ⟨rfl, rfl, rfl, rfl, fun _ => rfl, fun c => resolve_congr rfl rfl c, fun _ => rfl, rfl⟩,
      loadsQuiesced_law.heater g hmode h.2⟩
  lifetime {s} ch h := by
    refine ⟨ResolutionFollows.kept (s := s)
      ⟨rfl, rfl, rfl, rfl, fun k => ?_, fun c => resolve_congr rfl rfl c, fun _ => rfl, rfl⟩ h.1,
      loadsQuiesced_law.lifetime ch h.2⟩
    simp only [upd_get]
    split
    · next hk => rw [hk]
    · rfl
  tick h := ⟨h.1.kept (resolutionKept_tick _), loadsQuiesced_law.tick h.2⟩
  reset cause s := ⟨resolutionFollows_outside_run (by simp [show (resetState cause s).mdc.mode = .loading from rfl]),
    loadsQuiesced_law.reset cause s⟩

end Sys2Proof.Machine

/-! PROOFS. The demands of the channels through a step: the rest of O35's agreement. -/

namespace Sys2Proof.Machine

/-- Two states alike in all that the demands are formed from. -/
structure DemandRead (s t : State) : Prop where
  mode : t.mdc.mode = s.mdc.mode
  inForce : t.crs.inForce = s.crs.inForce
  resolved : t.crs.resolved = s.crs.resolved
  lit : t.fls.phase.isLit = s.fls.phase.isLit
  profile : ∀ ch, (t.chd.get ch).profile = (s.chd.get ch).profile
  openLoad : ∀ ch, (t.chd.get ch).openLoadFlag = (s.chd.get ch).openLoadFlag
  ignition : acceptedCode t ign = acceptedCode s ign
  charging : t.sbu.charging = s.sbu.charging
  filtered : ∀ g, (t.gau.get g).filtered = (s.gau.get g).filtered

namespace DemandRead

variable {s t u : State}

theorem refl (s : State) : DemandRead s s := ⟨rfl, rfl, rfl, rfl, fun _ => rfl, fun _ => rfl, rfl, rfl, fun _ => rfl⟩

theorem trans (h : DemandRead s t) (h' : DemandRead t u) : DemandRead s u :=
  ⟨h'.mode.trans h.mode, h'.inForce.trans h.inForce, h'.resolved.trans h.resolved, h'.lit.trans h.lit,
    fun ch => (h'.profile ch).trans (h.profile ch), fun ch => (h'.openLoad ch).trans (h.openLoad ch),
    h'.ignition.trans h.ignition, h'.charging.trans h.charging, fun g => (h'.filtered g).trans (h.filtered g)⟩

theorem lampDemand (h : DemandRead s t) (ch : Chan) : lampDemand t ch = lampDemand s ch :=
  lampDemand_congr h.inForce (fun c _ => by rw [h.resolved]) fun _ => h.lit

theorem sourceLit (h : DemandRead s t) (src : TellSource) : sourceLit t src = sourceLit s src := by
  cases src with
  | circuit c =>
    simp only [Machine.sourceLit, h.resolved, h.lit]
  | flash => exact h.lit
  | charge => simp only [Machine.sourceLit, ignitionOn, h.ignition, h.charging]
  | gaugeHigh g threshold => simp only [Machine.sourceLit, h.filtered]
  | openLoad =>
    rw [Bool.eq_iff_iff]
    simp only [Machine.sourceLit, any_toList_iff, h.profile, h.openLoad]

theorem channelDemand (h : DemandRead s t) (ch : Chan) : channelDemand t ch = channelDemand s ch := by
  unfold Machine.channelDemand
  simp only [h.mode, h.profile, h.lampDemand, h.sourceLit]

end DemandRead

/-! ### Every demand recomputed (R56) -/

theorem demandRead_handDemand (ch : Chan) (d : Nat) (s : State) : DemandRead s (handDemand ch d s) where
  mode := by simp
  inForce := by simp
  resolved := by simp
  lit := by
    unfold handDemand modifyChannel
    dsimp only
    split
    · rfl
    · exact isLit_modifyCheck ..
  profile k := by
    rw [chd_handDemand]
    split
    · next hk => rw [takeDemand_profile, hk]
    · rfl
  openLoad k := by
    rw [chd_handDemand]
    split
    · next hk => rw [takeDemand_openLoadFlag, hk]
    · rfl
  ignition := by simp [acceptedCode]
  charging := by simp
  filtered g := by simp

theorem demandRead_refreshDemand (s : State) (ch : Chan) : DemandRead s (refreshDemand s ch) := by
  unfold refreshDemand
  dsimp only
  split
  · exact .refl s
  · exact demandRead_handDemand ..

/-- A channel's demand once it has been recomputed, and while others are. -/
theorem refreshDemand_demand (s : State) (ch k : Chan) : ((refreshDemand s ch).chd.get k).demand
    = if ch = k then channelDemand s k else (s.chd.get k).demand := by
  unfold refreshDemand
  dsimp only
  by_cases hk : ch = k
  · subst hk
    rw [if_pos rfl]
    split
    · next hd => exact hd.symm
    · rw [chd_handDemand, if_pos rfl, takeDemand_demand]
  · rw [if_neg hk]
    split
    · rfl
    · rw [chd_handDemand, if_neg hk]

theorem foldl_refreshDemand (cs : List Chan) (s : State) :
    DemandRead s (cs.foldl refreshDemand s)
      ∧ ∀ k, ((cs.foldl refreshDemand s).chd.get k).demand = if k ∈ cs then channelDemand s k else (s.chd.get k).demand := by
  induction cs generalizing s with
  | nil => exact ⟨.refl s, fun k => by simp⟩
  | cons c cs ih =>
    have hread := demandRead_refreshDemand s c
    obtain ⟨hread', hdemand⟩ := ih (refreshDemand s c)
    refine ⟨hread.trans hread', fun k => ?_⟩
    rw [List.foldl_cons, hdemand, hread.channelDemand, refreshDemand_demand]
    by_cases hk : k ∈ cs
    · simp [hk]
    · by_cases hc : c = k
      · subst hc; simp
      · simp [hk, hc, Ne.symm hc]

theorem demandRead_refreshDemands (s : State) : DemandRead s (refreshDemands s) := (foldl_refreshDemand _ s).1

/-- Every channel stands at its demand once all are recomputed. -/
theorem demandsFollow_refreshDemands (s : State) : DemandsFollow (refreshDemands s) := by
  intro k
  obtain ⟨hread, hdemand⟩ := foldl_refreshDemand (List.finRange 20) s
  rw [refreshDemands, hdemand, hread.channelDemand, if_pos (List.mem_finRange k)]

theorem foldl_handDemand (cs : List Chan) (s : State) :
    DemandRead s (cs.foldl (fun s ch => handDemand ch (channelDemand s ch) s) s)
      ∧ ∀ k, ((cs.foldl (fun s ch => handDemand ch (channelDemand s ch) s) s).chd.get k).demand
          = if k ∈ cs then channelDemand s k else (s.chd.get k).demand := by
  induction cs generalizing s with
  | nil => exact ⟨.refl s, fun k => by simp⟩
  | cons c cs ih =>
    have hread := demandRead_handDemand c (channelDemand s c) s
    obtain ⟨hread', hdemand⟩ := ih (handDemand c (channelDemand s c) s)
    refine ⟨hread.trans hread', fun k => ?_⟩
    rw [List.foldl_cons, hdemand, hread.channelDemand, chd_handDemand]
    by_cases hk : k ∈ cs
    · simp [hk]
    · by_cases hc : c = k
      · subst hc; simp
      · simp [hk, hc, Ne.symm hc]

theorem demandsFollow_handAllDemands (s : State) : DemandsFollow (handAllDemands s) := by
  intro k
  obtain ⟨hread, hdemand⟩ := foldl_handDemand (List.finRange 20) s
  rw [handAllDemands, hdemand, hread.channelDemand, if_pos (List.mem_finRange k)]

/-! ### The demands through a step -/

theorem DemandsFollow.read {s t : State} (hread : DemandRead s t)
    (hdemand : ∀ ch, (t.chd.get ch).demand = (s.chd.get ch).demand) (h : DemandsFollow s) : DemandsFollow t := fun ch => by
  rw [hdemand, h, hread.channelDemand]

theorem demandRead_of_move {s t : State} (h : ClaimsMove s t) : DemandRead s t where
  mode := by rw [h.mdc]
  inForce := by rw [h.crs]
  resolved := by rw [h.crs]
  lit := by rw [h.fls]
  profile ch := by rw [h.chd]
  openLoad ch := by rw [h.chd]
  ignition := by rw [acceptedCode, h.sws, acceptedCode]
  charging := h.charging
  filtered g := by rw [h.gau]

theorem DemandsFollow.moved {s t : State} (hmove : ClaimsMove s t) (h : DemandsFollow s) : DemandsFollow t :=
  h.read (demandRead_of_move hmove) fun ch => by rw [hmove.chd]

theorem DemandsFollow.same {s t : State} (hsame : Same s t) (h : DemandsFollow s) : DemandsFollow t :=
  h.read ⟨hsame.mode, hsame.inForce, hsame.resolved, by rw [hsame.fls], fun ch => by rw [hsame.chd],
    fun ch => by rw [hsame.chd], hsame.ignition, hsame.charging, fun g => (hsame.gauge g).2.2.2⟩ fun ch => by rw [hsame.chd]

theorem demandsFollow_handOver (v : Vector Bool 16) {s : State} (h : DemandsFollow s) : DemandsFollow (handOver v s) :=
  keeps_handOver v (fun _ _ _ => demandsFollow_refreshDemands _) s h

theorem demandsFollow_entered (b : Bool) (s : State) : DemandsFollow (entered b s) := by
  unfold entered
  dsimp only
  generalize restartGauges _ = u
  exact demandsFollow_handAllDemands _

theorem demandsFollow_acceptIgnition (s : State) : DemandsFollow (acceptIgnition s) := by
  unfold acceptIgnition
  split
  · split
    · exact demandsFollow_refreshDemands _
    · exact demandsFollow_refreshDemands _
  · exact demandsFollow_refreshDemands _

/-- Outside RUN every channel stands at demand 0 (R62). -/
theorem demandsFollow_iff_outside_run {s : State} (h : s.mdc.mode ≠ .run) :
    DemandsFollow s ↔ ∀ ch, (s.chd.get ch).demand = 0 :=
  forall_congr' fun _ => by rw [channelDemand_outside_run h]

/-! #### Leaving RUN -/

theorem foldl_modifyChannel_get (f : Channel → Channel) (cs : List Chan) (hcs : cs.Nodup) (s : State) (k : Chan) :
    ((cs.foldl (fun s ch => modifyChannel ch f s) s).chd.get k)
      = if k ∈ cs then f (s.chd.get k) else s.chd.get k := by
  induction cs generalizing s with
  | nil => simp
  | cons c cs ih =>
    obtain ⟨hc, hcs⟩ := List.nodup_cons.mp hcs
    rw [List.foldl_cons, ih hcs, chd_modifyChannel]
    by_cases hk : c = k
    · subst hk; simp [hc]
    · simp [hk, Ne.symm hk]

/-- Every channel stands down as the mode leaves RUN, from its record once a running pass has been abandoned. -/
theorem leaveRun_chd (m : Mode) (s : State) (k : Chan) : (leaveRun m s).chd.get k
    = ((abandonPass { s with mdc := { s.mdc with mode := m } }).chd.get k).standDown := by
  simp only [leaveRun]
  rw [foldl_modifyChannel_get _ _ (List.nodup_finRange 20), if_pos (List.mem_finRange k), syncFlasher_chd]

theorem standDown_demand (c : Channel) : c.standDown.demand = 0 := by
  unfold Channel.standDown
  dsimp only
  split <;> simp

theorem demandsFollow_leaveRun {m : Mode} (hm : m ≠ .run) (s : State) : DemandsFollow (leaveRun m s) := by
  rw [demandsFollow_iff_outside_run (by simpa using hm)]
  exact fun ch => by rw [leaveRun_chd, standDown_demand]

/-! #### The channels' own events -/

theorem ChannelStep.demand {run : Bool} {c : Channel} {f : Channel → Channel} (h : ChannelStep run c f) (x : Channel) :
    (f x).demand = x.demand ∧ (f x).openLoadFlag = x.openLoadFlag := by
  cases h with
  | record _ threshold reading => exact ⟨rfl, rfl⟩
  | trip _ kind => exact ⟨rfl, rfl⟩
  | endPeriod =>
    unfold Channel.endPeriod
    split
    · split
      · dsimp only
        split <;> exact ⟨rfl, rfl⟩
      all_goals exact ⟨rfl, rfl⟩
    · exact ⟨rfl, rfl⟩
  | rampStep =>
    unfold Channel.rampStep
    split
    · dsimp only
      split <;> exact ⟨rfl, rfl⟩
    · exact ⟨rfl, rfl⟩
  | endInrush =>
    unfold Channel.endInrush
    split
    · split <;> exact ⟨rfl, rfl⟩
    all_goals exact ⟨rfl, rfl⟩
  | forgive =>
    unfold Channel.forgive
    split <;> exact ⟨rfl, rfl⟩
  | endBackOff =>
    unfold Channel.endBackOff
    split
    · dsimp only
      split <;> simp
    all_goals exact ⟨rfl, rfl⟩
  | restore =>
    unfold Channel.restore
    dsimp only
    split
    · split <;> simp
    all_goals exact ⟨rfl, rfl⟩

theorem demandsFollow_channel {s : State} {f : Channel → Channel} (ch : Chan)
    (hf : ChannelStep (s.mdc.mode == .run) (s.chd.get ch) f) (h : DemandsFollow s) :
    DemandsFollow (modifyChannel ch f s) := by
  have hget (k : Chan) : ((modifyChannel ch f s).chd.get k).demand = (s.chd.get k).demand
      ∧ ((modifyChannel ch f s).chd.get k).openLoadFlag = (s.chd.get k).openLoadFlag
      ∧ ((modifyChannel ch f s).chd.get k).profile = (s.chd.get k).profile := by
    rw [chd_modifyChannel]
    split
    · next hk =>
      subst hk
      exact ⟨(hf.demand _).1, (hf.demand _).2, hf.profile _⟩
    · exact ⟨rfl, rfl, rfl⟩
  refine h.read ⟨by simp, by simp, by simp, ?_, fun k => (hget k).2.2, fun k => (hget k).2.1, by simp [acceptedCode],
    by simp, by simp⟩ fun k => (hget k).1
  unfold modifyChannel
  dsimp only
  split
  · rfl
  · exact isLit_modifyCheck ..

/-- What the passing of a millisecond leaves a channel. -/
theorem tick_kept (s : State) (k : Chan) :
    ((tick s).chd.get k).demand = (s.chd.get k).demand
      ∧ ((tick s).chd.get k).profile = (s.chd.get k).profile
      ∧ ((tick s).chd.get k).openLoadFlag = (s.chd.get k).openLoadFlag := by
  unfold tick
  split
  · exact ⟨rfl, rfl, rfl⟩
  · dsimp only
    rw [tabulate_get]
    exact ⟨rfl, rfl, rfl⟩

theorem tick_beside (s : State) : (tick s).mdc.mode = s.mdc.mode ∧ (tick s).crs = s.crs ∧ (tick s).sbu = s.sbu
    ∧ (tick s).gau = s.gau ∧ (tick s).sws = s.sws ∧ (tick s).clt = s.clt := by
  unfold tick
  split <;> exact ⟨rfl, rfl, rfl, rfl, rfl, rfl⟩

theorem tick_isLit (s : State) : (tick s).fls.phase.isLit = s.fls.phase.isLit := by
  unfold tick
  split
  · rfl
  · dsimp only
    cases s.fls.phase <;> rfl

theorem demandsFollow_tick {s : State} (h : DemandsFollow s) : DemandsFollow (tick s) := by
  obtain ⟨hmode, hcrs, hsbu, hgau, hsws, -⟩ := tick_beside s
  refine h.read ⟨hmode, by rw [hcrs], by rw [hcrs], tick_isLit s, fun k => (tick_kept s k).2.1,
    fun k => (tick_kept s k).2.2, ?_, by rw [hsbu], fun g => by rw [hgau]⟩ fun k => (tick_kept s k).1
  unfold acceptedCode
  rw [hsws]

theorem demandsFollow_reset (cause : ResetCause) (s : State) : DemandsFollow (resetState cause s) := by
  have hmode : (resetState cause s).mdc.mode = .loading := rfl
  have hchd : (resetState cause s).chd = tabulate fun ch => resetChannel (defaultProfile ch) := rfl
  rw [demandsFollow_iff_outside_run (by simp [hmode])]
  exact fun ch => by rw [hchd, tabulate_get]; rfl

theorem demandsFollow_config {s t : State} (hmode : s.mdc.mode ≠ .run) (hconf : Reconfigured s t) (h : DemandsFollow s) :
    DemandsFollow t := by
  rw [demandsFollow_iff_outside_run hmode] at h
  rw [demandsFollow_iff_outside_run (by rwa [hconf.mode])]
  intro ch
  obtain ⟨p, b, hch⟩ := hconf.chd ch
  rw [hch]
  exact h ch

theorem demandsFollow_runLaw : RunLaw fun s => DemandsFollow s ∧ LoadsQuiesced s where
  same hsame h := ⟨h.1.same hsame, loadsQuiesced_law.same hsame h.2⟩
  setOp o ho h := ⟨h.1.read ⟨rfl, rfl, rfl, rfl, fun _ => rfl, fun _ => rfl, rfl, rfl, fun _ => rfl⟩ fun _ => rfl,
    loadsQuiesced_law.setOp o ho h.2⟩
  handed hmove h := ⟨demandsFollow_handOver _ (h.1.moved hmove), loadsQuiesced_law.handed hmove h.2⟩
  entered b hmode hop hfit h := ⟨demandsFollow_entered b _, loadsQuiesced_law.entered b hmode hop hfit h.2⟩

theorem demandsFollow_law : OutputLaw (fun s => DemandsFollow s ∧ LoadsQuiesced s) LoadsQuiesced where
  toRunLaw := demandsFollow_runLaw
  weak := loadsQuiesced_runLaw
  weaken hbeside hcharging h := loadsQuiesced_law.weaken hbeside hcharging h.2
  ignition h := ⟨demandsFollow_acceptIgnition _, loadsQuiesced_law.ignition h⟩
  moved hmove hres h := ⟨h.1.moved hmove, loadsQuiesced_law.moved hmove hres h.2⟩
  taken hmode hp hmove htouch h := by
    refine ⟨?_, loadsQuiesced_law.taken hmode hp hmove htouch h.2⟩
    exact (h.1.moved hmove).read ⟨rfl, rfl, rfl, rfl, fun _ => rfl, fun _ => rfl, rfl, rfl, fun _ => rfl⟩ fun _ => rfl
  ended hmode hp hmove htouch h := by
    refine ⟨demandsFollow_handOver _ ?_, loadsQuiesced_law.ended hmode hp hmove htouch h.2⟩
    exact (h.1.moved hmove).read ⟨rfl, rfl, rfl, rfl, fun _ => rfl, fun _ => rfl, rfl, rfl, fun _ => rfl⟩ fun _ => rfl
  left m hmode hm h := ⟨demandsFollow_leaveRun hm _, loadsQuiesced_law.left m hmode hm h.2⟩
  config hload hconf h :=
    ⟨demandsFollow_config (not_run_of_load hload h.2) hconf h.1, loadsQuiesced_law.config hload hconf h.2⟩
  evaluation h := ⟨demandsFollow_refreshDemands _, loadsQuiesced_law.evaluation h.2⟩
  settings {s} rate ticker pulse h :=
    ⟨h.1.read ⟨rfl, rfl, rfl, rfl, fun _ => rfl, fun _ => rfl, rfl, rfl, fun _ => rfl⟩ fun _ => rfl, h.2⟩
  channel ch hf h := ⟨demandsFollow_channel ch hf h.1, loadsQuiesced_law.channel ch hf h.2⟩
  judged hjudged h := ⟨demandsFollow_refreshDemands _, loadsQuiesced_law.judged hjudged h.2⟩
  gauged hmode hgauged h := ⟨demandsFollow_refreshDemands _, loadsQuiesced_law.gauged hmode hgauged h.2⟩
  heater {s} g hmode h := by
    refine ⟨DemandsFollow.read (s := s) ⟨rfl, rfl, rfl, rfl, fun _ => rfl, fun _ => rfl, rfl, rfl, fun k => ?_⟩
      (fun _ => rfl) h.1, loadsQuiesced_law.heater g hmode h.2⟩
    simp only [upd_get]
    split
    · next hk => rw [hk]
    · rfl
  lifetime {s} ch h := by
    have hget (k : Chan) : ((upd s.chd ch fun c => { c with lifetime := 0 }).get k).demand = (s.chd.get k).demand
        ∧ ((upd s.chd ch fun c => { c with lifetime := 0 }).get k).openLoadFlag = (s.chd.get k).openLoadFlag
        ∧ ((upd s.chd ch fun c => { c with lifetime := 0 }).get k).profile = (s.chd.get k).profile := by
      simp only [upd_get]
      split
      · next hk => rw [hk]; exact ⟨rfl, rfl, rfl⟩
      · exact ⟨rfl, rfl, rfl⟩
    exact ⟨DemandsFollow.read (s := s) ⟨rfl, rfl, rfl, rfl, fun k => (hget k).2.2, fun k => (hget k).2.1, rfl, rfl,
      fun _ => rfl⟩ (fun k => (hget k).1) h.1, loadsQuiesced_law.lifetime ch h.2⟩
  tick h := ⟨demandsFollow_tick h.1, loadsQuiesced_law.tick h.2⟩
  reset cause s := ⟨demandsFollow_reset cause s, loadsQuiesced_law.reset cause s⟩

end Sys2Proof.Machine

/-! PROOFS. The Flasher's start and stop within a step (R69, R70, R71, R79), and O35. -/

namespace Sys2Proof.Machine

/-! ### A Flasher that stands, or has started in this step -/

/-- The Flasher as it stands before a step: what a start in that step begins from. -/
structure Before where
  rate : Nat
  ticker : Bool
  pulse : Option Nat

def State.before (s : State) : Before := ⟨s.fls.rateSet, s.fls.ticker, s.fls.tickPulse⟩

/-- The Flasher is IDLE at the settings of before the step; a pulse may have been given by a start that a stop has
followed. -/
structure Standing (b : Before) (s : State) : Prop where
  idle : s.fls.phase = .idle
  rate : s.fls.rateSet = b.rate
  ticker : s.fls.ticker = b.ticker
  pulse : b.ticker = false → s.fls.tickPulse = b.pulse

/-- The check list of a start: every channel of the flash set PENDING with no time in ON, and no other. -/
def FreshChecks (flashSet : Vector Bool 20) (checks : Vector (Option CheckEntry) 20) : Prop :=
  ∀ ch : Chan, (flashSet.get ch = false → checks.get ch = none)
    ∧ (flashSet.get ch = true → ∃ joined, checks.get ch = some (.pending joined 0))

/-- The Flasher has started within the step. -/
structure Started (b : Before) (s : State) : Prop where
  rate : s.fls.rateSet = b.rate
  ticker : s.fls.ticker = b.ticker
  fast : s.fls.fast = false
  failed : ∀ ch : Chan, s.fls.failed.get ch = false
  pulse : s.fls.tickPulse = if b.ticker then some 4 else b.pulse
  lit : ∃ checks, s.fls.phase = .lit b.rate (60000 / b.rate / 2) checks ∧ FreshChecks s.crs.flashSet checks

def AtStart (b : Before) (s : State) : Prop := Standing b s ∨ Started b s

section
variable {b : Before} {s t : State}

theorem Standing.of_fls (h : Standing b s) (hfls : t.fls = s.fls) : Standing b t :=
  ⟨by rw [hfls, h.idle], by rw [hfls, h.rate], by rw [hfls, h.ticker], by rw [hfls]; exact h.pulse⟩

theorem AtStart.of_fls (h : AtStart b s) (hfls : t.fls = s.fls) (hset : t.crs.flashSet = s.crs.flashSet) :
    AtStart b t := by
  refine h.imp (·.of_fls hfls) fun h => ⟨by rw [hfls, h.rate], by rw [hfls, h.ticker], by rw [hfls, h.fast], ?_,
    by rw [hfls, h.pulse], by rw [hfls, hset]; exact h.lit⟩
  rw [hfls]
  exact h.failed

/-- The check list followed through a change of the phase of a started Flasher. -/
theorem AtStart.of_phase {p : Phase} (hfls : t.fls = { s.fls with phase := p }) (hidle : s.fls.phase = .idle → p = .idle)
    (hlit : ∀ rate n checks, s.fls.phase = .lit rate n checks → FreshChecks s.crs.flashSet checks →
      ∃ checks', p = .lit rate n checks' ∧ FreshChecks t.crs.flashSet checks') (h : AtStart b s) : AtStart b t := by
  obtain h | h := h
  · exact .inl ⟨by rw [hfls]; exact hidle h.idle, by rw [hfls]; exact h.rate, by rw [hfls]; exact h.ticker,
      by rw [hfls]; exact h.pulse⟩
  · obtain ⟨checks, hphase, hfresh⟩ := h.lit
    refine .inr ⟨by rw [hfls]; exact h.rate, by rw [hfls]; exact h.ticker, by rw [hfls]; exact h.fast, ?_,
      by rw [hfls]; exact h.pulse, by rw [hfls]; exact hlit _ _ _ hphase hfresh⟩
    rw [hfls]
    exact h.failed

theorem freshChecks_discard {flashSet : Vector Bool 20} {checks : Vector (Option CheckEntry) 20} (ch : Chan)
    (h : FreshChecks flashSet checks) : FreshChecks flashSet (upd checks ch fun e => e.map CheckEntry.discard) := by
  intro k
  obtain ⟨hout, hin⟩ := h k
  rw [upd_get]
  split
  · next hk =>
    subst hk
    refine ⟨fun hset => by rw [hout hset]; rfl, fun hset => ?_⟩
    obtain ⟨joined, hentry⟩ := hin hset
    exact ⟨joined, by rw [hentry]; rfl⟩
  · exact ⟨hout, hin⟩

theorem freshChecks_follow {old new : Vector Bool 20} {checks : Vector (Option CheckEntry) 20}
    (h : FreshChecks old checks) : FreshChecks new (tabulate fun ch =>
      if new.get ch && !old.get ch then some (.pending true 0)
      else if old.get ch && !new.get ch then none
      else checks.get ch) := by
  intro ch
  obtain ⟨hout, hin⟩ := h ch
  rw [tabulate_get]
  cases hnew : new.get ch <;> cases hold : old.get ch <;> simp_all

theorem AtStart.modifyChannel (ch : Chan) (f : Channel → Channel) (h : AtStart b s) : AtStart b (modifyChannel ch f s) := by
  unfold Machine.modifyChannel
  dsimp only
  split
  · exact h.of_fls rfl rfl
  · refine h.of_phase rfl (fun hidle => (modifyCheck_eq_idle ..).mpr hidle) fun rate n checks hphase hfresh => ?_
    exact ⟨_, by rw [hphase]; rfl, freshChecks_discard ch hfresh⟩

theorem AtStart.refreshDemands (h : AtStart b s) : AtStart b (refreshDemands s) :=
  keeps_refreshDemands (P := AtStart b) (fun _ _ _ h => h.modifyChannel ..) s h

theorem AtStart.handAllDemands (h : AtStart b s) : AtStart b (handAllDemands s) :=
  keeps_handAllDemands (P := AtStart b) (fun _ _ _ h => h.modifyChannel ..) s h

theorem AtStart.reformFlashSet (h : AtStart b s) : AtStart b (reformFlashSet s) := by
  refine h.of_phase (t := Machine.reformFlashSet s) rfl (fun hidle => (follow_eq_idle ..).mpr hidle)
    fun rate n checks hphase hfresh => ?_
  exact ⟨_, by rw [hphase]; rfl, freshChecks_follow hfresh⟩

theorem Standing.start (h : Standing b s) : Started b { s with fls := s.fls.start s.crs.flashSet } := by
  have hfls : s.fls.start s.crs.flashSet = Flasher.pulse { s.fls with
      fast := false, failed := tabulate fun _ => false
      phase := .lit s.fls.rateSet (60000 / s.fls.rateSet / 2)
        (mapTbl (fun x => if x then some (CheckEntry.pending false 0) else none) s.crs.flashSet) } := rfl
  have hticker := h.ticker
  have hfresh : FreshChecks s.crs.flashSet
      (mapTbl (fun x => if x then some (CheckEntry.pending false 0) else none) s.crs.flashSet) := fun ch => by
    rw [mapTbl_get]
    exact ⟨fun hset => by simp [hset], fun hset => ⟨false, by simp [hset]⟩⟩
  unfold Flasher.pulse at hfls
  cases hk : b.ticker <;> rw [hk] at hticker <;> simp only [hticker] at hfls
  · exact ⟨by simp [hfls, h.rate], by simp [hfls, hk], by simp [hfls], by simp [hfls], by simp [hfls, hk, h.pulse hk],
      ⟨_, by simp only [hfls]; rw [h.rate]; rfl, hfresh⟩⟩
  · exact ⟨by simp [hfls, h.rate], by simp [hfls, hk], by simp [hfls], by simp [hfls], by simp [hfls, hk, Config.tickTime],
      ⟨_, by simp only [hfls]; rw [h.rate]; rfl, hfresh⟩⟩

theorem Started.stop (h : Started b s) : Standing b { s with fls := s.fls.stop } :=
  ⟨rfl, h.rate, h.ticker, fun hk => by have := h.pulse; rw [hk] at this; exact this⟩

theorem AtStart.syncFlasher (h : AtStart b s) : AtStart b (syncFlasher s) := by
  unfold Machine.syncFlasher
  split
  · split
    · next hidle =>
      refine .inr (Standing.start ?_)
      refine h.resolve_right fun h => ?_
      obtain ⟨_, hphase, -⟩ := h.lit
      rw [hphase] at hidle
      contradiction
    · exact h
  · split
    · exact h
    · next hidle => exact .inl (h.resolve_left fun h => hidle h.idle).stop

theorem AtStart.indicate (h : AtStart b s) : AtStart b (indicate s) := by
  unfold Machine.indicate
  exact AtStart.syncFlasher (h.of_fls rfl rfl)

theorem AtStart.resolveCircuit (c : Circ) (h : AtStart b s) : AtStart b (resolveCircuit s c) := by
  have hput : AtStart b { s with crs := { s.crs with resolved := put s.crs.resolved c (resolve s c) } } :=
    h.of_fls rfl rfl
  exact hput.reformFlashSet.indicate.refreshDemands

theorem AtStart.resolveAll (h : AtStart b s) : AtStart b (resolveAll s) := by
  rw [resolveAll_eq]
  have hresolved : AtStart b (allResolved s) := h.of_fls rfl rfl
  exact hresolved.reformFlashSet.indicate.handAllDemands

theorem AtStart.handOver (v : Vector Bool 16) (h : AtStart b s) : AtStart b (handOver v s) :=
  keeps_handOver (P := AtStart b) v (fun c _ h => h.resolveCircuit c) s h

theorem AtStart.leaveRun (m : Mode) (h : AtStart b s) : AtStart b (leaveRun m s) := by
  have habandoned : AtStart b (abandonPass { s with mdc := { s.mdc with mode := m } }) := by
    unfold abandonPass
    split
    · exact h.of_fls rfl rfl
    · exact AtStart.handOver _ (h.of_fls rfl rfl)
  have hdown : AtStart b ((List.finRange 20).foldl (fun s ch => Machine.modifyChannel ch Channel.standDown s)
      (Machine.syncFlasher (abandonPass { s with mdc := { s.mdc with mode := m } }))) :=
    Keeps.foldl (P := AtStart b) (fun ch s h => h.modifyChannel ch _) _ _ habandoned.syncFlasher
  unfold Machine.leaveRun
  dsimp only
  generalize (List.finRange 20).foldl _ _ = u at hdown ⊢
  exact hdown.of_fls rfl rfl

theorem AtStart.move (hmove : ClaimsMove s t) (h : AtStart b s) : AtStart b t := h.of_fls hmove.fls (by rw [hmove.crs])

theorem AtStart.acceptIgnition (h : AtStart b s) : AtStart b (acceptIgnition s) := by
  have hgau (gau : Vector Gauge 3) : AtStart b (Machine.refreshDemands { s with gau := gau }) :=
    AtStart.refreshDemands (h.of_fls rfl rfl)
  unfold Machine.acceptIgnition
  split
  · split
    · exact hgau _
    · exact h.refreshDemands
  · exact hgau _

theorem AtStart.entered (restart : Bool) (h : AtStart b s) : AtStart b (entered restart s) := by
  unfold Machine.entered
  refine AtStart.resolveAll (h.of_fls ?_ ?_) <;> cases restart <;> simp

end

theorem atStart_runLaw (b : Before) : RunLaw (AtStart b) where
  same hsame h := h.of_fls hsame.fls hsame.flashSet
  setOp _ _ h := h.of_fls rfl rfl
  handed hmove h := (h.move hmove).handOver _
  entered restart _ _ hfit h := (h.of_fls hfit.fls hfit.flashSet).entered restart

theorem atStart_actLaw (b : Before) : ActLaw (AtStart b) (AtStart b) where
  toRunLaw := atStart_runLaw b
  weak := atStart_runLaw b
  weaken hbeside _ h := h.of_fls hbeside.fls hbeside.flashSet
  ignition h := h.acceptIgnition
  moved hmove _ h := h.move hmove
  taken _ _ hmove _ h := (h.move hmove).of_fls rfl rfl
  ended _ _ hmove _ h := AtStart.handOver _ ((h.move hmove).of_fls rfl rfl)
  left m _ _ h := h.leaveRun m
  evaluation {s} h := by
    have hbeside := beside_measureStage s
    have hmoved := (h.of_fls hbeside.fls hbeside.flashSet).move (move_evaluationStages s)
    exact (hmoved.handOver _).refreshDemands

end Sys2Proof.Machine

/-! PROOFS. A part with no live claim never starts its Flasher, and O35. -/

namespace Sys2Proof.Machine

/-! ### No claim is live -/

theorem touchedCircuits_self (t : ClaimTable) (c : Circ) : (touchedCircuits t t).get c = false := by
  simp [touchedCircuits, slotTouched]

/-- A hand-over of no circuit changes nothing. -/
theorem handOver_none {v : Vector Bool 16} (hv : ∀ c, v.get c = false) (s : State) : handOver v s = s := by
  have hstep : (fun s c => if v.get c then resolveCircuit s c else s) = fun (s : State) (_ : Circ) => s := by
    funext s c
    simp [hv]
  rw [handOver, hstep]
  simp

theorem withHandOver_of_clt {f : State → State} {s : State} (h : (f s).clt = s.clt) : withHandOver f s = f s := by
  rw [withHandOver_eq, h]
  exact handOver_none (touchedCircuits_self _) _

theorem crankWalk_of_noClaims {s : State} (h : noClaims s.clt = true) : crankWalk s = s := by
  rw [noClaims_iff_claimAt] at h
  simp [crankWalk, slotClass, h]

/-- With no claim live a crank only begins. -/
theorem beginCrank_of_noClaims {s : State} (h : noClaims s.clt = true) : beginCrank s =
    if s.sbu.crank = .cranking then s else setFlag .crank { s with sbu := { s.sbu with crank := .cranking } } := by
  have hwalk : crankWalk { s with sbu := { s.sbu with crank := .cranking } }
      = { s with sbu := { s.sbu with crank := .cranking } } := crankWalk_of_noClaims h
  unfold beginCrank
  rw [withHandOver_of_clt (by rw [hwalk]), hwalk]

theorem resolve_of_noClaims {s : State} (h : noClaims s.clt = true) (c : Circ) : resolve s c = .off := by
  have hnone : liveSlots s.clt = [] := List.isEmpty_iff.mp h
  simp [resolve, claimsOn, hnone]

/-- With no claim live the Flasher does not run once every circuit is resolved. -/
theorem resolveAll_idle {s : State} (h : noClaims s.clt = true) : (resolveAll s).fls.phase = .idle := by
  have hfollows : FlasherFollows (resolveAll s) := flasherLaw.resolveAll trivial
  by_contra hrunning
  obtain ⟨hpresent, hmode⟩ := hfollows.mp hrunning
  rw [(resolutionFollows_resolveAll s hmode).2.1] at hpresent
  obtain ⟨r, hr, hflashing⟩ := List.any_eq_true.mp hpresent
  obtain ⟨c, hc, rfl⟩ := List.getElem_of_mem hr
  have hoff : (resolveAll s).crs.resolved.get ⟨c, by simpa using hc⟩ = .off := by
    rw [resolveAll_resolved, resolve_of_noClaims h]
  rw [Vector.get_eq_getElem, ← Vector.getElem_toList (by simpa using hc)] at hoff
  rw [hoff] at hflashing
  simp at hflashing

/-! ### A part with no live claim whose Flasher stands -/

structure Dormant (b : Before) (s : State) : Prop where
  noClaims : noClaims s.clt = true
  standing : Standing b s

namespace Dormant

variable {b : Before} {s t : State}

theorem of_fls (h : Dormant b s) (hclt : t.clt = s.clt) (hfls : t.fls = s.fls) : Dormant b t :=
  ⟨by rw [hclt, h.noClaims], h.standing.of_fls hfls⟩

theorem beginRequested (h : Dormant b s) : Dormant b (beginRequested s) := h.of_fls (by simp) (by simp)

theorem beginCrank (h : Dormant b s) : Dormant b (beginCrank s) := by
  rw [beginCrank_of_noClaims h.noClaims]
  split
  · exact h
  · exact h.of_fls (by simp) (by simp)

theorem entered (restart : Bool) (h : Dormant b s) : Dormant b (entered restart s) := by
  refine ⟨by simp [h.noClaims], (AtStart.entered restart (.inl h.standing)).resolve_right fun hstarted => ?_⟩
  obtain ⟨checks, hlit, -⟩ := hstarted.lit
  have hidle : (Machine.entered restart s).fls.phase = .idle := by
    unfold Machine.entered
    dsimp only
    refine resolveAll_idle ?_
    cases restart <;> simp [h.noClaims]
  rw [hidle] at hlit
  contradiction

theorem enterRun (restart : Bool) (h : Dormant b s) : Dormant b (enterRun restart s) := by
  rw [enterRun_eq]
  refine Dormant.beginRequested ?_
  unfold crankCheck
  split
  · exact (h.entered restart).beginCrank
  · exact h.entered restart

theorem wake (h : Dormant b s) : Dormant b (wake s) := (h.of_fls (t := setFlag .wake s) (by simp) (by simp)).enterRun true

theorem refreshDemands (h : Dormant b s) : Dormant b (refreshDemands s) := by
  refine ⟨by simp [h.noClaims], (AtStart.refreshDemands (.inl h.standing)).resolve_right fun hstarted => ?_⟩
  obtain ⟨checks, hlit, -⟩ := hstarted.lit
  rw [(phaseKept_refreshDemands s).idle.mpr h.standing.idle] at hlit
  contradiction

theorem acceptIgnition (h : Dormant b s) : Dormant b (acceptIgnition s) := by
  have hgau (gau : Vector Gauge 3) : Dormant b (Machine.refreshDemands { s with gau := gau }) :=
    Dormant.refreshDemands (h.of_fls rfl rfl)
  unfold Machine.acceptIgnition
  split
  · split
    · exact hgau _
    · exact h.refreshDemands
  · exact hgau _

theorem acceptStart (h : Dormant b s) : Dormant b (acceptStart s) := by
  unfold Machine.acceptStart
  split
  · split
    · exact h.beginCrank
    · exact h
  · exact h.of_fls (by simp) (by simp)

/-- An acceptance in RUN is the ignition's or the starter's, or nothing more comes of it. -/
theorem handAcceptance (g : GroupIx) (hmode : s.mdc.mode = .run) (h : Dormant b s) : Dormant b (handAcceptance s g) := by
  have hrestarted : Dormant b (restartTimer s) := h.of_fls rfl rfl
  have hmode' : (restartTimer s).mdc.mode = .run := hmode
  unfold Machine.handAcceptance
  simp only [hmode', reduceCtorEq, if_false, and_false]
  split
  · exact hrestarted.acceptIgnition
  · split
    · exact hrestarted.acceptStart
    · exact hrestarted

end Dormant

@[simp] theorem acceptIgnition_mdc (s : State) : (acceptIgnition s).mdc = s.mdc := by
  unfold acceptIgnition
  split
  · split <;> simp
  · simp

@[simp] theorem acceptStart_mdc (s : State) : (acceptStart s).mdc = s.mdc := by
  unfold acceptStart
  split
  · split <;> simp
  · simp

theorem handAcceptance_mode_run (g : GroupIx) {s : State} (hmode : s.mdc.mode = .run) :
    (handAcceptance s g).mdc.mode = .run := by
  have hmode' : (restartTimer s).mdc.mode = .run := hmode
  unfold handAcceptance
  simp only [hmode', reduceCtorEq, if_false, and_false]
  split
  · rw [acceptIgnition_mdc, hmode']
  · split
    · rw [acceptStart_mdc, hmode']
    · exact hmode'

theorem Dormant.scanInputs {b : Before} {s : State} (levels : BitVec 26) (hmode : s.mdc.mode = .run) (h : Dormant b s) :
    Dormant b (scanInputs levels s) := by
  unfold Machine.scanInputs
  dsimp only
  refine Dormant.beginRequested ?_
  set t : State := { s with sws := { s.sws with recs := mapTbl Prod.fst (scanRecs s levels), levels := levels } } with ht
  have hscanned : t.mdc.mode = .run ∧ Dormant b t := ⟨hmode, h.of_fls rfl rfl⟩
  refine (Keeps.foldl (P := fun s => s.mdc.mode = .run ∧ Dormant b s)
    (fun g s h => ⟨handAcceptance_mode_run g h.1, h.2.handAcceptance g h.1⟩) _ _ ?_).2
  split
  · exact hscanned
  · exact ⟨hmode, hscanned.2.of_fls rfl rfl⟩

/-! ### A frame -/

/-- A link interface that still holds the request in work at another. -/
def LinkHolds (l l' : LinkIf) : Prop := ∀ r, l.link = .working r → l'.link = .working r

theorem takeFetch_cases (n : Nat) (s : State) :
    ∃ lif, takeFetch n s = { s with lif := lif } ∧ LinkHolds s.lif lif ∧ (s.lif.link = .idle → lif.link = .idle) := by
  unfold takeFetch
  split
  · exact ⟨s.lif, rfl, fun _ => id, id⟩
  · exact ⟨_, rfl, fun r h => by simp [h], fun h => by simp [h]⟩

theorem dealFrame_cases (bytes : List Byte) (s : State) :
    ∃ lif, dealFrame bytes s = { s with lif := lif } ∧ LinkHolds s.lif lif := by
  have hidle (lif : LinkIf) (h : s.lif.link = .idle) : LinkHolds s.lif lif := fun r hr => by simp [h] at hr
  unfold dealFrame
  split
  · exact ⟨_, rfl, fun _ => id⟩
  · exact ⟨_, rfl, fun _ => id⟩
  · next h =>
    split
    · exact ⟨_, rfl, hidle _ h⟩
    · split <;> exact ⟨_, rfl, hidle _ h⟩

/-- A request frame taken by a part that is awake moves the link and sets the timer back (R156, R187). -/
theorem dealtFrame_cases (bytes out : List Byte) (s : State) :
    ∃ lif, ({ restartTimer (dealFrame bytes s) with lif := { (dealFrame bytes s).lif with dataOut := out } } : State)
      = { restartTimer s with lif := lif } ∧ LinkHolds s.lif lif := by
  obtain ⟨lif, hdeal, hholds⟩ := dealFrame_cases bytes s
  exact ⟨{ lif with dataOut := out }, by rw [hdeal]; rfl, hholds⟩

/-- A frame has no effect, fetches, or is a request frame, which wakes a part in SLEEP first (R155, R159). -/
theorem takeFrame_cases (bytes : List Byte) (s : State) :
    (∃ lif, takeFrame bytes s = { s with lif := lif } ∧ LinkHolds s.lif lif ∧ (s.lif.link = .idle → lif.link = .idle))
      ∨ (s.mdc.mode = .sleep ∧ ∃ lif, takeFrame bytes s = { restartTimer (wake s) with lif := lif }
          ∧ LinkHolds (wake s).lif lif)
      ∨ (s.mdc.mode ≠ .sleep ∧ ∃ lif, takeFrame bytes s = { restartTimer s with lif := lif } ∧ LinkHolds s.lif lif) := by
  cases bytes with
  | nil => exact .inl ⟨s.lif, rfl, fun _ => id, id⟩
  | cons b bs =>
    rw [takeFrame]
    split
    · exact .inl (takeFetch_cases _ s)
    · right
      unfold takeRequest
      dsimp only
      by_cases hsleep : s.mdc.mode = .sleep
      · rw [if_pos hsleep]
        left
        generalize wake s = w
        exact ⟨hsleep, dealtFrame_cases (b :: bs) _ w⟩
      · rw [if_neg hsleep]
        exact .inr ⟨hsleep, dealtFrame_cases (b :: bs) _ s⟩

/-! ### The start and the stop in a step -/

/-- What the start of the Flasher in a step begins from. -/
structure Ready (b : Before) (s : State) : Prop where
  quiet : SleepQuiet s
  loads : LoadsQuiesced s
  standing : Standing b s

/-- The Flasher stands IDLE, or has started. -/
def StartedIfRunning (b : Before) (s : State) : Prop := s.fls.phase = .idle ∨ Started b s

section
variable {b : Before} {s t : State}

theorem AtStart.ifRunning (h : AtStart b s) : StartedIfRunning b s := h.imp_left Standing.idle

theorem Ready.atStart (h : Ready b s) : AtStart b s := .inl h.standing

theorem sleepQuiet_takeFrame (bytes : List Byte) (h : SleepQuiet s) : SleepQuiet (takeFrame bytes s) := by
  obtain ⟨lif, heq, -, hlink⟩ | ⟨-, lif, heq, -⟩ | ⟨hsleep, lif, heq, -⟩ := takeFrame_cases bytes s
  all_goals rw [heq]
  · exact ⟨fun hm => ⟨(h.1 hm).1, hlink (h.1 hm).2⟩, h.2⟩
  · exact ⟨fun hm => by simp [restartTimer] at hm, fun hm => by simp [restartTimer] at hm⟩
  · exact ⟨fun hm => absurd hm hsleep, h.2⟩

theorem Ready.takeFrame (bytes : List Byte) (h : Ready b s) : Ready b (takeFrame bytes s) := by
  refine ⟨sleepQuiet_takeFrame bytes h.quiet, loadsQuiesced_law.takeFrame bytes h.loads, ?_⟩
  obtain ⟨lif, heq, -, -⟩ | ⟨hsleep, lif, heq, -⟩ | ⟨hsleep, lif, heq, -⟩ := takeFrame_cases bytes s
  all_goals rw [heq]
  · exact h.standing.of_fls rfl
  · have hdormant : Dormant b s := ⟨(h.quiet.1 hsleep).1, h.standing⟩
    have hwoken := hdormant.wake.standing
    generalize wake s = w at hwoken ⊢
    exact hwoken.of_fls rfl
  · exact h.standing.of_fls rfl

theorem idle_of_not_run (hfollows : FlasherFollows s) (hmode : s.mdc.mode ≠ .run) : s.fls.phase = .idle := by
  by_contra hrunning
  exact hmode (hfollows.mp hrunning).2

theorem Ready.loaded (c : Configuration) (hop : s.mdc.op = .load) (h : Ready b s) : (loadImage c s).fls.phase = .idle := by
  have hmode := h.loads hop
  have hfollows : FlasherFollows s := iff_of_false (by simp [h.standing.idle]) (by simp [hmode])
  refine idle_of_not_run (flasherLaw.outputLaw.loadImage c hop hfollows) ?_
  rw [loadImage_mode, hmode]
  simp

theorem Ready.loading (bytes : List Byte) (found : Option Configuration) (hmode : s.mdc.mode = .loading) (h : Ready b s) :
    (scanInputs s.pins.levels (enterRun true (loadConfiguration found { s with store := bytes }))).fls.phase = .idle := by
  have hdormant : Dormant (loadConfiguration found { s with store := bytes }).before
      (loadConfiguration found { s with store := bytes }) := by
    refine ⟨?_, ?_, rfl, rfl, fun _ => rfl⟩
    · simpa [loadConfiguration, takeConfiguration] using h.quiet.2 hmode
    · simpa [loadConfiguration, takeConfiguration] using h.standing.idle
  exact (Dormant.scanInputs _ (by simp) (hdormant.enterRun true)).standing.idle

theorem start_serves {r : Req} {body : List Byte → State → State × Reply} (hb : ∀ p s, Ready b s → AtStart b (body p s).1) :
    ServeBrings (Ready b) (StartedIfRunning b) r body :=
  fun p s _ h => ((atStart_actLaw b).answer _ (hb p s h)).ifRunning

theorem idle_serves {r : Req} {body : List Byte → State → State × Reply}
    (hb : ∀ p s, s.fls.phase = .idle → (body p s).1.fls.phase = .idle) :
    ServeBrings (Ready b) (StartedIfRunning b) r body :=
  fun p s _ h => .inl (hb p s h.standing.idle)

theorem idle_eventLaw : EventLaw fun s => s.fls.phase = .idle where
  same hsame h := by rw [hsame.fls, h]
  settings _ _ _ h := h
  channel ch _ h := (phaseKept_modifyChannel ..).idle.mpr h
  judged hjudged h := (phaseKept_refreshDemands _).idle.mpr (hjudged.idle.mpr h)
  gauged _ hgauged h := (phaseKept_refreshDemands _).idle.mpr (by rw [hgauged.fls, h])
  heater _ _ h := h

theorem start_effects (b : Before) : Effects (Ready b) (StartedIfRunning b) where
  weak := fun _ h => .inl h.standing.idle
  settle := fun s h => h.imp_right fun h =>
    ⟨h.rate, h.ticker, h.fast, h.failed, h.pulse, h.lit⟩
  pop := fun s rest h => ⟨h.quiet, h.loads, h.standing.of_fls rfl⟩
  frame := fun bytes s h => h.takeFrame bytes
  fetch := fun n s h => by
    obtain ⟨lif, heq, -, -⟩ := takeFetch_cases n s
    rw [heq]
    exact .inl h.standing.idle
  read := fun r body _ hbody => start_serves fun p s h => by rw [hbody]; exact h.atStart
  statusClear := start_serves fun p s h => (atStart_actLaw b).statusClear p h.atStart
  enableSet := start_serves fun p s h => (atStart_actLaw b).enableChange _ p h.atStart
  enableClear := start_serves fun p s h => (atStart_actLaw b).enableChange _ p h.atStart
  channelRead := idle_serves fun p s h => by
    unfold channelRead
    split
    · split
      · exact h
      · split
        · exact h
        · dsimp only
          split <;> exact h
    · exact h
  channelRestore := idle_serves fun p s h => by
    unfold channelRestore
    split
    · split
      · exact h
      · exact idle_eventLaw.channel _ .restore h
    · exact h
  claimRaise := start_serves fun p s h => (atStart_actLaw b).claimRaise p h.atStart
  claimAlter := start_serves fun p s h => (atStart_actLaw b).claimAlter p h.atStart
  claimRetire := start_serves fun p s h => (atStart_actLaw b).claimRetire p h.atStart
  holdSet := start_serves fun p s h => (atStart_actLaw b).holdSet p h.atStart
  circuitWrite := start_serves fun p s h => (atStart_actLaw b).circuitWrite p h.atStart
  flasherSet := idle_serves fun p s h => by
    obtain heq | ⟨_, _, -, heq⟩ := flasherSet_cases p s
    · rw [heq, h]
    · rw [heq]
      exact h
  profileWrite := idle_serves fun p s h => by
    obtain heq | ⟨-, _, _, _, -, heq⟩ := profileWrite_cases p s
    · rw [heq, h]
    · rw [heq]
      exact h
  groupWrite := start_serves fun p s h => (atStart_actLaw b).groupWrite p h.atStart
  bindWaits := fun _ _ _ _ h => .inl h.standing.idle
  bindWrite := fun p s _ _ h => ((atStart_actLaw b).answer _ ((atStart_actLaw b).bindWrite p h.atStart)).ifRunning
  gaugeSet := start_serves fun p s h => (atStart_actLaw b).gaugeSet p h.atStart
  quiesce := start_serves fun p s h => (atStart_actLaw b).quiesce p h.atStart
  resume := start_serves fun p s h => (atStart_actLaw b).resume p h.atStart
  storeSave := start_serves fun p s h => (atStart_actLaw b).storeSave p h.atStart
  storeLoad := start_serves fun p s h => (atStart_actLaw b).storeLoad p h.atStart
  outputs := fun _ _ _ hc hstep h => .inl (idle_eventLaw.outputs hc hstep h.standing.idle)
  levels := fun s levels h => ⟨h.quiet, h.loads, h.standing.of_fls rfl⟩
  scan := fun levels s _ h => ((atStart_actLaw b).scanInputs levels h.atStart).ifRunning
  passStep := fun s hmode h => ((atStart_actLaw b).passStep hmode h.atStart).ifRunning
  evaluation := fun s _ h => ((atStart_actLaw b).beginRequested ((atStart_actLaw b).evaluation h.atStart)).ifRunning
  count := fun f s i _ h => (h.atStart.move (move_modifyClaim ..)).ifRunning
  recovery := fun s h => ((atStart_actLaw b).endRecovery h.atStart).ifRunning
  hostHold := fun s h => ((atStart_actLaw b).endHostHold h.atStart).ifRunning
  expiry := fun s i _ h => ((atStart_actLaw b).beginRequested ((atStart_actLaw b).withHandOver
    (f := fun s => setFlag .claimExpired (retire i s)) ((move_retire i s).trans (move_setFlag ..)) h.atStart)).ifRunning
  reset := fun cause s _ => .inl (reset_idle cause s)
  loading := fun s bytes found hmode _ h => .inl (h.loading bytes found hmode)
  saved := fun _ _ _ h => .inl h.standing.idle
  saveFailed := fun s _ h => ((atStart_actLaw b).endOperation _ ((atStart_actLaw b).cutSave h.atStart)).ifRunning
  loaded := fun s bytes c hop _ h => by
    have hstore : Ready b { s with store := bytes } := ⟨h.quiet, h.loads, h.standing.of_fls rfl⟩
    have hidle : (loadImage c { s with store := bytes }).fls.phase = .idle := hstore.loaded c hop
    exact .inl (by rw [beginRequested_fls, hidle])
  loadFailed := fun _ _ _ h => .inl h.standing.idle
  sleepEntry := fun s hdoze h => by
    obtain ⟨hmode, -⟩ := (mayDoze_iff s).mp hdoze
    exact ((atStart_actLaw b).dropReply ((atStart_actLaw b).stopBudget
      ((atStart_actLaw b).left .sleep hmode (by simp) h.atStart))).ifRunning
  leaveReset := fun _ _ h => .inl h.standing.idle

end

/-- Settles O35: the agreement part by part, and what a start and a stop of the Flasher leave. -/
theorem outputsKept : Obligations.OutputsKept := by
  refine ⟨fun s t h hstep => flasherLaw.outputLaw.of_step hstep h, fun s t h hstep => resolutionFollows_law.of_step hstep h,
    fun s t h hstep => demandsFollow_law.of_step hstep h, fun s t h hstep => ⟨fun hidle hrunning => ?_, fun hrunning hidle => ?_⟩⟩
  · have hready : Ready s.before s := ⟨h.1, h.2, hidle, rfl, rfl, fun _ => rfl⟩
    have htick (s : State) (_ : s.pending = []) {b : Before} (h : Ready b s) : StartedIfRunning b (tick s) :=
      .inl ((phaseKept_tick s).idle.mpr h.standing.idle)
    obtain hstands | hstarted := (start_effects s.before).of_step (fun s hs h => htick s hs h) hstep hready
    · contradiction
    · exact ⟨hstarted.fast, hstarted.failed, hstarted.pulse, hstarted.lit⟩
  · exact restedLaw.outputLaw.of_step hstep (fun h => absurd h hrunning) hidle

end Sys2Proof.Machine

/-! PROOFS. A property of each channel through a step, and two parts of O52: the channels are sound, and act on their
demands. -/

namespace Sys2Proof.Machine

/-! ### Properties of each channel -/

/-- A property `C run` of a channel's record, in RUN or not, that its own events, a demand and an entry to RUN keep; in
the course of leaving RUN the weaker `W` holds until the channel has stood down. -/
structure ChannelLaw (C : Bool → Channel → Prop) (W : Channel → Prop) : Prop where
  demand : ∀ {run c} d, C run c → C run (c.takeDemand run d)
  judged : ∀ {run c} low good b, C run c → C run { c with lowTime := low, goodTime := good, openLoadFlag := b }
  step : ∀ {run c f}, ChannelStep run c f → C run c → C run (f c)
  entry : ∀ {c} d, C false c → C true (c.takeDemand true d)
  weak : ∀ {c}, C true c → W c
  weakDemand : ∀ {c} d, W c → W (c.takeDemand false d)
  weakTimes : ∀ {c}, W c → W c.clearTimes
  standDown : ∀ {c}, W c → C false c.standDown
  lifetime : ∀ {run c}, C run c → C run { c with lifetime := 0 }
  tick : ∀ {run c} watching, C run c → C run (c.tick watching)
  reset : ∀ p, C false (resetChannel p)

/-- Every channel's record has the property. -/
def EachChannel (C : Bool → Channel → Prop) (s : State) : Prop := ∀ ch : Chan, C (s.mdc.mode == .run) (s.chd.get ch)

theorem EachChannel.of_chd {C : Bool → Channel → Prop} {s t : State} (hchd : t.chd = s.chd)
    (hmode : t.mdc.mode = s.mdc.mode) (h : EachChannel C s) : EachChannel C t := by
  rwa [EachChannel, hchd, hmode]

theorem EachChannel.move {C : Bool → Channel → Prop} {s t : State} (hmove : ClaimsMove s t) (h : EachChannel C s) :
    EachChannel C t := .of_chd hmove.chd (by rw [hmove.mdc]) h

theorem EachChannel.modifyChannel {C : Bool → Channel → Prop} {s : State} (ch : Chan) {f : Channel → Channel}
    (hf : C (s.mdc.mode == .run) (f (s.chd.get ch))) (h : EachChannel C s) : EachChannel C (modifyChannel ch f s) := by
  intro k
  rw [modifyChannel_mdc, chd_modifyChannel]
  split
  · exact hf
  · exact h k

theorem foldl_handDemand_get (cs : List Chan) (s : State) (k : Chan) (hcs : cs.Nodup) :
    ∃ d, ((cs.foldl (fun s ch => handDemand ch (channelDemand s ch) s) s).chd.get k)
      = if k ∈ cs then (s.chd.get k).takeDemand (s.mdc.mode == .run) d else s.chd.get k := by
  induction cs generalizing s with
  | nil => exact ⟨0, by simp⟩
  | cons c cs ih =>
    obtain ⟨hc, hcs⟩ := List.nodup_cons.mp hcs
    obtain ⟨d, hd⟩ := ih (handDemand c (channelDemand s c) s) hcs
    rw [List.foldl_cons, hd, chd_handDemand, handDemand_mdc]
    by_cases hk : c = k
    · subst hk
      exact ⟨channelDemand s c, by simp [hc]⟩
    · exact ⟨d, by simp [hk, Ne.symm hk]⟩

/-- At an entry to RUN every channel is handed a demand. -/
theorem handAllDemands_get (s : State) (k : Chan) :
    ∃ d, (handAllDemands s).chd.get k = (s.chd.get k).takeDemand (s.mdc.mode == .run) d := by
  obtain ⟨d, hd⟩ := foldl_handDemand_get (List.finRange 20) s k (List.nodup_finRange 20)
  exact ⟨d, by rw [handAllDemands, hd, if_pos (List.mem_finRange k)]⟩

namespace ChannelLaw

variable {C : Bool → Channel → Prop} {W : Channel → Prop} (law : ChannelLaw C W) {s t : State}
include law

theorem clearTimes {run : Bool} {c : Channel} (h : C run c) : C run c.clearTimes := law.judged 0 0 c.openLoadFlag h

theorem refreshDemands (h : EachChannel C s) : EachChannel C (refreshDemands s) := by
  unfold EachChannel
  rw [refreshDemands_mdc]
  exact refreshDemands_every (fun c d => law.demand d) h

theorem handOver (v : Vector Bool 16) (h : EachChannel C s) : EachChannel C (handOver v s) := by
  unfold EachChannel
  rw [handOver_mdc]
  exact handOver_every v (fun c d => law.demand d) (fun c => law.clearTimes) h

/-- An entry to RUN from records as they stand outside RUN. -/
theorem resolveAll (hmode : s.mdc.mode = .run) (h : ∀ ch, C false (s.chd.get ch)) : EachChannel C (resolveAll s) := by
  intro k
  rw [resolveAll_eq]
  obtain ⟨d, hd⟩ := handAllDemands_get (indicate (reformFlashSet (allResolved s))) k
  have hrun : (indicate (reformFlashSet (allResolved s))).mdc.mode = .run := by simpa [indicate, allResolved] using hmode
  have hreformed := reformFlashSet_every (s := allResolved s) (P := C false) (fun c => law.clearTimes) h k
  rw [hd, handAllDemands_mdc, hrun]
  simp only [indicate, syncFlasher_chd]
  exact law.entry d hreformed

theorem entered (b : Bool) (h : ∀ ch, C false (s.chd.get ch)) : EachChannel C (entered b s) := by
  unfold Machine.entered
  dsimp only
  refine law.resolveAll ?_ ?_ <;> cases b <;> simp [h]

theorem leaveRun {m : Mode} (hm : m ≠ .run) (h : ∀ ch, W (s.chd.get ch)) : EachChannel C (leaveRun m s) := by
  intro k
  have hleft : ((Machine.leaveRun m s).mdc.mode == .run) = false := by simp [hm]
  rw [hleft, leaveRun_chd]
  refine law.standDown ?_
  have hmode : ((requestPass { s with mdc := { s.mdc with mode := m }, bde := { s.bde with pass := none } }).mdc.mode == .run)
      = false := by simp [hm, requestPass]
  unfold abandonPass
  dsimp only
  split
  · exact h k
  · refine handOver_every (P := W) _ (fun c d => ?_) (fun c => law.weakTimes) ?_ k
    · rw [hmode]
      exact law.weakDemand d
    · exact h

theorem runLaw : RunLaw (EachChannel C) where
  same hsame h := EachChannel.of_chd hsame.chd hsame.mode h
  setOp _ _ h := h
  handed hmove h := law.handOver _ (h.move hmove)
  entered b hmode _ hfit h := by
    have hout (ch : Chan) := h ch
    simp only [beq_eq_false_iff_ne.mpr hmode] at hout
    exact law.entered b fun ch => by rw [hfit.chd]; exact hout ch

theorem acceptIgnition (h : EachChannel C s) : EachChannel C (acceptIgnition s) := by
  have hgau (gau : Vector Gauge 3) : EachChannel C (Machine.refreshDemands { s with gau := gau }) :=
    law.refreshDemands (s := { s with gau := gau }) h
  unfold Machine.acceptIgnition
  split
  · split
    · exact hgau _
    · exact law.refreshDemands h
  · exact hgau _

theorem evaluation (h : EachChannel C s) : EachChannel C (Machine.refreshDemands (withHandOver evaluationStages s)) := by
  have hbeside := beside_measureStage s
  have hmoved := (EachChannel.of_chd hbeside.chd hbeside.mode h).move (move_evaluationStages s)
  rw [withHandOver_eq]
  exact law.refreshDemands (law.handOver _ hmoved)

theorem actLaw : ActLaw (EachChannel C) (EachChannel C) where
  toRunLaw := law.runLaw
  weak := law.runLaw
  weaken hbeside _ h := EachChannel.of_chd hbeside.chd hbeside.mode h
  ignition h := law.acceptIgnition h
  moved hmove _ h := h.move hmove
  taken {s t p q} _ _ hmove _ h := EachChannel.of_chd (s := t) rfl rfl (h.move hmove)
  ended {s t p q} _ _ hmove _ h :=
    law.handOver _ (EachChannel.of_chd (s := t) (t := { t with bde := { t.bde with pass := none } }) rfl rfl (h.move hmove))
  left m hmode hm h := law.leaveRun hm fun ch => law.weak (by have := h ch; rwa [hmode] at this)
  evaluation h := law.evaluation h

theorem eventLaw : EventLaw (EachChannel C) where
  same hsame h := EachChannel.of_chd hsame.chd hsame.mode h
  settings _ _ _ h := h
  channel ch hf h := h.modifyChannel ch (law.step hf (h ch))
  judged {s t} hjudged h := by
    refine law.refreshDemands fun ch => ?_
    obtain ⟨low, good, b, hch⟩ := hjudged.chd ch
    rw [hjudged.mdc, hch]
    exact law.judged low good b (h ch)
  gauged _ hgauged h := law.refreshDemands (EachChannel.of_chd hgauged.chd (by rw [hgauged.mdc]) h)
  heater _ _ h := h

theorem lifetime_each (ch : Chan) (h : EachChannel C s) :
    EachChannel C { s with chd := upd s.chd ch fun c => { c with lifetime := 0 } } := by
  intro k
  simp only [upd_get]
  split
  · next hk => subst hk; exact law.lifetime (h ch)
  · exact h k

theorem tick_each (h : EachChannel C s) : EachChannel C (Machine.tick s) := by
  unfold Machine.tick
  split
  · exact h
  · intro k
    simp only [tabulate_get]
    exact law.tick _ (h k)

theorem reset_each (cause : ResetCause) (s : State) : EachChannel C (resetState cause s) := by
  intro k
  have hmode : ((resetState cause s).mdc.mode == .run) = false := rfl
  have hchd : (resetState cause s).chd = tabulate fun ch => resetChannel (defaultProfile ch) := rfl
  rw [hmode, hchd, tabulate_get]
  exact law.reset _

/-- A property of each channel that its configuration does not enter. -/
theorem outputLaw (hconf : ∀ {run c} p b, C run c → C run { c with profile := p, openLoadFlag := b }) :
    OutputLaw (EachChannel C) (EachChannel C) where
  toActLaw := law.actLaw
  settings := law.eventLaw.settings
  channel := law.eventLaw.channel
  judged := law.eventLaw.judged
  gauged := law.eventLaw.gauged
  heater := law.eventLaw.heater
  config {s t} _ hreconf h ch := by
    obtain ⟨p, b, hch⟩ := hreconf.chd ch
    rw [hreconf.mode, hch]
    exact hconf p b (h ch)
  lifetime ch h := law.lifetime_each ch h
  tick h := law.tick_each h
  reset := law.reset_each

end ChannelLaw

end Sys2Proof.Machine

/-! PROOFS. The channels' records and the heaters through a step: O52. -/

namespace Sys2Proof.Machine

/-! ### The channels are sound (R88, R98) -/

/-- LOCKED exactly at a trip count of 3, and without duty, target and samples while not driven. -/
structure Channel.Sound (c : Channel) : Prop where
  trips : c.tripCount ≤ 3
  locked : c.state.isLocked = true ↔ c.tripCount = 3
  quiet : c.state.driven = false → c.applied = 0 ∧ c.target = 0 ∧ c.samples = []

namespace Channel

variable {c : Channel}

/-- A driven channel is sound below a trip count of 3. -/
theorem sound_of_driven (hdriven : c.state.driven = true) (htrips : c.tripCount < 3) : c.Sound := by
  refine ⟨by omega, iff_of_false ?_ (by omega), fun h => by simp [hdriven] at h⟩
  cases hs : c.state <;> simp_all [ChanState.isLocked, ChanState.driven]

theorem Sound.trips_of_not_locked (h : c.Sound) (hs : c.state.isLocked = false) : c.tripCount < 3 := by
  have hne : c.tripCount ≠ 3 := fun h3 => by simp [h.locked.mpr h3] at hs
  have := h.trips
  omega

theorem not_locked_of_driven (h : c.state.driven = true) : c.state.isLocked = false := by
  cases hs : c.state <;> simp_all [ChanState.isLocked, ChanState.driven]

/-- Another record with the state, the trip count and, unless it is driven, the duty, target and samples of a sound one. -/
theorem Sound.of_eq {d : Channel} (h : c.Sound) (hlocked : d.state.isLocked = c.state.isLocked)
    (hdriven : d.state.driven = c.state.driven) (htrips : d.tripCount = c.tripCount)
    (hquiet : c.state.driven = false → d.applied = c.applied ∧ d.target = c.target ∧ d.samples = c.samples) :
    d.Sound := by
  refine ⟨by rw [htrips]; exact h.trips, by rw [hlocked, htrips]; exact h.locked, fun hd => ?_⟩
  rw [hdriven] at hd
  obtain ⟨ha, ht, hs⟩ := hquiet hd
  rw [ha, ht, hs]
  exact h.quiet hd

/-- A start drives a channel of every kind but UNUSED. -/
theorem start_driven (h : c.profile.kind ≠ .unused) : c.start.state.driven = true ∧ c.start.tripCount = c.tripCount := by
  unfold Channel.start
  cases hkind : c.profile.kind with
  | unused => exact absurd hkind h
  | motor =>
    dsimp only
    split <;> exact ⟨rfl, rfl⟩
  | filament =>
    dsimp only
    split <;> exact ⟨rfl, rfl⟩
  | led => exact ⟨rfl, rfl⟩
  | telltale => exact ⟨rfl, rfl⟩

theorem start_unused (h : c.profile.kind = .unused) : c.start = c := by
  unfold Channel.start
  rw [h]

theorem Sound.start (h : c.Sound) (hs : c.state.isLocked = false) : c.start.Sound := by
  by_cases hkind : c.profile.kind = .unused
  · rwa [start_unused hkind]
  · obtain ⟨hdriven, htrips⟩ := start_driven hkind
    exact sound_of_driven hdriven (htrips ▸ h.trips_of_not_locked hs)

theorem Sound.cutOff (h : c.tripCount < 3) : (c.cut .off).Sound :=
  ⟨by simp only [cut]; omega, iff_of_false (by simp [cut, ChanState.isLocked]) (by simp only [cut]; omega),
    fun _ => ⟨rfl, rfl, rfl⟩⟩

theorem Sound.takeDemand (run : Bool) (d : Nat) (h : c.Sound) : (c.takeDemand run d).Sound := by
  have hdemand : ({ c with demand := d } : Channel).Sound := h.of_eq rfl rfl rfl fun _ => ⟨rfl, rfl, rfl⟩
  unfold Channel.takeDemand
  dsimp only
  split
  · next hs =>
    split
    · exact hdemand.start (by simp [hs, ChanState.isLocked])
    · exact hdemand
  · next hs =>
    have hdriven : c.state.driven = true := by simp [hs, ChanState.driven]
    have htrips := h.trips_of_not_locked (not_locked_of_driven hdriven)
    split
    · exact Sound.cutOff htrips
    · exact sound_of_driven hdriven htrips
  · next hs =>
    have hdriven : c.state.driven = true := by simp [hs, ChanState.driven]
    have htrips := h.trips_of_not_locked (not_locked_of_driven hdriven)
    split
    · exact Sound.cutOff htrips
    · exact sound_of_driven hdriven htrips
  · exact hdemand
  · next hs =>
    split
    · exact h.of_eq (by simp [hs, ChanState.isLocked]) (by simp [hs, ChanState.driven]) rfl fun _ => ⟨rfl, rfl, rfl⟩
    · split
      · next hattempt =>
        have hkind : c.profile.kind ≠ .unused := by simpa using (Bool.and_eq_true_iff.mp hattempt).2
        obtain ⟨hdriven, htrips⟩ := start_driven (c := { c with demand := d, tripCount := 2 }) hkind
        exact sound_of_driven hdriven (by rw [htrips]; simp)
      · exact hdemand

theorem Sound.trip (kind : TripKind) (h : c.Sound) : (c.trip kind).Sound := by
  have htrips := h.trips
  obtain hn | hn | hn : min 3 (c.tripCount + 1) = 3 ∨ min 3 (c.tripCount + 1) = 2 ∨ min 3 (c.tripCount + 1) = 1 := by
    omega
  all_goals
    unfold Channel.trip
    simp only [hn]
    exact ⟨by simp, by simp [cut, ChanState.isLocked], fun _ => ⟨rfl, rfl, rfl⟩⟩

theorem Sound.restore (run : Bool) (h : c.Sound) : (c.restore run).Sound := by
  have hzero (st : ChanState) (hlocked : st.isLocked = false)
      (hquiet : st.driven = false → c.applied = 0 ∧ c.target = 0 ∧ c.samples = []) :
      ({ c with tripCount := 0, state := st } : Channel).Sound := ⟨by simp, by simp [hlocked], hquiet⟩
  have hkept (hlocked : c.state.isLocked = false) : ({ c with tripCount := 0 } : Channel).Sound :=
    hzero c.state hlocked h.quiet
  unfold Channel.restore
  dsimp only
  split
  · next hs =>
    have hoff := hzero .off rfl fun _ => h.quiet (by simp [hs, ChanState.driven])
    split
    · exact hoff.start rfl
    · exact hoff
  all_goals
    next hs => exact hkept (by simp [hs, ChanState.isLocked])

theorem Sound.endBackOff (run : Bool) (h : c.Sound) : (c.endBackOff run).Sound := by
  unfold Channel.endBackOff
  split
  · next hs =>
    have hoff : ({ c with state := .off } : Channel).Sound :=
      h.of_eq (by simp [hs, ChanState.isLocked]) (by simp [hs, ChanState.driven]) rfl fun _ => ⟨rfl, rfl, rfl⟩
    dsimp only
    split
    · exact hoff.start rfl
    · exact hoff
  all_goals exact h

/-- The events of a channel that leave a driven one driven and touch no other. -/
theorem Sound.of_driven_event {d : Channel} (h : c.Sound) (hdriven : c.state.driven = true → d.state.driven = true)
    (htrips : c.state.driven = true → d.tripCount ≤ c.tripCount) (hother : c.state.driven = false → d = c) : d.Sound := by
  cases hc : c.state.driven with
  | false => rwa [hother hc]
  | true =>
    have := h.trips_of_not_locked (not_locked_of_driven hc)
    exact sound_of_driven (hdriven hc) (Nat.lt_of_le_of_lt (htrips hc) this)

end Channel

/-- What the events of a channel leave of its being driven. -/
theorem endPeriod_driven (c : Channel) : (c.state.driven = true → c.endPeriod.state.driven = true)
    ∧ c.endPeriod.tripCount = c.tripCount ∧ (c.state.driven = false → c.endPeriod = c) := by
  unfold Channel.endPeriod
  split
  · next hdriven =>
    refine ⟨fun _ => ?_, ?_, fun h => by simp [hdriven] at h⟩
    all_goals
      split
      · dsimp only
        split
        · rfl
        · first | exact hdriven | rfl
      all_goals first | exact hdriven | rfl
  · exact ⟨id, rfl, fun _ => rfl⟩

theorem rampStep_driven (c : Channel) : (c.state.driven = true → c.rampStep.state.driven = true)
    ∧ c.rampStep.tripCount = c.tripCount ∧ (c.state.driven = false → c.rampStep = c) := by
  unfold Channel.rampStep
  split
  · next hstep =>
    obtain ⟨-, hdriven, -⟩ := hstep
    dsimp only
    refine ⟨fun _ => ?_, ?_, fun h => by simp [hdriven] at h⟩
    · split
      · rfl
      · exact hdriven
    · split <;> rfl
  · exact ⟨id, rfl, fun _ => rfl⟩

theorem endInrush_driven (c : Channel) : (c.state.driven = true → c.endInrush.state.driven = true)
    ∧ c.endInrush.tripCount = c.tripCount ∧ (c.state.driven = false → c.endInrush = c) := by
  unfold Channel.endInrush
  split
  · next hs =>
    split
    · exact ⟨fun _ => rfl, rfl, fun h => by simp [hs, ChanState.driven] at h⟩
    · exact ⟨id, rfl, fun _ => rfl⟩
  all_goals exact ⟨id, rfl, fun _ => rfl⟩

theorem forgive_driven (c : Channel) : (c.state.driven = true → c.forgive.state.driven = true)
    ∧ c.forgive.tripCount ≤ c.tripCount ∧ (c.state.driven = false → c.forgive = c) := by
  unfold Channel.forgive
  split
  · next hs => exact ⟨fun _ => rfl, by simp, fun h => by simp [hs, ChanState.driven] at h⟩
  all_goals exact ⟨id, Nat.le_refl _, fun _ => rfl⟩

theorem ChannelStep.sound {run : Bool} {c : Channel} {f : Channel → Channel} (hf : ChannelStep run c f) (h : c.Sound) :
    (f c).Sound := by
  cases hf with
  | record hdriven threshold reading =>
    exact h.of_driven_event (fun _ => hdriven) (fun _ => Nat.le_refl _) fun hc => by simp [hdriven] at hc
  | trip _ kind => exact h.trip kind
  | endPeriod =>
    obtain ⟨hd, ht, hc⟩ := endPeriod_driven c
    exact h.of_driven_event hd (fun _ => ht.le) hc
  | rampStep =>
    obtain ⟨hd, ht, hc⟩ := rampStep_driven c
    exact h.of_driven_event hd (fun _ => ht.le) hc
  | endInrush =>
    obtain ⟨hd, ht, hc⟩ := endInrush_driven c
    exact h.of_driven_event hd (fun _ => ht.le) hc
  | forgive =>
    obtain ⟨hd, ht, hc⟩ := forgive_driven c
    exact h.of_driven_event hd (fun _ => ht) hc
  | endBackOff => exact h.endBackOff run
  | restore => exact h.restore run

/-! #### Driven in RUN alone -/

theorem driven_of_takeDemand_false {c : Channel} {d : Nat} (h : (c.takeDemand false d).state.driven = true) :
    c.state.driven = true := by
  unfold Channel.takeDemand at h
  dsimp only at h
  split at h
  · simpa using h
  · next hs => simp [hs, ChanState.driven]
  · next hs => simp [hs, ChanState.driven]
  · exact h
  · next hs => split at h <;> simp_all [ChanState.driven]

theorem ChannelStep.driven {c : Channel} {f : Channel → Channel} (hf : ChannelStep false c f)
    (h : (f c).state.driven = true) : c.state.driven = true := by
  have hevent {d : Channel} (hother : c.state.driven = false → d = c) (hd : d.state.driven = true) :
      c.state.driven = true := by
    by_contra hc
    have hc := Bool.eq_false_iff.mpr hc
    rw [hother hc, hc] at hd
    contradiction
  cases hf with
  | record hdriven threshold reading => exact hdriven
  | trip hdriven kind => exact hdriven
  | endPeriod => exact hevent (endPeriod_driven c).2.2 h
  | rampStep => exact hevent (rampStep_driven c).2.2 h
  | endInrush => exact hevent (endInrush_driven c).2.2 h
  | forgive => exact hevent (forgive_driven c).2.2 h
  | endBackOff =>
    unfold Channel.endBackOff at h
    split at h
    · simp [ChanState.driven] at h
    all_goals exact h
  | restore =>
    unfold Channel.restore at h
    dsimp only at h
    split at h
    · simp [ChanState.driven] at h
    all_goals exact h

/-- A sound channel, driven in RUN alone. -/
def Channel.SoundIn (run : Bool) (c : Channel) : Prop := c.Sound ∧ (c.state.driven = true → run = true)

theorem standDown_soundIn {c : Channel} (h : c.Sound) : Channel.SoundIn false c.standDown := by
  have hdown := h.takeDemand false 0
  have hnot : (c.takeDemand false 0).state.driven = false := by
    unfold Channel.takeDemand
    cases c.state <;> simp [ChanState.driven, Channel.cut]
  unfold Channel.standDown
  dsimp only
  split
  · next hs =>
    refine ⟨hdown.of_eq ?_ ?_ rfl fun _ => ⟨rfl, rfl, rfl⟩, by simp [ChanState.driven]⟩ <;>
      simp [hs, ChanState.isLocked, ChanState.driven]
  all_goals exact ⟨hdown, by simp [hnot]⟩

theorem tick_driven (w : Bool) (c : Channel) : (c.tick w).state.driven = c.state.driven
    ∧ (c.tick w).state.isLocked = c.state.isLocked := by
  unfold Channel.tick
  dsimp only
  cases c.state <;> exact ⟨rfl, rfl⟩

theorem soundIn_law : ChannelLaw Channel.SoundIn Channel.Sound where
  demand {run c} d h := ⟨h.1.takeDemand run d, fun hd => by
    cases run with
    | true => rfl
    | false => exact h.2 (driven_of_takeDemand_false hd)⟩
  judged low good b h := ⟨h.1.of_eq rfl rfl rfl fun _ => ⟨rfl, rfl, rfl⟩, h.2⟩
  step {run c f} hf h := ⟨hf.sound h.1, fun hd => by
    cases run with
    | true => rfl
    | false => exact h.2 (hf.driven hd)⟩
  entry d h := ⟨h.1.takeDemand true d, fun _ => rfl⟩
  weak h := h.1
  weakDemand d h := h.takeDemand false d
  weakTimes h := h.of_eq rfl rfl rfl fun _ => ⟨rfl, rfl, rfl⟩
  standDown h := standDown_soundIn h
  lifetime h := ⟨h.1.of_eq rfl rfl rfl fun _ => ⟨rfl, rfl, rfl⟩, h.2⟩
  tick {run c} w h := by
    obtain ⟨hd, hl⟩ := tick_driven w c
    exact ⟨h.1.of_eq hl hd rfl fun _ => ⟨rfl, rfl, rfl⟩, by rw [hd]; exact h.2⟩
  reset p := ⟨⟨by simp [resetChannel], by simp [resetChannel, ChanState.isLocked], fun _ => ⟨rfl, rfl, rfl⟩⟩,
    by simp [resetChannel, ChanState.driven]⟩

theorem channelsSound_iff (s : State) : ChannelsSound s ↔ EachChannel Channel.SoundIn s := by
  constructor
  · intro ⟨hlocked, hdriven⟩ ch
    exact ⟨⟨(hlocked ch).1, (hlocked ch).2, (hdriven ch).2⟩, fun hd => by simp [(hdriven ch).1 hd]⟩
  · intro h
    refine ⟨fun ch => ⟨(h ch).1.trips, (h ch).1.locked⟩, fun ch => ⟨fun hd => ?_, (h ch).1.quiet⟩⟩
    simpa using (h ch).2 hd

theorem soundIn_outputLaw : OutputLaw (EachChannel Channel.SoundIn) (EachChannel Channel.SoundIn) :=
  soundIn_law.outputLaw fun _ _ h => ⟨h.1.of_eq rfl rfl rfl fun _ => ⟨rfl, rfl, rfl⟩, h.2⟩

end Sys2Proof.Machine

/-! PROOFS. The channels act on their demands, the heaters are safe, and O52. -/

namespace Sys2Proof.Machine

/-! ### The channels act on their demands (R56, R90, R94, R100) -/

/-- A driven channel drives toward the target that its demand gives its kind (R84, R88). -/
def Channel.OnTarget (c : Channel) : Prop :=
  c.target = match c.profile.kind with
    | .filament | .led | .telltale => c.demand
    | .motor => c.profile.minDuty + (1000 - c.profile.minDuty) * c.demand / 1000
    | .unused => c.target

/-- The channel acts on its demand. -/
structure Channel.Acts (c : Channel) : Prop where
  off : c.state = .off → c.profile.kind ≠ .unused → c.demand = 0
  locked : c.state = .locked false → 0 < c.demand
  driven : c.state.driven = true → 0 < c.demand ∧ c.OnTarget

namespace Channel

variable {c d : Channel}

theorem onTarget_of_targetFor (hd : 0 < c.demand) (ht : c.target = c.profile.targetFor c.demand) : c.OnTarget := by
  unfold OnTarget
  rw [ht]
  unfold Profile.targetFor
  cases c.profile.kind with
  | motor => exact if_neg (by omega)
  | unused | filament | led | telltale => rfl

theorem acts_of_driven (hs : c.state.driven = true) (hd : 0 < c.demand) (ht : c.OnTarget) : c.Acts :=
  ⟨fun h => by simp [h, ChanState.driven] at hs, fun h => by simp [h, ChanState.driven] at hs, fun _ => ⟨hd, ht⟩⟩

/-- Another record with the state, the demand, the target and the profile of one that acts. -/
theorem Acts.of_eq (h : c.Acts) (hs : d.state = c.state) (hd : d.demand = c.demand) (ht : d.target = c.target)
    (hp : d.profile = c.profile) : d.Acts :=
  ⟨by rw [hs, hp, hd]; exact h.off, by rw [hs, hd]; exact h.locked, by rw [OnTarget, hs, hd, ht, hp]; exact h.driven⟩

/-- A start drives a channel toward its target, or leaves an UNUSED one as it was. -/
theorem start_onTarget (hkind : c.profile.kind ≠ .unused) (hd : 0 < c.demand) : c.start.Acts := by
  have hlike : c.start.demand = c.demand ∧ c.start.profile = c.profile
      ∧ c.start.target = c.profile.targetFor c.demand := by
    unfold Channel.start
    cases hk : c.profile.kind with
    | unused => exact absurd hk hkind
    | motor | filament | led | telltale => exact ⟨rfl, rfl, rfl⟩
  obtain ⟨hdemand, hprofile, htarget⟩ := hlike
  have hdemand' : 0 < c.start.demand := hdemand ▸ hd
  exact acts_of_driven (start_driven hkind).1 hdemand' (onTarget_of_targetFor hdemand' (by rw [htarget, hprofile, hdemand]))

/-- A channel taken OFF and started in RUN when its demand is above 0 acts on it. -/
theorem acts_of_off (hs : c.state = .off) : (if true && decide (0 < c.demand) then c.start else c).Acts := by
  have hidle (h : c.profile.kind ≠ .unused → c.demand = 0) : c.Acts :=
    ⟨fun _ => h, fun hl => by simp [hs] at hl, fun hdriven => by simp [hs, ChanState.driven] at hdriven⟩
  split
  · next hd =>
    have hd : 0 < c.demand := by simpa using hd
    by_cases hkind : c.profile.kind = .unused
    · rw [start_unused hkind]
      exact hidle fun h => absurd hkind h
    · exact start_onTarget hkind hd
  · next hd => exact hidle fun _ => by simpa using hd

theorem acts_cut_off (hd : c.demand = 0) : (c.cut .off).Acts :=
  ⟨fun _ _ => hd, fun h => by simp [cut] at h, fun h => by simp [cut, ChanState.driven] at h⟩

theorem acts_of_tripped {n : Nat} (hs : c.state = .tripped n) : c.Acts :=
  ⟨fun h => by simp [hs] at h, fun h => by simp [hs] at h, fun h => by simp [hs, ChanState.driven] at h⟩

/-- A driven channel handed a demand in RUN. -/
theorem acts_of_retarget {low good : Nat} (hs : c.state.driven = true) (d : Nat) :
    (if d = 0 then ({ c with demand := d } : Channel).cut .off
      else { c with demand := d, target := c.profile.targetFor d, lowTime := low, goodTime := good }).Acts := by
  split
  · next hd => exact acts_cut_off hd
  · next hd =>
    exact acts_of_driven hs (Nat.pos_of_ne_zero hd) (onTarget_of_targetFor (Nat.pos_of_ne_zero hd) rfl)

/-- Whatever it was, a channel handed a demand in RUN acts on it. -/
theorem acts_takeDemand (d : Nat) (c : Channel) : (c.takeDemand true d).Acts := by
  unfold Channel.takeDemand
  dsimp only
  split
  · next hs => exact acts_of_off (c := { c with demand := d }) hs
  · next hs => exact acts_of_retarget (by simp [hs, ChanState.driven]) d
  · next hs => exact acts_of_retarget (by simp [hs, ChanState.driven]) d
  · next hs => exact acts_of_tripped (c := { c with demand := d }) hs
  · next cycle hs =>
    have hlocked (h : cycle = false → 0 < d) : ({ c with demand := d } : Channel).Acts :=
      ⟨fun ho => by simp [hs] at ho, fun hl => h (by simpa [hs] using hl),
        fun hdriven => by simp [hs, ChanState.driven] at hdriven⟩
    split
    · exact ⟨fun ho => by simp at ho, fun hl => by simp at hl, fun hdriven => by simp [ChanState.driven] at hdriven⟩
    · next hd =>
      split
      · next hattempt =>
        have hkind : c.profile.kind ≠ .unused := by simpa using (Bool.and_eq_true_iff.mp hattempt).2
        exact start_onTarget (c := { c with demand := d, tripCount := 2 }) hkind (Nat.pos_of_ne_zero hd)
      · exact hlocked fun _ => Nat.pos_of_ne_zero hd

theorem Acts.of_driven_event (h : c.Acts) (hdriven : c.state.driven = true → d.state.driven = true)
    (hd : d.demand = c.demand) (ht : d.target = c.target) (hp : d.profile = c.profile)
    (hother : c.state.driven = false → d = c) : d.Acts := by
  cases hc : c.state.driven with
  | false => rwa [hother hc]
  | true =>
    obtain ⟨hdemand, htarget⟩ := h.driven hc
    exact acts_of_driven (hdriven hc) (hd ▸ hdemand) (by rw [OnTarget, hd, ht, hp]; exact htarget)

theorem Acts.trip (kind : TripKind) (hs : c.state.driven = true) (h : c.Acts) : (c.trip kind).Acts := by
  have hdemand := (h.driven hs).1
  have hcut (st : ChanState) (n : Nat) (l : Nat) (k : Option TripKind) (hoff : st ≠ .off) (hdriven : st.driven = false) :
      ({ c.cut st with tripCount := n, lifetime := l, lastTrip := k } : Channel).Acts :=
    ⟨fun ho => absurd ho hoff, fun _ => hdemand, fun hd => by simp [cut, hdriven] at hd⟩
  unfold Channel.trip
  dsimp only
  split
  · exact hcut _ _ _ _ (by simp) rfl
  · split
    · exact hcut _ _ _ _ (by simp) rfl
    · exact hcut _ _ _ _ (by simp) rfl

theorem endPeriod_target (c : Channel) : c.endPeriod.target = c.target := by
  unfold Channel.endPeriod
  split
  · split
    · dsimp only
      split <;> rfl
    all_goals rfl
  · rfl

theorem rampStep_target (c : Channel) : c.rampStep.target = c.target := by
  unfold Channel.rampStep
  split
  · dsimp only
    split <;> rfl
  · rfl

theorem endInrush_target (c : Channel) : c.endInrush.target = c.target := by
  unfold Channel.endInrush
  split
  · split <;> rfl
  all_goals rfl

theorem forgive_target (c : Channel) : c.forgive.target = c.target := by
  unfold Channel.forgive
  split <;> rfl

end Channel

theorem ChannelStep.acts {c : Channel} {f : Channel → Channel} (hf : ChannelStep true c f) (h : c.Acts) :
    (f c).Acts := by
  have hdemand := (hf.demand c).1
  have hprofile := hf.profile c
  cases hf with
  | record hdriven threshold reading => exact h.of_eq rfl rfl rfl rfl
  | trip hdriven kind => exact h.trip kind hdriven
  | endPeriod =>
    exact h.of_driven_event (endPeriod_driven c).1 hdemand (Channel.endPeriod_target c) hprofile (endPeriod_driven c).2.2
  | rampStep =>
    exact h.of_driven_event (rampStep_driven c).1 hdemand (Channel.rampStep_target c) hprofile (rampStep_driven c).2.2
  | endInrush =>
    exact h.of_driven_event (endInrush_driven c).1 hdemand (Channel.endInrush_target c) hprofile (endInrush_driven c).2.2
  | forgive =>
    exact h.of_driven_event (forgive_driven c).1 hdemand (Channel.forgive_target c) hprofile (forgive_driven c).2.2
  | endBackOff =>
    unfold Channel.endBackOff
    split
    · exact Channel.acts_of_off (c := { c with state := .off }) rfl
    all_goals exact h
  | restore =>
    unfold Channel.restore
    dsimp only
    split
    · exact Channel.acts_of_off (c := { c with tripCount := 0, state := .off }) rfl
    all_goals exact h.of_eq rfl rfl rfl rfl

theorem Channel.Acts.tick (w : Bool) {c : Channel} (h : c.Acts) : (c.tick w).Acts := by
  refine ⟨fun hs => h.off ?_, fun hs => h.locked ?_, fun hs => h.driven ((tick_driven w c).1 ▸ hs)⟩
  all_goals
    unfold Channel.tick at hs
    cases hc : c.state <;> simp_all [ChanState.tick]

/-- In RUN the channel acts on its demand. -/
def Channel.ActsIn (run : Bool) (c : Channel) : Prop := run = true → c.Acts

theorem actsIn_law : ChannelLaw Channel.ActsIn fun _ => True where
  demand {run c} d _ hrun := hrun ▸ Channel.acts_takeDemand d c
  judged low good b h hrun := (h hrun).of_eq rfl rfl rfl rfl
  step {run c f} hf h hrun := by
    subst hrun
    exact hf.acts (h rfl)
  entry d _ _ := Channel.acts_takeDemand d _
  weak _ := trivial
  weakDemand _ _ := trivial
  weakTimes _ := trivial
  standDown _ hrun := by simp at hrun
  lifetime h hrun := (h hrun).of_eq rfl rfl rfl rfl
  tick w h hrun := (h hrun).tick w
  reset p hrun := by simp at hrun

theorem drivesFollow_iff (s : State) : DrivesFollow s ↔ EachChannel Channel.ActsIn s := by
  constructor
  · intro h ch hrun
    obtain ⟨hoff, hlocked, hdriven⟩ := h (by simpa using hrun) ch
    exact ⟨hoff, hlocked, hdriven⟩
  · intro h hmode ch
    have hacts := h ch (by simp [hmode])
    exact ⟨hacts.off, hacts.locked, hacts.driven⟩

/-! ### Two laws together -/

theorem RunLaw.and {P P' : State → Prop} (law : RunLaw P) (law' : RunLaw P') : RunLaw fun s => P s ∧ P' s where
  same hsame h := ⟨law.same hsame h.1, law'.same hsame h.2⟩
  setOp o ho h := ⟨law.setOp o ho h.1, law'.setOp o ho h.2⟩
  handed hmove h := ⟨law.handed hmove h.1, law'.handed hmove h.2⟩
  entered b hmode hop hfit h := ⟨law.entered b hmode hop hfit h.1, law'.entered b hmode hop hfit h.2⟩

theorem ActLaw.and {P P' Q Q' : State → Prop} (law : ActLaw P Q) (law' : ActLaw P' Q') :
    ActLaw (fun s => P s ∧ P' s) fun s => Q s ∧ Q' s where
  toRunLaw := law.toRunLaw.and law'.toRunLaw
  weak := law.weak.and law'.weak
  weaken hbeside hcharging h := ⟨law.weaken hbeside hcharging h.1, law'.weaken hbeside hcharging h.2⟩
  ignition h := ⟨law.ignition h.1, law'.ignition h.2⟩
  moved hmove hres h := ⟨law.moved hmove hres h.1, law'.moved hmove hres h.2⟩
  taken hmode hp hmove htouch h := ⟨law.taken hmode hp hmove htouch h.1, law'.taken hmode hp hmove htouch h.2⟩
  ended hmode hp hmove htouch h := ⟨law.ended hmode hp hmove htouch h.1, law'.ended hmode hp hmove htouch h.2⟩
  left m hmode hm h := ⟨law.left m hmode hm h.1, law'.left m hmode hm h.2⟩
  evaluation h := ⟨law.evaluation h.1, law'.evaluation h.2⟩

theorem EventLaw.and {P P' : State → Prop} (law : EventLaw P) (law' : EventLaw P') : EventLaw fun s => P s ∧ P' s where
  same hsame h := ⟨law.same hsame h.1, law'.same hsame h.2⟩
  settings rate ticker pulse h := ⟨law.settings rate ticker pulse h.1, law'.settings rate ticker pulse h.2⟩
  channel ch hf h := ⟨law.channel ch hf h.1, law'.channel ch hf h.2⟩
  judged hjudged h := ⟨law.judged hjudged h.1, law'.judged hjudged h.2⟩
  gauged hmode hgauged h := ⟨law.gauged hmode hgauged h.1, law'.gauged hmode hgauged h.2⟩
  heater g hmode h := ⟨law.heater g hmode h.1, law'.heater g hmode h.2⟩

/-- The channels act on their demands, where a load is in flight outside RUN alone: it changes the profiles (R186). -/
theorem actsIn_outputLaw : OutputLaw (fun s => EachChannel Channel.ActsIn s ∧ LoadsQuiesced s)
    fun s => EachChannel Channel.ActsIn s ∧ LoadsQuiesced s where
  toActLaw := actsIn_law.actLaw.and loadsQuiesced_law.toActLaw
  settings := (actsIn_law.eventLaw.and loadsQuiesced_law.toEventLaw).settings
  channel := (actsIn_law.eventLaw.and loadsQuiesced_law.toEventLaw).channel
  judged := (actsIn_law.eventLaw.and loadsQuiesced_law.toEventLaw).judged
  gauged := (actsIn_law.eventLaw.and loadsQuiesced_law.toEventLaw).gauged
  heater := (actsIn_law.eventLaw.and loadsQuiesced_law.toEventLaw).heater
  config hload hconf h := by
    refine ⟨fun ch hrun => absurd ?_ (not_run_of_load hload h.2), loadsQuiesced_law.config hload hconf h.2⟩
    rw [← hconf.mode]
    simpa using hrun
  lifetime ch h := ⟨actsIn_law.lifetime_each ch h.1, loadsQuiesced_law.lifetime ch h.2⟩
  tick h := ⟨actsIn_law.tick_each h.1, loadsQuiesced_law.tick h.2⟩
  reset cause s := ⟨actsIn_law.reset_each cause s, loadsQuiesced_law.reset cause s⟩

end Sys2Proof.Machine

/-! PROOFS. The heaters are safe (R144, R148, R149), and O52. -/

namespace Sys2Proof.Machine

/-- Every gauge's duties lie within 0–1000 ‰, and unless `live` it is OFF with its duties 0. -/
def HeatersIn (live : Prop) (gau : Vector Gauge 3) : Prop :=
  ∀ g : GaugeIx, (gau.get g).duty ≤ 1000 ∧ (gau.get g).applied ≤ 1000
    ∧ (¬ live → (gau.get g).state = .off ∧ (gau.get g).duty = 0 ∧ (gau.get g).applied = 0)

/-- The heaters may be driven: in RUN with IGN accepted at 1. -/
def HeatersLive (s : State) : Prop := s.mdc.mode = .run ∧ acceptedCode s ign = some 1

theorem heatersSafe_iff (s : State) : HeatersSafe s ↔ HeatersIn (HeatersLive s) s.gau := by
  have hlive : (s.mdc.mode ≠ .run ∨ acceptedCode s ign ≠ some 1) ↔ ¬ HeatersLive s := by
    rw [HeatersLive, not_and_or]
  constructor
  · intro h g
    obtain ⟨hd, ha, hoff⟩ := h g
    exact ⟨hd, ha, fun hl => hoff (hlive.mpr hl)⟩
  · intro h g
    obtain ⟨hd, ha, hoff⟩ := h g
    exact ⟨hd, ha, fun hl => hoff (hlive.mp hl)⟩

namespace HeatersIn

variable {live live' : Prop} {gau gau' : Vector Gauge 3}

theorem kept (hlive : live → live') (hgau : ∀ g, (gau'.get g).state = (gau.get g).state
    ∧ (gau'.get g).duty = (gau.get g).duty ∧ (gau'.get g).applied = (gau.get g).applied) (h : HeatersIn live gau) :
    HeatersIn live' gau' := by
  intro g
  obtain ⟨hs, hd, ha⟩ := hgau g
  rw [hs, hd, ha]
  obtain ⟨hd, ha, hoff⟩ := h g
  exact ⟨hd, ha, fun hl => hoff fun hl' => hl (hlive hl')⟩

theorem of_eq (hlive : live → live') (hgau : gau' = gau) (h : HeatersIn live gau) : HeatersIn live' gau' :=
  h.kept hlive fun g => by rw [hgau]; exact ⟨rfl, rfl, rfl⟩

/-- Gauges that are all OFF. -/
theorem of_off (h : ∀ g, (gau.get g).state = .off ∧ (gau.get g).duty = 0 ∧ (gau.get g).applied = 0) :
    HeatersIn live gau := by
  intro g
  obtain ⟨hs, hd, ha⟩ := h g
  exact ⟨by simp [hd], by simp [ha], fun _ => ⟨hs, hd, ha⟩⟩

theorem turnOff (gau : Vector Gauge 3) : HeatersIn live (mapTbl Gauge.turnOff gau) :=
  of_off fun g => by rw [mapTbl_get]; exact ⟨rfl, rfl, rfl⟩

theorem activate (hlive : live') (h : HeatersIn live gau) : HeatersIn live' (mapTbl Gauge.activate gau) := by
  intro g
  obtain ⟨hd, ha, hoff⟩ := h g
  rw [mapTbl_get]
  unfold Gauge.activate
  split
  · exact ⟨Nat.zero_le _, ha, fun hl => absurd hlive hl⟩
  · exact ⟨hd, ha, fun hl => absurd hlive hl⟩

end HeatersIn

/-- At an entry to RUN the gauges restart (R138, R149). -/
theorem heatersIn_restartGauges {live : Prop} {s : State} (hlive : acceptedCode s ign = some 1 → live)
    (h : HeatersIn False s.gau) : HeatersIn live (restartGauges s).gau := by
  have hsampled : HeatersIn False (tabulate fun g : GaugeIx =>
      { s.gau.get g with samples := [(s.pins.senders.get g).toNat] }) :=
    h.kept id fun g => by rw [tabulate_get]; exact ⟨rfl, rfl, rfl⟩
  unfold restartGauges
  dsimp only
  split
  · next hon => exact hsampled.activate (hlive (by simpa [ignitionOn] using hon))
  · exact hsampled.kept False.elim fun _ => ⟨rfl, rfl, rfl⟩

theorem heatersIn_entered {live : Prop} (b : Bool) {s : State} (hlive : acceptedCode s ign = some 1 → live)
    (h : HeatersIn False s.gau) : HeatersIn live (entered b s).gau := by
  unfold entered
  dsimp only
  rw [resolveAll_gau]
  refine heatersIn_restartGauges (fun hon => hlive ?_) ?_
  · cases b <;> simpa [acceptedCode] using hon
  · cases b <;> simpa using h

theorem heatersIn_leaveRun {live : Prop} (m : Mode) (s : State) : HeatersIn live (leaveRun m s).gau := by
  unfold leaveRun
  dsimp only
  exact .of_off fun g => by rw [mapTbl_get]; exact ⟨rfl, rfl, rfl⟩

/-- The weaker property, while a scan hands IGN's acceptance on. -/
theorem heatersIn_runLaw (live : State → Prop) (hkept : ∀ {s t}, t.mdc.mode = s.mdc.mode →
      acceptedCode t ign = acceptedCode s ign → live s → live t)
    (hrun : ∀ {s}, live s → s.mdc.mode = .run)
    (hon : ∀ {s}, s.mdc.mode = .run → acceptedCode s ign = some 1 → live s) :
    RunLaw fun s => HeatersIn (live s) s.gau where
  same hsame h := h.kept (hkept hsame.mode hsame.ignition) fun g =>
    ⟨(hsame.gauge g).1, (hsame.gauge g).2.1, (hsame.gauge g).2.2.1⟩
  setOp {s} o _ h := h.of_eq (hkept (s := s) rfl rfl) rfl
  handed {s t} hmove h := by
    refine h.of_eq (hkept (by simp [hmove.mdc]) ?_) (by simp [hmove.gau])
    simp [acceptedCode, hmove.sws]
  entered {s t} b hmode _ hfit h := by
    have hquiet : HeatersIn False t.gau := h.of_eq (fun hl => hmode (hrun hl)) hfit.gau
    refine heatersIn_entered b (fun hign => hon (by simp) ?_) hquiet
    simpa [acceptedCode] using hign

theorem heatersLive_congr {s t : State} (hmode : t.mdc.mode = s.mdc.mode)
    (hign : acceptedCode t ign = acceptedCode s ign) (h : HeatersLive s) : HeatersLive t := by
  rwa [HeatersLive, hmode, hign]

theorem heatersIn_acceptIgnition {s : State} (h : HeatersIn (s.mdc.mode = .run) s.gau) :
    HeatersIn (HeatersLive (acceptIgnition s)) (acceptIgnition s).gau := by
  have hlive (t : State) (hmode : t.mdc.mode = .run) (hon : ignitionOn t = true) : HeatersLive t :=
    ⟨hmode, by simpa [ignitionOn] using hon⟩
  unfold acceptIgnition
  split
  · next hon =>
    split
    · next hmode =>
      unfold gaugesActive
      rw [refreshDemands_gau]
      exact h.activate (hlive _ (by simpa using hmode) (by simpa [ignitionOn, acceptedCode] using hon))
    · next hmode => exact h.of_eq (fun hm => absurd hm hmode) (by simp)
  · unfold gaugesOff
    rw [refreshDemands_gau]
    exact .turnOff _

theorem heatersIn_gauged {live live' : Prop} {s t : State} (hlive : live → live') (hgauged : Gauged s t)
    (h : HeatersIn live s.gau) : HeatersIn live' t.gau := by
  intro g
  obtain ⟨hd, ha, hoff⟩ := h g
  refine ⟨?_, by rw [hgauged.applied]; exact ha, fun hl => ?_⟩
  · obtain heq | hle := hgauged.duty g
    · rw [heq]; exact hd
    · exact hle
  · obtain ⟨hs, hd, ha⟩ := hoff fun hl' => hl (hlive hl')
    obtain ⟨hs', hd'⟩ := hgauged.off g hs
    exact ⟨hs', by rw [hd', hd], by rw [hgauged.applied, ha]⟩

theorem heatersIn_heater {live : Prop} (k : GaugeIx) {gau : Vector Gauge 3} (h : HeatersIn live gau) :
    HeatersIn live (upd gau k fun x => { x with applied := x.duty }) := by
  intro g
  obtain ⟨hd, ha, hoff⟩ := h g
  rw [upd_get]
  split
  · next hk =>
    subst hk
    exact ⟨hd, hd, fun hl => ⟨(hoff hl).1, (hoff hl).2.1, (hoff hl).2.1⟩⟩
  · exact ⟨hd, ha, hoff⟩

theorem heaters_outputLaw : OutputLaw (fun s => HeatersIn (HeatersLive s) s.gau)
    fun s => HeatersIn (s.mdc.mode = .run) s.gau where
  toRunLaw := heatersIn_runLaw HeatersLive heatersLive_congr (fun h => h.1) fun hm hi => ⟨hm, hi⟩
  weak := heatersIn_runLaw (fun s => s.mdc.mode = .run) (fun hm _ h => by rw [hm, h]) id fun hm _ => hm
  weaken hbeside _ h := h.kept (fun hl => by rw [hbeside.mode, hl.1]) fun g =>
    ⟨(hbeside.gauge g).1, (hbeside.gauge g).2.1, (hbeside.gauge g).2.2.1⟩
  ignition h := heatersIn_acceptIgnition h
  moved hmove _ h :=
    h.of_eq (heatersLive_congr (by rw [hmove.mdc]) (by rw [acceptedCode, hmove.sws]; rfl)) hmove.gau
  taken {s t p q} _ _ hmove _ h :=
    h.of_eq (heatersLive_congr (t := { t with bde := { t.bde with pass := some q } }) (congrArg ModeControl.mode hmove.mdc)
      (by simp only [acceptedCode, hmove.sws])) hmove.gau
  ended _ _ hmove _ h :=
    h.of_eq (heatersLive_congr (by simp [hmove.mdc]) (by simp [acceptedCode, hmove.sws])) (by simp [hmove.gau])
  left m _ _ _ := heatersIn_leaveRun m _
  config _ hconf h := h.kept (heatersLive_congr hconf.mode hconf.ignition) hconf.gauge
  evaluation {s} h := by
    have hmode : (refreshDemands (withHandOver evaluationStages s)).mdc.mode = s.mdc.mode := by simp [withHandOver]
    have hsws : (refreshDemands (withHandOver evaluationStages s)).sws = s.sws := by simp [withHandOver]
    have hgau : (refreshDemands (withHandOver evaluationStages s)).gau = (measureStage s).gau := by
      simp [withHandOver, (move_evaluationStages s).gau]
    refine h.kept (heatersLive_congr hmode (by rw [acceptedCode, hsws]; rfl)) fun g => ?_
    obtain ⟨hstate, hduty, happlied, -⟩ := (beside_measureStage s).gauge g
    rw [hgau]
    exact ⟨hstate, hduty, happlied⟩
  settings {s} _ _ _ h := h.of_eq (heatersLive_congr (s := s) rfl rfl) rfl
  channel _ _ h := h.of_eq (heatersLive_congr (by simp) (by simp [acceptedCode])) (by simp)
  judged hjudged h :=
    h.of_eq (heatersLive_congr (by simp [hjudged.mdc]) (by simp [acceptedCode, hjudged.sws])) (by simp [hjudged.gau])
  gauged _ hgauged h := by
    rw [refreshDemands_gau]
    exact heatersIn_gauged (heatersLive_congr (by simp [hgauged.mdc]) (by simp [acceptedCode, hgauged.sws])) hgauged h
  heater g _ h := heatersIn_heater g h
  lifetime {s} _ h := h.of_eq (heatersLive_congr (s := s) rfl rfl) rfl
  tick {s} h := by
    obtain ⟨hmode, -, -, hgau, hsws, -⟩ := tick_beside s
    exact h.of_eq (heatersLive_congr hmode (by rw [acceptedCode, hsws]; rfl)) hgau
  reset cause s := .of_off fun g => by
    have hgau : (resetState cause s).gau = tabulate fun _ => resetGauge defaultGauge := rfl
    rw [hgau, tabulate_get]
    exact ⟨rfl, rfl, rfl⟩

/-- Settles O52: the heaters, the channels' records and their following of the demands, each by the parts of a step. -/
theorem hardwareKept : Obligations.HardwareKept := by
  refine ⟨fun s t h hstep => ?_, fun s t h hstep => ?_, fun s t h hstep => ?_⟩
  · rw [heatersSafe_iff] at h ⊢
    exact heaters_outputLaw.of_step hstep h
  · rw [channelsSound_iff] at h ⊢
    exact soundIn_outputLaw.of_step hstep h
  · rw [drivesFollow_iff] at h ⊢
    exact actsIn_outputLaw.of_step hstep h

end Sys2Proof.Machine

/-! PROOFS. The modes, the sleep entry timer and the passes through a step: what their invariants ask of each effect, and
that a property which the effects keep is kept by every step. -/

namespace Sys2Proof.Machine

/-! ### What the modes and the passes read -/

/-- Two states alike in the mode, the sleep entry timer, the link, the running pass and the BIND.WRITE that waits; while
the budget does not run no claim is raised, and a pass may have been requested. -/
structure Requests (s t : State) : Prop where
  mode : t.mdc.mode = s.mdc.mode
  timer : t.mdc.sleepTimer = s.mdc.sleepTimer
  link : t.lif.link = s.lif.link
  pass : t.bde.pass = s.bde.pass
  waiting : t.bde.waiting = s.bde.waiting
  live : budgetRuns s = false → noClaims s.clt = true → noClaims t.clt = true

/-- Two states alike in this and in the pass-requested mark. -/
structure Steady (s t : State) : Prop extends Requests s t where
  requested : t.bde.passRequested = s.bde.passRequested

theorem Requests.refl (s : State) : Requests s s := ⟨rfl, rfl, rfl, rfl, rfl, fun _ => id⟩

theorem Steady.refl (s : State) : Steady s s := ⟨.refl s, rfl⟩

section
variable {s t u : State}

theorem Requests.trans (h : Requests s t) (h' : Requests t u) : Requests s u :=
  ⟨h'.mode.trans h.mode, h'.timer.trans h.timer, h'.link.trans h.link, h'.pass.trans h.pass, h'.waiting.trans h.waiting,
    fun hm hn => h'.live (by rwa [budgetRuns, h.mode]) (h.live hm hn)⟩

theorem Steady.trans (h : Steady s t) (h' : Steady t u) : Steady s u :=
  ⟨h.toRequests.trans h'.toRequests, h'.requested.trans h.requested⟩

theorem Requests.of_move (h : ClaimsMove s t) (hlive : budgetRuns s = false → noClaims s.clt = true → noClaims t.clt = true) :
    Requests s t := ⟨by rw [h.mdc], by rw [h.mdc], h.link, h.pass, h.waiting, hlive⟩

theorem Requests.handOver (v : Vector Bool 16) (h : Requests s t) : Requests s (handOver v t) :=
  ⟨by simp [h.mode], by simp [h.timer], by simp [h.link], by simp [h.pass], by simp [h.waiting],
    fun hm hn => by simpa using h.live hm hn⟩

theorem Steady.handOver (v : Vector Bool 16) (h : Steady s t) : Steady s (handOver v t) :=
  ⟨h.toRequests.handOver v, by simp [h.requested]⟩

theorem Requests.withHandOver {f : State → State} (h : Requests s (f s)) : Requests s (withHandOver f s) := h.handOver _

theorem Steady.withHandOver {f : State → State} (h : Steady s (f s)) : Steady s (withHandOver f s) := h.handOver _

theorem Steady.of_aside (h : Aside s t) (hmdc : t.mdc = s.mdc) : Steady s t :=
  ⟨⟨h.mode, by rw [hmdc], h.link, by rw [h.bde], by rw [h.bde], fun _ hn => by rwa [h.clt]⟩, by rw [h.bde]⟩

/-- A step on the claims in RUN that leaves the bindings. -/
theorem Steady.of_run (hmode : s.mdc.mode = .run) (h : ClaimsMove s t) (hbde : t.bde = s.bde) : Steady s t :=
  ⟨.of_move h fun hm => by simp [budgetRuns, hmode] at hm, by rw [hbde]⟩

end

theorem claimAt_retire_some {i j : SlotIx} {s : State} {c : Claim} (h : claimAt (retire i s) j = some c) :
    (claimAt s j).isSome = true := by
  rw [claimAt_retire] at h
  split at h
  · contradiction
  · simp [h]

theorem requests_retire (i : SlotIx) (s : State) : Requests s (retire i s) :=
  .of_move (move_retire i s) fun _ => noClaims_of_live fun _ _ h => claimAt_retire_some h

theorem requests_foldl_retire (xs : List SlotIx) (s : State) : Requests s (xs.foldl (fun s i => retire i s) s) := by
  induction xs generalizing s with
  | nil => exact .refl s
  | cons x xs ih => exact (requests_retire x s).trans (ih _)

theorem steady_setFlag (f : Flag) (s : State) : Steady s (setFlag f s) := { Steady.refl s with }

theorem steady_modifyClaim (i : SlotIx) (f : Claim → Claim) (s : State) : Steady s (modifyClaim i f s) :=
  ⟨.of_move (move_modifyClaim ..) fun _ => noClaims_of_live fun j c h => by
    rw [claimAt_modifyClaim] at h
    split at h <;> cases hc : claimAt s j <;> simp_all, by simp⟩

theorem steady_mapClaims (f : Claim → Claim) (s : State) : Steady s (mapClaims f s) :=
  ⟨.of_move (move_mapClaims ..) fun _ => noClaims_of_live fun j c h => by
    rw [claimAt_mapClaims] at h
    cases hc : claimAt s j <;> simp_all, by simp⟩

theorem steady_endRecovery (s : State) : Steady s (endRecovery s) :=
  Steady.trans (t := { s with sbu := { s.sbu with crank := .none } }) { Steady.refl s with } (steady_mapClaims _ _)

theorem steady_endHostHold (s : State) : Steady s (endHostHold s) :=
  Steady.trans (t := { s with sbu := { s.sbu with hostHold := none } }) { Steady.refl s with } (steady_mapClaims _ _)

theorem steady_endCrank (s : State) : Steady s (endCrank s) := by
  unfold endCrank
  split
  · exact { Steady.refl s with }
  · exact .refl s

theorem steady_beginCrank (s : State) : Steady s (beginCrank s) := by
  refine ⟨⟨by simp, by simp, by simp, by simp, by simp, fun _ hn => ?_⟩, by simp⟩
  rw [beginCrank_of_noClaims hn]
  split
  · exact hn
  · simpa using hn

/-! ### The laws of the modes -/

/-- A property `P` of the modes, the timer, the link and the passes that every effect keeps; `B` is what holds of it before
a requested pass has begun. -/
structure ModeLaw (P B : State → Prop) : Prop where
  weak : ∀ {s}, P s → B s
  steady : ∀ {s t}, Steady s t → P s → P t
  requests : ∀ {s t}, Requests s t → B s → B t
  begun : ∀ {s}, B s → P (beginRequested s)
  restart : ∀ {s}, P s → P (restartTimer s)
  restartWeak : ∀ {s}, B s → B (restartTimer s)
  entered : ∀ {s t}, s.mdc.mode ≠ .run → t.mdc.mode = .run → t.mdc.sleepTimer = s.mdc.sleepTimer →
    t.lif.link = s.lif.link → t.bde.pass = s.bde.pass → t.bde.waiting = s.bde.waiting → B s → B t
  settle : ∀ {s}, P s → P (settleTimer s)
  linked : ∀ {s} lif, LinkHolds s.lif lif → (s.mdc.mode = .sleep → s.lif.link = .idle → lif.link = .idle) → P s →
    P { s with lif := lif }
  answered : ∀ {s} r reply, s.lif.link = .working r →
    (r.req = .bindWrite → ∃ t, P t ∧ t.bde.pass.isSome = false ∧ s.bde.waiting = t.bde.waiting) → P s →
    P (answer reply s)
  waits : ∀ {s} p, s.lif.link = .working { req := .bindWrite, params := p } → s.bde.pass.isSome = true → P s →
    P { s with bde := { s.bde with waiting := some p } }
  quiesced : ∀ {s}, s.mdc.mode = .run → (∀ p, s.lif.link ≠ .working { req := .bindWrite, params := p }) → P s →
    P (leaveRun .quiesced s)
  slept : ∀ {s}, mayDoze s = true → P s → P (dropReply (stopBudget (leaveRun .sleep s)))
  passStep : ∀ {s}, s.mdc.mode = .run → P s → P (passStep s)
  reset : ∀ cause s, P (resetState cause s)

/-! ### The commands -/

theorem bde_eq_of_foldl {f : State → SlotIx → State} (hf : ∀ s i, (f s i).bde = s.bde) (xs : List SlotIx) (s : State) :
    (xs.foldl f s).bde = s.bde := foldl_frame (fun s : State => s.bde) _ hf xs s

theorem alignLevel_bde (i : SlotIx) (s : State) : (alignLevel i s).bde = s.bde := by
  unfold alignLevel
  split
  · rfl
  · dsimp only
    split_ifs <;> simp [stepLevel]

theorem alter_bde (i : SlotIx) (c : Claim) (a : Alteration) (s : State) : (alter i c a s).bde = s.bde := by
  unfold alter
  dsimp only
  split_ifs <;> simp [alignLevel_bde]

theorem placeHostHold_bde (h : HostHold) (s : State) : (placeHostHold h s).1.bde = s.bde := by
  refine (bde_eq_of_foldl (fun s i => makeHeld_bde i _ s) _ _).trans ?_
  rw [markHost, mapClaims_bde]

theorem steady_claimRaise (p : List Byte) (s : State) : Steady s (claimRaise p s).1 := by
  obtain heq | ⟨hmode, i, r, heq⟩ := claimRaise_cases p s
  · rw [heq]
    exact .refl s
  · rw [heq]
    exact Steady.withHandOver (.of_run hmode (move_raiseInto i r s) (raiseInto_bde i r s))

theorem steady_claimAlter (p : List Byte) (s : State) : Steady s (claimAlter p s).1 := by
  obtain heq | ⟨hmode, i, c, a, -, heq⟩ := claimAlter_cases p s
  · rw [heq]
    exact .refl s
  · rw [heq]
    exact Steady.withHandOver (.of_run hmode (move_alter i c a s) (alter_bde i c a s))

theorem steady_holdSet (p : List Byte) (s : State) : Steady s (holdSet p s).1 := by
  obtain heq | ⟨hmode, heq | ⟨h, heq⟩⟩ := holdSet_cases p s
  · rw [heq]
    exact .refl s
  · rw [heq]
    exact steady_endHostHold s
  · rw [heq]
    exact Steady.withHandOver (f := fun s => (placeHostHold h s).1)
      (.of_run hmode (move_placeHostHold h s) (placeHostHold_bde h s))

theorem steady_circuitWrite (p : List Byte) (s : State) : Steady s (circuitWrite p s).1 := by
  obtain heq | ⟨-, c, e, -, heq⟩ := circuitWrite_cases p s
  · rw [heq]
    exact .refl s
  · rw [heq]
    exact { Steady.refl s with }

theorem steady_flasherSet (p : List Byte) (s : State) : Steady s (flasherSet p s).1 := by
  obtain heq | ⟨rate, ticker, -, heq⟩ := flasherSet_cases p s
  · rw [heq]
    exact .refl s
  · rw [heq]
    exact { Steady.refl s with }

theorem steady_profileWrite (p : List Byte) (s : State) : Steady s (profileWrite p s).1 := by
  obtain heq | ⟨-, ch, bytes, q, -, heq⟩ := profileWrite_cases p s
  · rw [heq]
    exact .refl s
  · rw [heq]
    exact { Steady.refl s with }

theorem steady_groupWrite (p : List Byte) (s : State) : Steady s (groupWrite p s).1 := by
  obtain heq | ⟨-, g, bytes, d, -, heq⟩ := groupWrite_cases p s
  · rw [heq]
    exact .refl s
  · rw [heq]
    exact { Steady.refl s with }

theorem steady_gaugeSet (p : List Byte) (s : State) : Steady s (gaugeSet p s).1 := by
  obtain heq | ⟨-, g, points, k, vstab, settings, -, heq⟩ := gaugeSet_cases p s
  · rw [heq]
    exact .refl s
  · rw [heq]
    exact { Steady.refl s with }

theorem steady_storeSave (p : List Byte) (s : State) : Steady s (storeSave p s).1 := by
  obtain heq | ⟨image, store, heq⟩ := storeSave_cases p s
  · rw [heq]
    exact .refl s
  · rw [heq]
    exact { Steady.refl s with }

theorem steady_storeLoad (p : List Byte) (s : State) : Steady s (storeLoad p s).1 := by
  obtain heq | ⟨-, heq⟩ := storeLoad_cases p s
  · rw [heq]
    exact .refl s
  · rw [heq]
    exact { Steady.refl s with }

theorem requests_loadImage (c : Configuration) (s : State) : Requests s (loadImage c s) where
  mode := loadImage_mode c s
  timer := by simp [loadImage, endOperation, takeConfiguration, withHandOver, foldl_retire_mdc]
  link := by
    simp [loadImage, endOperation, takeConfiguration, withHandOver, (move_foldl_retire _ s).link]
  pass := by simp [loadImage, endOperation, takeConfiguration, withHandOver, requestPass, (move_foldl_retire _ s).pass]
  waiting := by
    simp [loadImage, endOperation, takeConfiguration, withHandOver, requestPass, (move_foldl_retire _ s).waiting]
  live _ := noClaims_of_live fun j d hd => by rw [(claimAt_loadImage hd).1]; rfl

theorem requests_loadConfiguration (found : Option Configuration) (s : State) :
    Requests s (loadConfiguration found s) := by
  unfold loadConfiguration
  exact Requests.trans (t := { takeConfiguration (found.getD defaultConfiguration) s with
      crs := { s.crs with inForce := (found.getD defaultConfiguration).circuits }
      mdc := { s.mdc with source := if found.isSome then .stored else .builtIn } })
    { Requests.refl s with } (by cases found.isNone <;> exact { Requests.refl _ with })

/-- An evaluation falls where the budget runs. -/
theorem requests_evaluation {s : State} (hruns : budgetRuns s = true) :
    Requests s (refreshDemands (withHandOver evaluationStages s)) := by
  have hmove := move_evaluationStages s
  have hpass : (measureStage s).bde = s.bde := (ClaimLaw.aside_measureStage s).bde
  have hlink := (ClaimLaw.aside_measureStage s).link
  refine ⟨by simp [withHandOver], by simp [withHandOver], ?_, ?_, ?_, fun hm => by simp [hruns] at hm⟩
  · simp [withHandOver, hmove.link, hlink]
  · simp [withHandOver, hmove.pass, hpass]
  · simp [withHandOver, hmove.waiting, hpass]

theorem steady_acceptIgnition (s : State) : Steady s (acceptIgnition s) := by
  have hgau (gau : Vector Gauge 3) : Steady s (refreshDemands { s with gau := gau }) :=
    Steady.trans (t := { s with gau := gau }) { Steady.refl s with } (.of_aside (aside_refreshDemands _) (by simp))
  unfold acceptIgnition
  split
  · split
    · exact hgau _
    · exact .of_aside (aside_refreshDemands s) (by simp)
  · exact hgau _

theorem steady_acceptStart (s : State) : Steady s (acceptStart s) := by
  unfold acceptStart
  split
  · split
    · exact steady_beginCrank s
    · exact .refl s
  · exact steady_endCrank s

theorem steady_cutSaveFail (s : State) : Steady s (endOperation .storeFail (cutSave s)) := by
  have hcut : Steady s (cutSave s) := by
    unfold cutSave
    split
    · exact { Steady.refl s with }
    · exact .refl s
    · exact .refl s
  exact hcut.trans { Steady.refl _ with }

theorem claimRetire_link (p : List Byte) (s : State) : (claimRetire p s).1.lif.link = s.lif.link := by
  obtain heq | ⟨i, -, -, -, heq⟩ := claimRetire_cases p s
  · rw [heq]
  · rw [heq, beginRequested_lif]
    exact (Requests.withHandOver (requests_retire i s)).link

theorem replaceBinding_kept (b : BindIx) (e : BindEntry) (s : State) :
    (replaceBinding b e s).lif.link = s.lif.link ∧ (replaceBinding b e s).bde.waiting = s.bde.waiting := by
  have hput (s : State) (recs : Vector BindRec 64) : (beginRequested
      (requestPass { s with bde := { s.bde with entries := put s.bde.entries b e, recs := recs } })).lif.link = s.lif.link
      ∧ (beginRequested (requestPass { s with
          bde := { s.bde with entries := put s.bde.entries b e, recs := recs } })).bde.waiting = s.bde.waiting := by
    constructor
    · rw [beginRequested_lif]
      rfl
    · unfold beginRequested
      split <;> rfl
  unfold replaceBinding
  dsimp only
  split
  · next h _ =>
    have hretired : Requests s (withHandOver (retire h.slot) s) := Requests.withHandOver (requests_retire h.slot s)
    rw [(hput _ _).1, (hput _ _).2, hretired.link, hretired.waiting]
    exact ⟨rfl, rfl⟩
  · exact hput _ _
  · exact hput _ _

theorem bindWrite_link (p : List Byte) (s : State) : (bindWrite p s).1.lif.link = s.lif.link := by
  obtain heq | ⟨b, bytes, e, -, heq⟩ := bindWrite_cases p s
  · rw [heq]
  · rw [heq, (replaceBinding_kept b e s).1]

theorem bindWrite_waiting (p : List Byte) (s : State) : (bindWrite p s).1.bde.waiting = s.bde.waiting := by
  obtain heq | ⟨b, bytes, e, -, heq⟩ := bindWrite_cases p s
  · rw [heq]
  · rw [heq, (replaceBinding_kept b e s).2]

theorem quiesce_link (p : List Byte) (s : State) : (quiesce p s).1.lif.link = s.lif.link := by
  obtain heq | ⟨-, -, -, heq⟩ := quiesce_cases p s
  · rw [heq]
  · rw [heq, leaveRun_lif]

theorem resume_link (p : List Byte) (s : State) : (resume p s).1.lif.link = s.lif.link := by
  obtain heq | ⟨-, -, heq⟩ := resume_cases p s
  · rw [heq]
  · rw [heq, resumeRun_eq, enterRun_link]
    simp [requestPass, (move_refitted s).link, applyPending]

namespace ModeLaw

variable {P B : State → Prop} (law : ModeLaw P B) {s : State}
include law

theorem enterRun {t : State} (restart : Bool) (hmode : s.mdc.mode ≠ .run) (htimer : t.mdc.sleepTimer = s.mdc.sleepTimer)
    (hlink : t.lif.link = s.lif.link) (hpass : t.bde.pass = s.bde.pass) (hwaiting : t.bde.waiting = s.bde.waiting)
    (h : B s) : P (enterRun restart t) := by
  rw [enterRun_eq]
  have hentered : B (Machine.entered restart t) :=
    law.entered hmode (by simp) (by simp [htimer]) (by simp [hlink]) (by simp [hpass]) (by simp [hwaiting]) h
  refine law.begun ?_
  unfold crankCheck
  split
  · exact law.requests (steady_beginCrank _).toRequests hentered
  · exact hentered

theorem wake (hmode : s.mdc.mode = .sleep) (h : B s) : P (wake s) :=
  law.enterRun (s := s) (t := setFlag .wake s) true (by simp [hmode]) rfl rfl rfl rfl h

theorem steadyWeak {t : State} (hsteady : Steady s t) (h : B s) : B t := law.requests hsteady.toRequests h

theorem resumeRun (hmode : s.mdc.mode = .quiesced) (h : B s) : P (resumeRun s).1 := by
  rw [resumeRun_eq]
  have hmove := move_refitted s
  exact law.enterRun false (s := s) (by simp [hmode]) (by simp [requestPass, applyPending])
    (by simp [requestPass, hmove.link, applyPending]) (by simp [requestPass, hmove.pass, applyPending])
    (by simp [requestPass, hmove.waiting, applyPending]) h

theorem abandonLoad (h : B s) : B (abandonLoad s) := by
  unfold Machine.abandonLoad
  split
  · exact law.requests { Requests.refl s with } h
  · exact h

theorem handAcceptance (g : GroupIx) (h : B s) : B (handAcceptance s g) := by
  have hrestarted := law.restartWeak h
  have hwoken : B (if (Machine.restartTimer s).mdc.mode = .sleep then Machine.wake (Machine.restartTimer s)
      else Machine.restartTimer s) := by
    split
    · next hsleep => exact law.weak (law.wake hsleep hrestarted)
    · exact hrestarted
  unfold Machine.handAcceptance
  dsimp only
  generalize (if (Machine.restartTimer s).mdc.mode = .sleep then Machine.wake (Machine.restartTimer s)
    else Machine.restartTimer s) = t at hwoken ⊢
  have hresumed : B (if g = ign ∧ ignitionOn t = true ∧ t.mdc.mode = .quiesced
      then (Machine.resumeRun (Machine.abandonLoad t)).1 else t) := by
    split
    · next hquiet =>
      obtain ⟨-, -, hquiet⟩ := hquiet
      exact law.weak (law.resumeRun (by simpa using hquiet) (law.abandonLoad hwoken))
    · exact hwoken
  generalize (if g = ign ∧ ignitionOn t = true ∧ t.mdc.mode = .quiesced
    then (Machine.resumeRun (Machine.abandonLoad t)).1 else t) = u at hresumed ⊢
  split
  · exact law.steadyWeak (steady_acceptIgnition u) hresumed
  · split
    · exact law.steadyWeak (steady_acceptStart u) hresumed
    · exact hresumed

theorem scanInputs (levels : BitVec 26) (h : P s) : P (scanInputs levels s) := by
  unfold Machine.scanInputs
  dsimp only
  refine law.begun (Keeps.foldl (P := B) (fun g s h => law.handAcceptance g h) _ _ ?_)
  have hscanned : B { s with sws := { s.sws with recs := mapTbl Prod.fst (scanRecs s levels), levels := levels } } :=
    law.requests { Requests.refl s with } (law.weak h)
  have hrequest (u : State) (h : B u) : B (requestPass u) := law.requests { Requests.refl u with } h
  split
  · exact hscanned
  · exact hrequest _ hscanned

theorem takeFrame (bytes : List Byte) (h : P s) : P (takeFrame bytes s) := by
  obtain ⟨lif, heq, hholds, hidle⟩ | ⟨hsleep, lif, heq, hholds⟩ | ⟨hsleep, lif, heq, hholds⟩ := takeFrame_cases bytes s
  all_goals rw [heq]
  · exact law.linked lif hholds (fun _ => hidle) h
  · have hwoken := law.restart (law.wake hsleep (law.weak h))
    have hrun : (Machine.wake s).mdc.mode = .run := by simp
    generalize Machine.wake s = w at hwoken hholds hrun ⊢
    exact law.linked lif hholds (fun hm => by simp [Machine.restartTimer, hrun] at hm) hwoken
  · exact law.linked lif hholds (fun hm => absurd hm hsleep) (law.restart h)

theorem replaceBinding (b : BindIx) (e : BindEntry) (h : P s) : P (replaceBinding b e s) := by
  have hput (s : State) (h : B s) (recs : Vector BindRec 64) :
      B (requestPass { s with bde := { s.bde with entries := put s.bde.entries b e, recs := recs } }) :=
    law.requests { Requests.refl s with } h
  unfold Machine.replaceBinding
  dsimp only
  refine law.begun (hput _ ?_ _)
  split
  · next link _ => exact law.requests (Requests.withHandOver (requests_retire _ s)) (law.weak h)
  · exact law.weak h
  · exact law.weak h

theorem bindWrite (p : List Byte) (h : P s) : P (bindWrite p s).1 := by
  obtain heq | ⟨b, bytes, e, -, heq⟩ := bindWrite_cases p s
  · rwa [heq]
  · rw [heq]
    exact law.replaceBinding b e h

theorem claimRetire (p : List Byte) (h : P s) : P (claimRetire p s).1 := by
  obtain heq | ⟨i, -, -, -, heq⟩ := claimRetire_cases p s
  · rwa [heq]
  · rw [heq]
    exact law.begun (law.requests (Requests.withHandOver (requests_retire i s)) (law.weak h))

theorem quiesce (p : List Byte) (hlink : ∀ p, s.lif.link ≠ .working { req := .bindWrite, params := p }) (h : P s) :
    P (quiesce p s).1 := by
  obtain heq | ⟨hmode, -, -, heq⟩ := quiesce_cases p s
  · rwa [heq]
  · rw [heq]
    exact law.quiesced hmode hlink h

theorem resume (p : List Byte) (h : P s) : P (resume p s).1 := by
  obtain heq | ⟨hmode, -, heq⟩ := resume_cases p s
  · rwa [heq]
  · rw [heq]
    exact law.resumeRun hmode (law.weak h)

/-- A request other than BIND.WRITE, whose owner leaves the link. -/
theorem serves {r : Req} {body : List Byte → State → State × Reply} (hr : r ≠ .bindWrite)
    (hlink : ∀ p s, (body p s).1.lif.link = s.lif.link)
    (hb : ∀ p s, s.lif.link = .working { req := r, params := p } → P s → P (body p s).1) : ServeKeeps P r body :=
  fun p s hworking h => law.answered { req := r, params := p } _ (by rw [hlink, hworking]) (fun he => absurd he hr)
    (hb p s hworking h)

theorem steadyServes {r : Req} {body : List Byte → State → State × Reply} (hr : r ≠ .bindWrite)
    (hb : ∀ p s, Steady s (body p s).1) : ServeKeeps P r body :=
  law.serves hr (fun p s => (hb p s).link) fun p s _ h => law.steady (hb p s) h

theorem loading {bytes : List Byte} {found : Option Configuration} (hmode : s.mdc.mode = .loading) (h : P s) :
    P (Machine.scanInputs s.pins.levels (Machine.enterRun true (loadConfiguration found { s with store := bytes }))) := by
  have hloads := requests_loadConfiguration found { s with store := bytes }
  have hstored : B { s with store := bytes } := law.requests { Requests.refl s with } (law.weak h)
  have hloaded := law.requests hloads hstored
  have hloading : (loadConfiguration found { s with store := bytes }).mdc.mode ≠ .run := by simp [hloads.mode, hmode]
  generalize loadConfiguration found { s with store := bytes } = t at hloaded hloading ⊢
  exact law.scanInputs _ (law.enterRun true hloading rfl rfl rfl rfl hloaded)

theorem loaded (bytes : List Byte) (c : Configuration) (h : P s) :
    P (beginRequested (loadImage c { s with store := bytes })) := by
  have hstored : B { s with store := bytes } := law.requests { Requests.refl s with } (law.weak h)
  exact law.begun (law.requests (requests_loadImage c _) hstored)

theorem endOperation (f : Flag) (h : P s) : P (endOperation f s) := law.steady { Steady.refl s with } h

theorem setStore (bytes : List Byte) (h : P s) : P { s with store := bytes } := law.steady { Steady.refl s with } h

theorem effects : Effects P P where
  weak := fun _ h => h
  settle := fun _ h => law.settle h
  pop := fun s _ h => law.steady { Steady.refl s with } h
  frame := fun bytes _ h => law.takeFrame bytes h
  fetch := fun n s h => by
    obtain ⟨lif, heq, hholds, hidle⟩ := takeFetch_cases n s
    rw [heq]
    exact law.linked lif hholds (fun _ => hidle) h
  read := fun r body hr hbody => law.steadyServes hr fun p s => by rw [hbody]; exact .refl s
  statusClear := law.steadyServes (by decide) fun p s => .of_aside (statusClear_aside p s).1 (statusClear_aside p s).2
  enableSet := law.steadyServes (by decide) fun p s => .of_aside (enableChange_aside _ p s).1 (enableChange_aside _ p s).2
  enableClear := law.steadyServes (by decide) fun p s => .of_aside (enableChange_aside _ p s).1 (enableChange_aside _ p s).2
  channelRead := law.steadyServes (by decide) fun p s => .of_aside (channelRead_aside p s).1 (channelRead_aside p s).2
  channelRestore := law.steadyServes (by decide) fun p s =>
    .of_aside (channelRestore_aside p s).1 (channelRestore_aside p s).2
  claimRaise := law.steadyServes (by decide) steady_claimRaise
  claimAlter := law.steadyServes (by decide) steady_claimAlter
  claimRetire := law.serves (by decide) claimRetire_link fun p _ _ h => law.claimRetire p h
  holdSet := law.steadyServes (by decide) steady_holdSet
  circuitWrite := law.steadyServes (by decide) steady_circuitWrite
  flasherSet := law.steadyServes (by decide) steady_flasherSet
  profileWrite := law.steadyServes (by decide) steady_profileWrite
  groupWrite := law.steadyServes (by decide) steady_groupWrite
  bindWaits := fun p _ hlink hpass h => law.waits p hlink hpass h
  bindWrite := fun p s hlink hpass h => law.answered { req := .bindWrite, params := p } _ (by rw [bindWrite_link, hlink])
    (fun _ => ⟨s, h, hpass, bindWrite_waiting p s⟩) (law.bindWrite p h)
  gaugeSet := law.steadyServes (by decide) steady_gaugeSet
  quiesce := law.serves (by decide) quiesce_link fun p s hlink h => law.quiesce p (fun q => by simp [hlink]) h
  resume := law.serves (by decide) resume_link fun p _ _ h => law.resume p h
  storeSave := law.steadyServes (by decide) steady_storeSave
  storeLoad := law.steadyServes (by decide) steady_storeLoad
  outputs := fun c s t hc hstep h => by
    obtain ⟨f, hf, hexec⟩ := exec_movesOutputs hc s
    exact act_keeps (fun _ h => law.settle h) (fun s h => law.steady (.of_aside (hf s).1 (hf s).2) h) (hexec ▸ hstep) h
  levels := fun s _ h => law.steady { Steady.refl s with } h
  scan := fun levels _ _ h => law.scanInputs levels h
  passStep := fun _ hmode h => law.passStep hmode h
  evaluation := fun _ hruns h => law.begun (law.requests (requests_evaluation hruns) (law.weak h))
  count := fun f s i _ h => law.steady (steady_modifyClaim i f s) h
  recovery := fun s h => law.steady (steady_endRecovery s) h
  hostHold := fun s h => law.steady (steady_endHostHold s) h
  expiry := fun s i _ h => law.begun (law.requests (Requests.withHandOver (f := fun s => setFlag .claimExpired (retire i s))
    ((requests_retire i s).trans (steady_setFlag ..).toRequests)) (law.weak h))
  reset := fun cause s _ => law.reset cause s
  loading := fun _ _ _ hmode _ h => law.loading hmode h
  saved := fun _ _ _ h => law.endOperation _ (law.setStore _ h)
  saveFailed := fun s _ h => law.steady (steady_cutSaveFail s) h
  loaded := fun _ bytes c _ _ h => law.loaded bytes c h
  loadFailed := fun _ bytes _ h => law.endOperation _ (law.setStore bytes h)
  sleepEntry := fun _ hdoze h => law.slept hdoze h
  leaveReset := fun s _ h => law.steady { Steady.refl s with } h

end ModeLaw

end Sys2Proof.Machine

/-! PROOFS. The sleep entry timer, SLEEP's quiet and the passes are kept by every step: O57. -/

namespace Sys2Proof.Machine

/-! ### A step of a pass leaves Mode Control -/

theorem serveWaiting_mdc (s : State) : (serveWaiting s).mdc = s.mdc := by
  unfold serveWaiting
  split
  · rfl
  · next params _ =>
    dsimp only
    split
    · obtain heq | ⟨b, bytes, e, -, heq⟩ := bindWrite_cases params { s with bde := { s.bde with waiting := none } }
      · rw [heq]
        rfl
      · rw [heq]
        exact replaceBinding_mdc b e _
    · rfl

theorem passStep_mdc (s : State) : (passStep s).mdc = s.mdc := by
  unfold passStep
  split
  · rfl
  · next p _ =>
    have hmove := (move_takeBinding p p.next s).mdc
    dsimp only
    split
    · exact hmove
    · rw [endPass, beginRequested_mdc, serveWaiting_mdc, handOver_mdc]
      exact hmove

/-! ### The timer runs exactly while its conditions hold (R187) -/

theorem mayDoze_congr {s t : State} (hmode : t.mdc.mode = s.mdc.mode) (hop : t.mdc.op = s.mdc.op) (hsws : t.sws = s.sws)
    (hclt : t.clt = s.clt) (hlink : t.lif.link = s.lif.link) : mayDoze t = mayDoze s := by
  simp only [mayDoze, acceptedCode, saving, hmode, hop, hsws, hclt, hlink]

theorem timerFollows_settleTimer (s : State) : TimerFollows (settleTimer s) := by
  have hdoze : mayDoze (settleTimer s) = mayDoze s := mayDoze_congr rfl rfl rfl rfl rfl
  rw [TimerFollows, hdoze]
  unfold settleTimer
  dsimp only
  cases mayDoze s <;> rfl

theorem timerFollows_tick {s : State} (h : TimerFollows s) : TimerFollows (tick s) := by
  unfold tick
  split
  · exact h
  · have hdoze (f : Flasher) (c : Vector Channel 20) (timer : Option Nat) :
        mayDoze { s with fls := f, chd := c, mdc := { s.mdc with sleepTimer := timer } } = mayDoze s :=
      mayDoze_congr rfl rfl rfl rfl rfl
    rw [TimerFollows, hdoze, ← h]
    simp

/-- Every command but a reset and the leaving of reset is carried out with the timer settled after it. -/
theorem exec_eq_act (c : Instr) (s : State) :
    (∃ f, exec c s = act f s) ∨ (∃ cause, c = .reset cause) ∨ c = .leaveReset := by
  cases c
  case reset cause => exact .inr (.inl ⟨cause, rfl⟩)
  case leaveReset => exact .inr (.inr rfl)
  all_goals
    left
    dsimp only [
      exec, execClaimRaise, execClaimAlter, execClaimRetire, execClaimLookup, execClaimScan, execSupplyRead,
      execHoldSet, execCircuitRead, execCircuitWrite, execFlasherRead, execFlasherSet, execChannelRead,
      execChannelRestore, execProfileRead, execProfileWrite, execGroupRead, execGroupWrite, execBindRead,
      execBindWrite, execGaugeRead, execGaugeSet, execStatusRead, execStatusClear, execEnableRead,
      execEnableSet, execEnableClear, execPendingRead, execDeviceRead, execQuiesce, execResume, execStoreSave,
      execStoreLoad, execRequestFrame, execFetchFrame, execSwitchScan, execPassStep, execSupplySample,
      execBudgetEvaluation, execSettlePartExpiry, execHoldTimerExpiry, execCrankRecoveryEnd, execHostHoldEnd,
      execClaimExpiry, execLitExpiry, execDarkExpiry, execBulbCheckReading, execTickPulseEnd, execCurrentSample,
      execStallTrip, execChannelPeriodEnd, execMotorRampStep, execInrushWindowEnd, execContinuousOnForgive,
      execBackOffExpiry, execOpenLoadDetected, execOpenLoadCleared, execSenderSample, execGaugeUpdate,
      execFaultHoldEnd, execHeaterPeriodEnd, execLoadingComplete, execStoreSaveComplete, execStoreSaveFail,
      execStoreLoadComplete, execSleepEntry, serve]
    exact ⟨_, rfl⟩

theorem timerFollows_act {f : State → State} {s t : State} (hstep : act f s = .next t) (h : TimerFollows s) :
    TimerFollows t := by
  rw [act_eq] at hstep
  injection hstep with hstep
  subst hstep
  split
  · exact h
  · exact timerFollows_settleTimer _

theorem timerFollows_exec {c : Instr} {s t : State} (hstep : exec c s = .next t) (h : TimerFollows s) : TimerFollows t := by
  obtain ⟨f, hact⟩ | ⟨cause, rfl⟩ | rfl := exec_eq_act c s
  · exact timerFollows_act (hact ▸ hstep) h
  · have hreset : execReset cause s = .next t := hstep
    unfold execReset at hreset
    injection hreset with hreset
    subst hreset
    split
    · exact h
    · rfl
  · have hleave : execLeaveReset s = .next t := hstep
    unfold execLeaveReset at hleave
    injection hleave with hleave
    subst hleave
    split
    · exact h.trans (mayDoze_congr rfl rfl rfl rfl rfl).symm
    · exact h

theorem timerFollows_step {s t : State} (hstep : step s = .next t) (h : TimerFollows s) : TimerFollows t := by
  obtain ⟨-, rfl⟩ | ⟨c, rest, -, hexec⟩ := step_cases hstep
  · exact timerFollows_tick h
  · exact timerFollows_exec hexec (h.trans (mayDoze_congr rfl rfl rfl rfl rfl).symm)

/-! ### The values of the timer (R187) -/

/-- The timer shows its full time or what it showed before. -/
def TimerFrom (old : Option Nat) (s : State) : Prop := ∀ n, s.mdc.sleepTimer = some n → n = 30000 ∨ old = some n

theorem TimerFrom.of_eq {old : Option Nat} {s t : State} (htimer : t.mdc.sleepTimer = s.mdc.sleepTimer)
    (h : TimerFrom old s) : TimerFrom old t := by
  rwa [TimerFrom, htimer]

theorem timerFrom_restart {old : Option Nat} (s : State) : TimerFrom old (restartTimer s) := by
  intro n hn
  simp only [restartTimer, Option.map_eq_some_iff] at hn
  obtain ⟨-, -, rfl⟩ := hn
  exact .inl rfl

theorem timerFrom_law (old : Option Nat) : ModeLaw (TimerFrom old) (TimerFrom old) where
  weak h := h
  steady hsteady h := h.of_eq hsteady.timer
  requests hreq h := h.of_eq hreq.timer
  begun h := h.of_eq (by simp)
  restart _ := timerFrom_restart _
  restartWeak _ := timerFrom_restart _
  entered _ _ htimer _ _ _ h := h.of_eq htimer
  settle {s} h := by
    intro n hn
    simp only [settleTimer] at hn
    split at hn
    · cases hs : s.mdc.sleepTimer with
      | none =>
        rw [hs] at hn
        exact .inl (Option.some_inj.mp hn).symm
      | some m =>
        rw [hs] at hn
        obtain rfl : m = n := Option.some_inj.mp hn
        exact h m hs
    · contradiction
  linked _ _ _ h := h
  answered _ _ _ _ h := h
  waits _ _ _ h := h
  quiesced _ _ h := h.of_eq (by simp)
  slept _ h := h.of_eq (by simp [dropReply, setLinkState])
  passStep _ h := h.of_eq (by rw [passStep_mdc])
  reset cause s := by
    have htimer : (resetState cause s).mdc.sleepTimer = none := rfl
    intro n hn
    rw [htimer] at hn
    contradiction

/-! ### SLEEP and LOADING are quiet (R24, R159, R187) -/

theorem sleepQuiet_of_awake {s : State} (hsleep : s.mdc.mode ≠ .sleep) (hloading : s.mdc.mode ≠ .loading) :
    SleepQuiet s := ⟨fun h => absurd h hsleep, fun h => absurd h hloading⟩

theorem SleepQuiet.requests {s t : State} (hreq : Requests s t) (h : SleepQuiet s) : SleepQuiet t := by
  have hlive (hm : budgetRuns s = false) := hreq.live hm
  refine ⟨fun hm => ?_, fun hm => ?_⟩
  · rw [hreq.mode] at hm
    rw [hreq.link]
    exact ⟨hlive (by simp [budgetRuns, hm]) (h.1 hm).1, (h.1 hm).2⟩
  · rw [hreq.mode] at hm
    exact hlive (by simp [budgetRuns, hm]) (h.2 hm)

theorem steady_stopBudget (s : State) : Steady s (stopBudget s) :=
  ((steady_endHostHold s).trans (steady_endRecovery _)).trans { Steady.refl (endRecovery (endHostHold s)) with }

theorem sleepQuiet_law : ModeLaw SleepQuiet SleepQuiet where
  weak h := h
  steady hsteady h := h.requests hsteady.toRequests
  requests hreq h := h.requests hreq
  begun {s} h := by
    rw [SleepQuiet, beginRequested_mdc, beginRequested_clt, beginRequested_lif]
    exact h
  restart h := h
  restartWeak h := h
  entered _ hmode _ _ _ _ _ := sleepQuiet_of_awake (by simp [hmode]) (by simp [hmode])
  settle h := h
  linked lif _ hidle h := ⟨fun hm => ⟨(h.1 hm).1, hidle hm (h.1 hm).2⟩, h.2⟩
  answered r reply hlink _ h := by
    refine ⟨fun hm => ?_, h.2⟩
    have hidle := (h.1 hm).2
    rw [hlink] at hidle
    contradiction
  waits _ _ _ h := h
  quiesced _ _ _ := sleepQuiet_of_awake (by simp) (by simp)
  slept {s} hdoze h := by
    obtain ⟨-, -, hnone, -⟩ := (mayDoze_iff s).mp hdoze
    have hstill := (steady_stopBudget (leaveRun .sleep s)).live (by simp [budgetRuns]) (by simpa using hnone)
    exact ⟨fun _ => ⟨hstill, rfl⟩, fun _ => hstill⟩
  passStep {s} hmode _ := by
    rw [← passStep_mdc s] at hmode
    exact sleepQuiet_of_awake (by simp [hmode]) (by simp [hmode])
  reset cause s := by
    have hmode : (resetState cause s).mdc.mode = .loading := rfl
    have hclt : noClaims (resetState cause s).clt = true := (noClaims_iff_claimAt State.reset).mpr claimAt_reset
    exact ⟨fun h => by simp [hmode] at h, fun _ => hclt⟩

/-! ### The passes (R126, R127) -/

/-- A pass runs in RUN alone, and a BIND.WRITE waits only for a running pass, the link WORKING with it. -/
structure PassBase (s : State) : Prop where
  running : s.bde.pass.isSome = true → s.mdc.mode = .run
  waiting : ∀ p : List Byte, s.bde.waiting = some p →
    s.bde.pass.isSome = true ∧ s.lif.link = .working { req := .bindWrite, params := p }

theorem PassesSound.base {s : State} (h : PassesSound s) : PassBase s := ⟨h.1, h.2.2⟩

theorem PassBase.of_eq {s t : State} (hmode : t.mdc.mode = s.mdc.mode) (hlink : t.lif.link = s.lif.link)
    (hpass : t.bde.pass = s.bde.pass) (hwaiting : t.bde.waiting = s.bde.waiting) (h : PassBase s) : PassBase t :=
  ⟨by rw [hpass, hmode]; exact h.running, by rw [hpass, hwaiting, hlink]; exact h.waiting⟩

/-- In RUN the passes are sound once a requested one has begun (R126). -/
theorem passesSound_begun {s : State} (h : PassBase s) : PassesSound (beginRequested s) := by
  unfold beginRequested
  split
  · next hready =>
    simp only [Bool.and_eq_true, beq_iff_eq] at hready
    obtain ⟨⟨hmode, -⟩, -⟩ := hready
    exact ⟨fun _ => hmode, fun _ _ => rfl, fun p hp => ⟨rfl, (h.waiting p hp).2⟩⟩
  · next hready =>
    refine ⟨h.running, fun hmode hrequested => ?_, h.waiting⟩
    cases hp : s.bde.pass with
    | some p => rfl
    | none => simp [hmode, hp, hrequested] at hready

theorem passesSound_of_idle {s : State} (hmode : s.mdc.mode ≠ .run) (hpass : s.bde.pass = none)
    (hwaiting : s.bde.waiting = none) : PassesSound s :=
  ⟨fun h => by simp [hpass] at h, fun h => absurd h hmode, fun p h => by simp [hwaiting] at h⟩

theorem abandonPass_kept (s : State) : (abandonPass s).bde.pass = none ∧ (abandonPass s).bde.waiting = s.bde.waiting := by
  unfold abandonPass
  split
  · next hnone => exact ⟨hnone, rfl⟩
  · exact ⟨by simp [requestPass], by simp [requestPass]⟩

/-- No BIND.WRITE waits while the link does not hold one. -/
theorem waiting_none {s : State} (h : PassesSound s)
    (hlink : ∀ p, s.lif.link ≠ .working { req := .bindWrite, params := p }) : s.bde.waiting = none :=
  Option.eq_none_iff_forall_ne_some.mpr fun p hp => hlink p (h.2.2 p hp).2

theorem passesSound_leaveRun {m : Mode} {s : State} (hm : m ≠ .run) (hwaiting : s.bde.waiting = none) :
    PassesSound (leaveRun m s) := by
  obtain ⟨hpass, hkept⟩ := abandonPass_kept { s with mdc := { s.mdc with mode := m } }
  exact passesSound_of_idle (by simpa using hm) (by rw [leaveRun_bde, hpass]) (by rw [leaveRun_bde, hkept, hwaiting])

theorem serveWaiting_waiting (s : State) : (serveWaiting s).bde.waiting = none := by
  unfold serveWaiting
  split
  · next hnone => exact hnone
  · next params _ =>
    dsimp only
    split
    · exact bindWrite_waiting params { s with bde := { s.bde with waiting := none } }
    · rfl

theorem passesSound_endPass (p : Pass) {s : State} (hmode : s.mdc.mode = .run) : PassesSound (endPass p s) := by
  have hrun : (handOver p.touched { s with bde := { s.bde with pass := none } }).mdc.mode = .run := by simp [hmode]
  unfold endPass
  generalize handOver p.touched { s with bde := { s.bde with pass := none } } = u at hrun ⊢
  refine passesSound_begun ⟨fun _ => by rw [serveWaiting_mdc, hrun], fun q hq => ?_⟩
  rw [serveWaiting_waiting] at hq
  contradiction

theorem passesSound_passStep {s : State} (hmode : s.mdc.mode = .run) (h : PassesSound s) : PassesSound (passStep s) := by
  unfold passStep
  split
  · exact h
  · next p hp =>
    have hmove := move_takeBinding p p.next s
    dsimp only
    split
    · refine ⟨fun _ => by rw [hmove.mdc, hmode], fun _ _ => rfl, fun q hq => ⟨rfl, ?_⟩⟩
      rw [hmove.waiting] at hq
      rw [hmove.link]
      exact (h.2.2 q hq).2
    · exact passesSound_endPass _ (by rw [hmove.mdc, hmode])

theorem passesSound_of_steady {s t : State} (hsteady : Steady s t) (h : PassesSound s) : PassesSound t := by
  refine ⟨?_, ?_, ?_⟩
  · rw [hsteady.pass, hsteady.mode]; exact h.1
  · rw [hsteady.pass, hsteady.mode, hsteady.requested]; exact h.2.1
  · rw [hsteady.pass, hsteady.waiting, hsteady.link]; exact h.2.2

theorem tick_lif_bde (s : State) : (tick s).lif = s.lif ∧ (tick s).bde = s.bde := by
  unfold tick
  split <;> exact ⟨rfl, rfl⟩

theorem sleepQuiet_tick {s : State} (h : SleepQuiet s) : SleepQuiet (tick s) := by
  obtain ⟨hmode, -, -, -, -, hclt⟩ := tick_beside s
  rwa [SleepQuiet, hmode, hclt, (tick_lif_bde s).1]

theorem passesSound_tick {s : State} (h : PassesSound s) : PassesSound (tick s) := by
  rwa [PassesSound, (tick_beside s).1, (tick_lif_bde s).1, (tick_lif_bde s).2]

theorem passesSound_law : ModeLaw PassesSound PassBase where
  weak h := h.base
  steady hsteady h := passesSound_of_steady hsteady h
  requests hreq h := h.of_eq hreq.mode hreq.link hreq.pass hreq.waiting
  begun h := passesSound_begun h
  restart h := h
  restartWeak h := ⟨h.running, h.waiting⟩
  entered hmode hrun _ hlink hpass hwaiting h := by
    refine ⟨fun _ => hrun, fun p hp => absurd (h.running ?_) hmode⟩
    rw [hwaiting] at hp
    exact (h.waiting p hp).1
  settle h := h
  linked lif hholds _ h := ⟨h.1, h.2.1, fun p hp => ⟨(h.2.2 p hp).1, hholds _ (h.2.2 p hp).2⟩⟩
  answered {s} r reply hlink hbind h := by
    have hnone : s.bde.waiting = none := by
      by_cases hr : r.req = .bindWrite
      · obtain ⟨t, ht, hpass, heq⟩ := hbind hr
        refine heq.trans (Option.eq_none_iff_forall_ne_some.mpr fun p hp => ?_)
        simp [(ht.2.2 p hp).1] at hpass
      · refine waiting_none h fun p hp => hr ?_
        rw [hlink] at hp
        injection hp with hp
        rw [hp]
    refine ⟨h.1, h.2.1, fun p hp => ?_⟩
    have hp : s.bde.waiting = some p := hp
    rw [hnone] at hp
    contradiction
  waits {s} p hlink hpass h :=
    ⟨h.1, h.2.1, fun q hq => ⟨hpass, by obtain rfl : p = q := Option.some_inj.mp hq; exact hlink⟩⟩
  quiesced _ hlink h := passesSound_leaveRun (by simp) (waiting_none h hlink)
  slept {s} hdoze h := by
    obtain ⟨-, -, -, -, hlink⟩ := (mayDoze_iff s).mp hdoze
    have hleft := passesSound_leaveRun (m := .sleep) (by simp) (waiting_none h fun p => hlink _)
    have hbudget := passesSound_of_steady (steady_stopBudget (leaveRun .sleep s)) hleft
    have hasleep : (stopBudget (leaveRun .sleep s)).mdc.mode ≠ .run := by simp
    generalize stopBudget (leaveRun .sleep s) = t at hbudget hasleep ⊢
    refine ⟨hbudget.1, hbudget.2.1, fun p hp => absurd (hbudget.1 (hbudget.2.2 p hp).1) hasleep⟩
  passStep hmode h := passesSound_passStep hmode h
  reset cause s := by
    have hbde : (resetState cause s).bde = State.reset.bde := rfl
    have hmode : (resetState cause s).mdc.mode = .loading := rfl
    exact passesSound_of_idle (by simp [hmode]) (by rw [hbde]; rfl) (by rw [hbde]; rfl)

theorem timerFrom_exec {c : Instr} {s t : State} (hstep : exec c s = .next t) : TimerFrom s.mdc.sleepTimer t :=
  (timerFrom_law s.mdc.sleepTimer).effects.exec hstep fun _ hn => .inr hn

/-- The timer after a step: from a stopped one at its full time, and from a running one so, as it was, or run down. -/
theorem timer_step {s t : State} (hstep : step s = .next t) (n : Nat) (hn : t.mdc.sleepTimer = some n) :
    n = 30000 ∨ s.mdc.sleepTimer = some n ∨ s.pending = [] ∧ ∃ m, s.mdc.sleepTimer = some m ∧ n = m - 1 := by
  obtain ⟨hpending, rfl⟩ | ⟨c, rest, -, hexec⟩ := step_cases hstep
  · unfold tick at hn
    split at hn
    · exact .inr (.inl hn)
    · simp only [Option.map_eq_some_iff] at hn
      obtain ⟨m, hm, rfl⟩ := hn
      unfold runDown
      split
      · exact .inr (.inl hm)
      · exact .inr (.inr ⟨hpending, m, hm, rfl⟩)
  · exact (timerFrom_exec hexec n hn).imp_right .inl

/-- Settles O57: the timer by its settling after every command, the rest by the parts of a step. -/
theorem modesKept : Obligations.ModesKept := by
  refine ⟨fun s t ⟨htimer, hquiet, hload⟩ hstep => ⟨timerFollows_step hstep htimer,
    sleepQuiet_law.effects.of_step (fun _ _ => sleepQuiet_tick) hstep hquiet, loadsQuiesced_law.of_step hstep hload⟩,
    fun s t hstep n hn => ?_, fun s t h hstep => passesSound_law.effects.of_step (fun _ _ => passesSound_tick) hstep h⟩
  obtain hfull | hsame | ⟨hpending, m, hm, hdown⟩ := timer_step hstep n hn
  · cases s.mdc.sleepTimer with
    | none => exact hfull
    | some m => exact .inl hfull
  · rw [hsame]
    exact .inr (.inl rfl)
  · rw [hm]
    exact .inr (.inr ⟨hpending, hdown⟩)

end Sys2Proof.Machine

/-! PROOFS. The state after reset, the reset and its release, and the passing of a millisecond: O2, O3, O4. -/

namespace Sys2Proof.Machine

/-! ### The state after reset (O4) -/

theorem reset_mode : State.reset.mdc.mode = .loading := rfl

theorem reset_not_run : State.reset.mdc.mode ≠ .run := by simp [reset_mode]

theorem reset_chd : State.reset.chd = tabulate fun ch => resetChannel (defaultProfile ch) := rfl

theorem reset_gau : State.reset.gau = tabulate fun _ => resetGauge defaultGauge := rfl

theorem eachChannel_reset {C : Bool → Channel → Prop} {W : Channel → Prop} (law : ChannelLaw C W) :
    EachChannel C State.reset := fun ch => by
  have hrun : (State.reset.mdc.mode == .run) = false := rfl
  rw [hrun, reset_chd, tabulate_get]
  exact law.reset _

theorem heatersSafe_reset : HeatersSafe State.reset :=
  (heatersSafe_iff _).mpr (.of_off fun g => by rw [reset_gau, tabulate_get]; exact ⟨rfl, rfl, rfl⟩)

theorem flasherFollows_reset : FlasherFollows State.reset :=
  iff_of_false (fun h => h rfl) fun h => reset_not_run h.2

theorem sleepQuiet_reset : SleepQuiet State.reset :=
  ⟨fun h => by simp [reset_mode] at h, fun _ => (noClaims_iff_claimAt _).mpr claimAt_reset⟩

theorem loadsQuiesced_reset : LoadsQuiesced State.reset := fun h => by
  have hop : State.reset.mdc.op = .none := rfl
  rw [hop] at h
  contradiction

theorem demandsFollow_reset_state : DemandsFollow State.reset :=
  (demandsFollow_iff_outside_run reset_not_run).mpr fun ch => by rw [reset_chd, tabulate_get]; rfl

theorem configurationSound_reset : ConfigurationSound State.reset := by
  have hsame : SameConfig (resetState .powerOn State.reset) State.reset :=
    ⟨fun _ => rfl, rfl, rfl, rfl, rfl, fun _ => rfl, rfl⟩
  exact (configurationSound_iff _).mpr ((ConfigFits.reset .powerOn State.reset).same hsame)

/-- Settles O4, property by property: no claim is live, no pass runs, and no channel or gauge is driven. -/
theorem resetMeetsInvariants : Obligations.ResetMeetsInvariants :=
  ⟨exact_reset.1, exact_reset.2, (claimsSound_iff _).mpr claimsFit_reset, (ownersSound_iff _).mpr owned_reset,
    (channelsSound_iff _).mpr (eachChannel_reset soundIn_law), heatersSafe_reset, flasherFollows_reset, rfl,
    sleepQuiet_reset, loadsQuiesced_reset, demandsFollow_reset_state, resolutionFollows_outside_run reset_not_run,
    passesSound_of_idle reset_not_run rfl rfl, configurationSound_reset,
    (drivesFollow_iff _).mpr (eachChannel_reset actsIn_law)⟩

/-! ### The reset and its release (O3) -/

theorem reset_slots : State.reset.clt.slots = tabulate fun _ => { gen := 0, claim := none } := rfl

theorem unsettled_reset (cause : ResetCause) (s : State) : unsettled (resetState cause s) = 0 := by
  have hslots : (resetState cause s).clt.slots = tabulate fun _ => { gen := 0, claim := none } := rfl
  rw [unsettled, hslots]
  decide

/-- A store whose format number is 0 holds no valid image. -/
theorem readImage_unknown (rest : List Byte) : readImage (0 :: 0 :: rest) = none := by
  unfold readImage
  rw [if_neg]
  rintro ⟨hheader, -⟩
  have hsecond := congrArg (fun bytes => bytes[1]?) hheader
  simp [slice, be16, byte] at hsecond

theorem resetState_store (cause : ResetCause) (s : State) :
    (resetState cause s).store = (cutSave s).store ∧ (resetState cause s).freeCount = (cutSave s).freeCount :=
  ⟨rfl, rfl⟩

theorem cutSave_of_not_saving {s : State} (h : ∀ image, s.mdc.op ≠ .save image) : cutSave s = s := by
  unfold cutSave
  cases hop : s.mdc.op with
  | save image => exact absurd hop (h image)
  | none => rfl
  | load => rfl

theorem cutSave_halfSaved {s : State} {image : List Byte} (h : s.mdc.op = .save image) :
    HalfSaved image s.store (cutSave s).store := by
  have hstore : (cutSave s).store = 0 :: 0 :: ((image.drop 2).take (Config.freeWritten s.freeCount).val
      ++ s.store.drop (2 + ((image.drop 2).take (Config.freeWritten s.freeCount).val).length)) := by
    unfold cutSave
    rw [h]
  rw [hstore]
  exact ⟨readImage_unknown _, _, by have := (Config.freeWritten s.freeCount).isLt; omega, rfl⟩

theorem cutSave_pins_pending (s : State) : (cutSave s).pins = s.pins ∧ (cutSave s).pending = s.pending := by
  unfold cutSave
  split <;> exact ⟨rfl, rfl⟩

theorem exec_held {c : Instr} {s : State} (hheld : s.mdc.heldInReset = true) (hc : c ≠ .leaveReset) :
    exec c s = .next s := by
  obtain ⟨f, hact⟩ | ⟨cause, rfl⟩ | rfl := exec_eq_act c s
  · rw [hact, act_eq, if_pos hheld]
  · change execReset cause s = .next s
    rw [execReset, if_pos hheld]
  · exact absurd rfl hc

/-- The tables of every block after a reset. -/
theorem resetState_tables (cause : ResetCause) (s : State) :
    (resetState cause s).clt.slots = tabulate (fun _ => { gen := 0, claim := none })
      ∧ (resetState cause s).crs.resolved = tabulate (fun _ => .off)
      ∧ (resetState cause s).crs.pendingEntry = tabulate (fun _ => none)
      ∧ (resetState cause s).crs.flashSet = tabulate (fun _ => false)
      ∧ (resetState cause s).fls.failed = tabulate (fun _ => false)
      ∧ (resetState cause s).chd = tabulate (fun ch => resetChannel (defaultProfile ch))
      ∧ (resetState cause s).sws.recs = tabulate (fun _ => resetGroupRec)
      ∧ (resetState cause s).bde.recs = tabulate (fun _ => resetBindRec)
      ∧ (resetState cause s).gau = tabulate (fun _ => resetGauge defaultGauge) :=
  ⟨rfl, rfl, rfl, rfl, rfl, rfl, rfl, rfl, rfl⟩

/-- Settles O3: a reset leaves the values after reset but for what lies outside the part, and a held part stands. -/
theorem resetAndRelease : Obligations.ResetAndRelease := by
  refine ⟨fun cause s hawake => ⟨resetState cause s, ?_, ?_⟩, fun c s => exec_held, fun s hheld => ?_, fun s hawake => ?_⟩
  · change execReset cause s = _
    rw [execReset, if_neg (by simp [hawake])]
  · obtain ⟨hpins, hpending⟩ := cutSave_pins_pending s
    obtain ⟨hslots, hresolved, hentry, hset, hfailed, hchd, hrecs, hbinds, hgau⟩ := resetState_tables cause s
    refine ⟨fun i => ⟨claimAt_reset i, ?_⟩, rfl, rfl, rfl, rfl, rfl, rfl, rfl, rfl, rfl, unsettled_reset cause s,
      fun c => ⟨?_, ?_⟩, rfl, fun ch => ?_, rfl, rfl, rfl, fun ch => ?_, fun ch => ?_, fun g => ?_, fun b => ?_, rfl, rfl, rfl,
      fun g => ?_, rfl, rfl, rfl, rfl, fun h => ?_, fun image h => ?_, hpins, hpending⟩
    · rw [hslots, tabulate_get]
    · rw [hresolved, tabulate_get]
    · rw [hentry, tabulate_get]
    · rw [hset, tabulate_get]
    · rw [hfailed, tabulate_get]
    · rw [hchd, tabulate_get]
      exact ⟨rfl, rfl, rfl, rfl, rfl, rfl, rfl, rfl, rfl, rfl, rfl, rfl, rfl, rfl⟩
    · rw [hrecs, tabulate_get]
      rfl
    · rw [hbinds, tabulate_get]
      rfl
    · rw [hgau, tabulate_get]
      exact ⟨rfl, rfl, rfl, rfl, rfl, rfl, rfl, rfl, rfl⟩
    · rw [(resetState_store cause s).1, (resetState_store cause s).2, cutSave_of_not_saving h]
      exact ⟨rfl, rfl⟩
    · rw [(resetState_store cause s).1]
      exact cutSave_halfSaved h
  · change execLeaveReset s = _
    rw [execLeaveReset, if_pos hheld]
  · change execLeaveReset s = _
    rw [execLeaveReset, if_neg (by simp [hawake])]

/-! ### The passing of a millisecond (O2) -/

theorem tick_held {s : State} (h : s.mdc.heldInReset = true) : tick s = s := by
  unfold tick
  rw [if_pos h]

theorem tick_awake {s : State} (h : Awake s) : tick s =
    { s with
      fls := { s.fls with
        phase := s.fls.phase.tick (mapTbl (fun c => c.state.isOn) s.chd), tickPulse := s.fls.tickPulse.map runDown }
      chd := tabulate fun ch => (s.chd.get ch).tick (watched s ch)
      mdc := { s.mdc with sleepTimer := s.mdc.sleepTimer.map runDown } } := by
  unfold tick
  rw [if_neg (by simp [h])]

theorem tick_channel {s : State} (h : Awake s) (ch : Chan) :
    (tick s).chd.get ch = (s.chd.get ch).tick (watched s ch) := by
  rw [tick_awake h]
  exact tabulate_get ..

theorem watched_iff (s : State) (ch : Chan) : watched s ch = true ↔ s.mdc.mode = .run ∧ (s.chd.get ch).state.isOn = true
    ∧ (s.chd.get ch).demand = 1000 ∧ s.crs.flashSet.get ch = false := by
  simp [watched, and_assoc]

theorem stalling_iff (c : Channel) : c.stalling = true ↔ c.profile.kind = .motor ∧ c.state.isOn = true
    ∧ 0 < c.profile.stall ∧ c.profile.stall ≤ min 400 (c.samples.sum / c.samples.length) := by
  simp [Channel.stalling, Channel.measured, meanNat, and_assoc]

/-- What a millisecond leaves of a part: every time aside, it stands. -/
theorem tick_frame (s : State) :
    (tick s).clt = s.clt ∧ (tick s).sbu = s.sbu ∧ (tick s).crs = s.crs ∧ (tick s).sws = s.sws ∧ (tick s).bde = s.bde
      ∧ (tick s).gau = s.gau ∧ (tick s).lif = s.lif ∧ (tick s).pins = s.pins ∧ (tick s).store = s.store
      ∧ (tick s).freeCount = s.freeCount ∧ (tick s).pending = s.pending
      ∧ (tick s).mdc = { s.mdc with sleepTimer := (tick s).mdc.sleepTimer }
      ∧ (tick s).fls = { s.fls with phase := (tick s).fls.phase, tickPulse := (tick s).fls.tickPulse } := by
  unfold tick
  split <;> exact ⟨rfl, rfl, rfl, rfl, rfl, rfl, rfl, rfl, rfl, rfl, rfl, rfl, rfl⟩

theorem tick_channel_frame (s : State) (ch : Chan) : (tick s).chd.get ch =
    { s.chd.get ch with
      state := ((tick s).chd.get ch).state, stallTime := ((tick s).chd.get ch).stallTime
      lowTime := ((tick s).chd.get ch).lowTime, goodTime := ((tick s).chd.get ch).goodTime } := by
  by_cases h : s.mdc.heldInReset = true
  · rw [tick_held h]
  · rw [tick_channel (by simpa using h)]
    rfl

/-- The check list of a LIT phase, a millisecond later (R75). -/
theorem tick_lit {s : State} (h : Awake s) {rate n : Nat} {checks : Vector (Option CheckEntry) 20}
    (hphase : s.fls.phase = .lit rate n checks) : (tick s).fls.phase = .lit rate (runDown n) (tabulate fun ch =>
      match checks.get ch with
      | some (.pending joined time) =>
        some (.pending joined (if (s.chd.get ch).state.isOn then runUp 20 time else time))
      | some .pass => some .pass
      | some .fail => some .fail
      | some .unjudged => some .unjudged
      | none => none) := by
  rw [tick_awake h]
  dsimp only
  rw [hphase, Phase.tick]
  congr 2
  funext ch
  rw [mapTbl_get]
  obtain _ | _ | _ | _ | _ := checks.get ch <;> rfl

/-- The times of a channel, a millisecond later (R91, R93, R97, R99, R102). -/
theorem tick_times (w : Bool) (c : Channel) :
    (c.tick w).state = (match c.state with
      | .off => .off
      | .softstart n => .softstart (n.map (runUp c.profile.inrush))
      | .on n => .on (runUp 10000 n)
      | .tripped n => .tripped (runDown n)
      | .locked cycle => .locked cycle)
      ∧ (c.tick w).stallTime = (if c.stalling then runUp 1000 c.stallTime else c.stallTime)
      ∧ (c.tick w).lowTime = (if w && decide (c.measured < c.profile.openLoad) then runUp 500 c.lowTime else c.lowTime)
      ∧ (c.tick w).goodTime = (if w && decide (c.profile.openLoad ≤ c.measured) then runUp 500 c.goodTime else c.goodTime) := by
  refine ⟨?_, rfl, rfl, rfl⟩
  unfold Channel.tick ChanState.tick
  dsimp only
  cases c.state <;> rfl

/-- Settles O2: the passing of a millisecond, part by part. -/
theorem quietStep : Obligations.QuietStep := by
  intro s hpending
  obtain ⟨hclt, hsbu, hcrs, hsws, hbde, hgau, hlif, hpins, hstore, hfree, hqueue, hmdc, hfls⟩ := tick_frame s
  refine ⟨tick s, step_quiet hpending, tick_held, hclt, hsbu, hcrs, hsws, hbde, hgau, hlif, hpins, hstore, hfree,
    hqueue.trans hpending, hmdc, hfls, tick_channel_frame s, fun hawake => ⟨?_, ?_, ?_, ?_, ?_, fun ch => ?_⟩⟩
  · rw [tick_awake hawake]; rfl
  · rw [tick_awake hawake]; rfl
  · intro hidle
    rw [tick_awake hawake]
    dsimp only
    rw [hidle]
    rfl
  · intro rate n hdark
    rw [tick_awake hawake]
    dsimp only
    rw [hdark]
    rfl
  · intro rate n checks hlit
    exact tick_lit hawake hlit
  · obtain ⟨hstate, hstall, hlow, hgood⟩ := tick_times (watched s ch) (s.chd.get ch)
    dsimp only
    rw [tick_channel hawake, hstate, hstall, hlow, hgood]
    refine ⟨rfl, if_congr (stalling_iff _) rfl rfl, if_congr ?_ rfl rfl, if_congr ?_ rfl rfl⟩
    all_goals
      rw [Bool.and_eq_true, watched_iff, decide_eq_true_iff]
      rfl

end Sys2Proof.Machine

/-! PROOFS. The reads of the blocks: O6. -/

namespace Sys2Proof.Machine

/-! ### Numbers formed of digits (R169, R172) -/

/-- A number formed digit by digit, lowest first. -/
theorem foldl_digits (b : Nat) {n : Nat} (f : Fin n → Nat) :
    (List.finRange n).foldl (fun a i => a + f i * b ^ i.val) 0 = Nat.ofDigits b (List.ofFn f) := by
  induction n with
  | zero => rfl
  | succ n ih =>
    rw [List.finRange_succ_last, List.foldl_append, List.foldl_map, List.ofFn_succ', List.concat_eq_append,
      Nat.ofDigits_append, List.length_ofFn, ← ih]
    simp [Nat.mul_comm]

section
variable {b n : Nat} {f : Fin n → Nat}

theorem digits_lt (hb : 1 < b) (hf : ∀ i, f i < b) : (List.finRange n).foldl (fun a i => a + f i * b ^ i.val) 0 < b ^ n := by
  rw [foldl_digits]
  have hlt := Nat.ofDigits_lt_base_pow_length hb (l := List.ofFn f) (by simpa [List.mem_ofFn] using hf)
  rwa [List.length_ofFn] at hlt

/-- Each digit of the number formed. -/
theorem digit_eq (hb : 1 < b) (hf : ∀ i, f i < b) (k : Fin n) :
    (List.finRange n).foldl (fun a i => a + f i * b ^ i.val) 0 / b ^ k.val % b = f k := by
  rw [foldl_digits, Nat.ofDigits_div_pow_eq_ofDigits_drop _ (by omega) _ (by simpa [List.mem_ofFn] using hf),
    List.drop_eq_getElem_cons (by simp), Nat.ofDigits_cons, Nat.add_mul_mod_self_left, List.getElem_ofFn,
    Nat.mod_eq_of_lt (hf _)]

end

/-- The number of a set of channels formed of its bits. -/
theorem chanSetNat_eq (v : Vector Bool 20) :
    chanSetNat v = (List.finRange 20).foldl (fun a i => a + (v.get i).toNat * 2 ^ i.val) 0 := by
  unfold chanSetNat
  congr 1
  funext a i
  cases v.get i <;> simp

theorem chanSetNat_lt (v : Vector Bool 20) : chanSetNat v < 2 ^ 20 := by
  rw [chanSetNat_eq]
  exact digits_lt (by decide) fun i => Bool.toNat_lt _

theorem testBit_chanSetNat (v : Vector Bool 20) (ch : Chan) : (chanSetNat v).testBit ch.val = v.get ch := by
  rw [Nat.testBit_eq_decide_div_mod_eq, chanSetNat_eq, digit_eq (by decide) fun i => Bool.toNat_lt _]
  cases v.get ch <;> rfl

/-! ### The reads -/

theorem checkCode_lt (p : Phase) (ch : Chan) : ((p.check ch).map CheckEntry.code).getD 0 < 4 := by
  cases p.check ch with
  | none => decide
  | some e =>
    cases e with
    | pending joined n => cases joined <;> simp [CheckEntry.code]
    | pass => decide
    | fail => decide
    | unjudged => decide

theorem checkBits_lt (p : Phase) : p.checkBits < 2 ^ 40 := digits_lt (b := 4) (n := 20) (by decide) (checkCode_lt p)

theorem checkBits_digit (p : Phase) (ch : Chan) :
    p.checkBits / 2 ^ (2 * ch.val) % 4 = ((p.check ch).map CheckEntry.code).getD 0 := by
  rw [show (2 : Nat) ^ (2 * ch.val) = 4 ^ ch.val by rw [Nat.pow_mul]]
  exact digit_eq (by decide) (checkCode_lt p) ch

/-- Settles O6: each read answers with the fields of its block. -/
theorem blockReads : Obligations.BlockReads := by
  refine ⟨fun s h => ?_, fun s h => ?_, fun s h => ?_, fun r hr s p hp h => ?_⟩
  · refine (serve_readAll_nil h supplyFields).trans ?_
    unfold supplyFields
    cases s.sbu.crank <;> cases s.sbu.hostHold <;> rfl
  · exact serve_readAll_nil h deviceFields
  · refine ⟨flasherFields s, serve_readAll_nil h flasherFields, rfl, rfl, chanSetNat s.fls.failed,
      chanSetNat s.fls.phase.checkSet, s.fls.phase.checkBits, chanSetNat_lt _, chanSetNat_lt _, checkBits_lt _, rfl,
      fun ch => ?_⟩
    dsimp only
    rw [checkBits_digit, testBit_chanSetNat, testBit_chanSetNat, Phase.checkSet, tabulate_get]
    refine ⟨rfl, rfl, fun he => ?_, fun n he => ?_, fun he => ?_, fun he => ?_, fun n he => ?_⟩ <;> simp [he, CheckEntry.code]
  · fin_cases hr
    · exact serve_readAll_params h hp supplyFields
    · exact serve_readAll_params h hp flasherFields
    · exact serve_readAll_params h hp deviceFields

end Sys2Proof.Machine

/-! PROOFS. Admission and the reads of claims: O14, O18. -/

namespace Sys2Proof.Machine

/-! ### Admission (R34, R35, R36) -/

theorem fittingLevel_none {s : State} {c : Claim} {room : Int}
    (hover : ∀ l, c.floor ≤ l → l ≤ c.requested → room < (claimShare s c l : Int)) : fittingLevel s c room = none := by
  rw [fittingLevel, levelsDown, List.find?_map, Option.map_eq_none_iff, List.find?_eq_none]
  intro j hj
  rw [List.mem_range] at hj
  have := hover (c.requested - j) (by omega) (by omega)
  simpa using this

/-- The standing hold reasons of a class, in the words of R34. -/
theorem standingHolds_eq (s : State) (k : ClaimClass) : standingHolds s k =
    { budgetTimer := none
      crank := decide (s.sbu.crank ≠ .none) && (k = .comfort || k = .auxiliary)
      host := match s.sbu.hostHold with
        | some h => k = .lighting && h.lighting || k = .comfort && h.comfort || k = .auxiliary && h.auxiliary
        | none => false } := by
  unfold standingHolds HostHold.covers
  cases s.sbu.hostHold <;> cases k <;> cases s.sbu.crank <;> simp [ClaimClass.crankHeld, bne]

theorem admissionOf_held {s : State} {c : Claim} (h : (standingHolds s c.cls).isEmpty = false) :
    admissionOf s c = .hold (standingHolds s c.cls) := by
  unfold admissionOf
  simp [h]

theorem admissionOf_free {s : State} {c : Claim} (h : (standingHolds s c.cls).isEmpty = true) :
    admissionOf s c = if c.cls = .safety then .grant c.requested
      else match c.mode with
        | .flash => if (flashShare c.shareFull : Int) ≤ headroom s then .grant c.requested else .hold budgetHold
        | .steady => match fittingLevel s c (headroom s) with
          | some l => .grant l
          | none => .hold budgetHold := by
  have hnot : ¬ (!(standingHolds s c.cls).isEmpty) = true := by simp [h]
  exact if_neg hnot

/-- Admission from the standing hold reasons that the class meets. -/
theorem admission_cases {s : State} {c : Claim} {crank host : Bool}
    (hholds : standingHolds s c.cls = { budgetTimer := none, crank := crank, host := host }) :
    ((crank || host) = true → admissionOf s c = .hold { budgetTimer := none, crank := crank, host := host })
    ∧ ((crank || host) = false →
        (c.cls = .safety → admissionOf s c = .grant c.requested)
        ∧ (c.cls ≠ .safety → c.mode = .flash →
            admissionOf s c = if (flashShare c.shareFull : Int) ≤ headroom s then .grant c.requested
              else .hold budgetHold)
        ∧ (c.cls ≠ .safety → c.mode = .steady →
            let share (l : Nat) : Int := steadyShare c.shareFull (maxLevelOf s c.circuit) l
            (∀ l, c.floor ≤ l → l ≤ c.requested → share l ≤ headroom s →
              (∀ l', l < l' → l' ≤ c.requested → headroom s < share l') → admissionOf s c = .grant l)
            ∧ ((∀ l, c.floor ≤ l → l ≤ c.requested → headroom s < share l) → admissionOf s c = .hold budgetHold))) := by
  have hempty : (standingHolds s c.cls).isEmpty = !(crank || host) := by
    rw [hholds]
    cases crank <;> cases host <;> rfl
  refine ⟨fun hheld => ?_, fun hfree => ?_⟩
  · rw [admissionOf_held (by rw [hempty, hheld]; rfl), hholds]
  · have hadm := admissionOf_free (s := s) (c := c) (by rw [hempty, hfree]; rfl)
    refine ⟨fun hsafety => by rw [hadm, if_pos hsafety], fun hother hflash => ?_, fun hother hsteady => ?_⟩
    · rw [hadm, if_neg hother, hflash]
    · have hshare (l : Nat) : claimShare s c l = steadyShare c.shareFull (maxLevelOf s c.circuit) l := by
        rw [claimShare, hsteady]
      rw [hadm, if_neg hother, hsteady]
      refine ⟨fun l hfloor hreq hfits hover => ?_, fun hover => ?_⟩
      · rw [fittingLevel_eq_some hfloor hreq (by rw [hshare]; exact hfits) fun l' => by rw [hshare]; exact hover l']
      · rw [fittingLevel_none fun l => by rw [hshare]; exact hover l]

/-- Settles O14: the standing holds first, and then the class and the mode. -/
theorem admissionRules : Obligations.AdmissionRules := fun s c => admission_cases (standingHolds_eq s c.cls)

/-! ### Handles (R3, R4) -/

theorem byte_toNat (n : Nat) : (byte n).toNat = n % 256 := by simp [byte]

theorem byte_of_toNat (b : Byte) : byte b.toNat = b := by simp [byte]

/-- Two bytes and their word. -/
theorem be16_word16 (hi lo : Byte) : be16 (word16 hi lo) = [hi, lo] := by
  have hlo := lo.isLt
  have h1 : byte (word16 hi lo / 256) = hi := by
    rw [show word16 hi lo / 256 = hi.toNat by unfold word16; omega, byte_of_toNat]
  have h0 : byte (word16 hi lo) = lo := by
    refine BitVec.eq_of_toNat_eq ?_
    rw [byte_toNat, word16]
    omega
  rw [be16, h1, h0]

theorem ofNat_eq_none {n : Nat} (h : 511 < n) : Handle.ofNat n = none := by
  unfold Handle.ofNat
  rw [dif_neg (by omega)]

theorem ofNat_eq_some {n : Nat} {i : SlotIx} (h : n / 16 = i.val) :
    Handle.ofNat n = some { slot := i, gen := ⟨n % 16, Nat.mod_lt _ (by decide)⟩ } := by
  have hi := i.isLt
  unfold Handle.ofNat
  rw [dif_pos (by omega)]
  congr 2
  exact Fin.ext h

section
variable {s : State} {h1 h0 : Byte} {i : SlotIx} {c : Claim}

theorem namedClaim_badIndex (h : 511 < word16 h1 h0) : namedClaim s h1 h0 = .error .badIndex := by
  rw [namedClaim, ofNat_eq_none h]

theorem namedClaim_free (hslot : word16 h1 h0 / 16 = i.val) (hfree : claimAt s i = none) :
    namedClaim s h1 h0 = .error .noSuchClaim := by
  rw [namedClaim, ofNat_eq_some hslot]
  dsimp only
  rw [hfree]

theorem namedClaim_stale (hslot : word16 h1 h0 / 16 = i.val) (hc : claimAt s i = some c)
    (hgen : word16 h1 h0 % 16 ≠ (s.clt.slots.get i).gen.val) : namedClaim s h1 h0 = .error .staleHandle := by
  rw [namedClaim, ofNat_eq_some hslot]
  dsimp only
  rw [hc]
  exact if_neg fun he => hgen (congrArg Fin.val he).symm

theorem namedClaim_ok (hslot : word16 h1 h0 / 16 = i.val) (hc : claimAt s i = some c)
    (hgen : word16 h1 h0 % 16 = (s.clt.slots.get i).gen.val) : namedClaim s h1 h0 = .ok (i, c) := by
  rw [namedClaim, ofNat_eq_some hslot]
  dsimp only
  rw [hc]
  exact if_pos (Fin.ext hgen.symm)

theorem ownedClaim_of_link (hn : namedClaim s h1 h0 = .ok (i, c)) (ho : c.origin = .link) :
    ownedClaim s h1 h0 = .ok (i, c) := by
  rw [ownedClaim, hn]
  exact if_pos ho

theorem ownedClaim_of_binding (hn : namedClaim s h1 h0 = .ok (i, c)) (ho : c.origin ≠ .link) :
    ownedClaim s h1 h0 = .error .notOwner := by
  rw [ownedClaim, hn]
  exact if_neg ho

theorem ownedClaim_error {e : ReplyCode} (hn : namedClaim s h1 h0 = .error e) : ownedClaim s h1 h0 = .error e := by
  rw [ownedClaim, hn]

/-- The parts of a handle that names the life a slot is in. -/
theorem handle_parts (h : word16 h1 h0 = i.val * 16 + (s.clt.slots.get i).gen.val) :
    word16 h1 h0 / 16 = i.val ∧ word16 h1 h0 % 16 = (s.clt.slots.get i).gen.val := by
  have := (s.clt.slots.get i).gen.isLt
  omega

end

/-! ### CLAIM.LOOKUP and CLAIM.SCAN (R22, R23, R173) -/

theorem claimRecord_fields {h1 h0 : Byte} {s : State} {i : SlotIx} {c : Claim}
    (hn : word16 h1 h0 = i.val * 16 + (s.clt.slots.get i).gen.val) : claimRecord (handleAt s i) c =
      [h1, h0, match c.origin with | .binding b => byte b.val | .link => 64, byte c.circuit.val, c.mode.code,
        c.cls.code, byte c.requested, byte c.floor, byte c.granted, byte c.shareFull,
        byte ((if c.isHeld then 1 else 0) + (if c.source = .circuit then 2 else 0) + (if c.isHeld then 4 else 0)
          + (match c.state with | .held { budgetTimer := some _, .. } => 8 | _ => 0)
          + (if c.expiry.isSome then 16 else 0) + (if c.settle.isSome then 32 else 0)),
        match c.state with | .held r => r.code | .granted _ => 0,
        match c.state with | .held { budgetTimer := some n, .. } => byte n | _ => 0]
      ++ be16 (c.expiry.getD 0)
      ++ [match c.settle with | some q => byte q.share | none => 0,
          match c.settle with | some q => byte q.left | none => 0] := by
  have hhandle : be16 (handleAt s i).toNat = [h1, h0] := by
    rw [← be16_word16, hn]
    rfl
  unfold claimRecord
  rw [hhandle]
  obtain ⟨origin, circuit, mode, cls, requested, floor, shareFull, source, state, expiry, settle⟩ := c
  have horigin : originByte origin = match origin with | .binding b => byte b.val | .link => 64 := by
    cases origin <;> rfl
  have hsettle (f : SettlePart → Nat) : optByte (settle.map f) = match settle with | some q => byte (f q) | none => 0 := by
    cases settle <;> rfl
  have hzero : byte 0 = 0#8 := rfl
  have hcircuit : decide (source = .circuit) = true ↔ source = .circuit := decide_eq_true_iff
  simp only [horigin, hsettle, hcircuit]
  cases state with
  | granted l => simp [Claim.isHeld, Claim.granted, Claim.reasons, optByte, hzero]
  | held r =>
    obtain ⟨timer, crank, host⟩ := r
    cases timer <;> simp [Claim.isHeld, Claim.granted, Claim.reasons, optByte, hzero]

/-- The slots that a scan takes: of the slots from the start slot upward, those with a live claim on the circuit
named. -/
theorem scanSlots_eq {s : State} {circuit : Byte} (hcircuit : circuit.toNat ≤ 15 ∨ circuit = 255) (first : Nat) :
    scanSlots s (if h : circuit.toNat < 16 then some (⟨circuit.toNat, h⟩ : Circ) else none) first
      = (List.finRange 32).filter fun i : SlotIx => decide (first ≤ i.val) &&
          match claimAt s i with
          | some c => circuit = 255 || decide (c.circuit.val = circuit.toNat)
          | none => false := by
  rw [scanSlots, liveSlots, List.filter_filter]
  refine List.filter_congr fun i _ => ?_
  cases hc : claimAt s i with
  | none => simp [show (s.clt.slots.get i).claim = none from hc]
  | some c =>
    have hsome : (s.clt.slots.get i).claim.isSome = true := Option.isSome_of_eq_some hc
    rw [hsome, Bool.and_true]
    congr 1
    rcases hcircuit with hlow | hall
    · have hnot : ¬ circuit = 255 := by rintro rfl; exact absurd hlow (by decide)
      simp only [decide_eq_false hnot, Bool.false_or]
      simp [show circuit.toNat < 16 by omega, Fin.ext_iff]
    · subst hall
      rfl

theorem resumeSlot_all {slots : List SlotIx} (h : slots.length ≤ 14) : resumeSlot slots = 32 :=
  if_neg (by omega)

theorem resumeSlot_more {slots : List SlotIx} {i : SlotIx} (h : 14 < slots.length) (hi : slots[13]? = some i) :
    resumeSlot slots = i.val + 1 := by
  have hlast : (slots.take 14).getLast? = some i := by
    rw [List.getLast?_eq_getElem?, List.length_take, Nat.min_eq_left (by omega), List.getElem?_take_of_lt (by decide), hi]
  rw [resumeSlot, if_pos h, hlast]

theorem exec_claimLookup (p : List Byte) (s : State) : exec (.claimLookup p) s = serve .claimLookup claimLookup p s := rfl

theorem exec_claimScan (p : List Byte) (s : State) : exec (.claimScan p) s = serve .claimScan claimScan p s := rfl

/-- Settles O18: the record laid out byte by byte, and the slots of the scan. -/
theorem claimReads : Obligations.ClaimReads := by
  refine ⟨fun h1 h0 s i c h hc hn => ?_, fun circuit first s h => ⟨fun hbad => ?_, fun hcircuit hfirst => ?_⟩,
    fun p s h hp => ?_⟩
  · obtain ⟨hslot, hgen⟩ := handle_parts (h1 := h1) (h0 := h0) hn
    rw [exec_claimLookup]
    refine serve_handed h ?_
    rw [claimLookup, namedClaim_ok hslot hc hgen]
    exact congrArg (fun fields => (s, ({ code := .ok, fields := fields } : Reply))) (claimRecord_fields hn)
  · rw [exec_claimScan]
    refine serve_handed h ?_
    rw [claimScan, if_pos hbad]
    rfl
  · rw [exec_claimScan]
    refine ⟨_, serve_handed h ?_, resumeSlot_all, fun i => resumeSlot_more⟩
    have hok : ¬ ((15 < circuit.toNat ∧ circuit ≠ 255) ∨ 31 < first.toNat) := by
      rintro (⟨hover, hne⟩ | hover)
      · exact hcircuit.elim (fun h => absurd hover (by omega)) hne
      · omega
    rw [claimScan, if_neg hok]
    dsimp only
    rw [scanSlots_eq hcircuit, List.length_take]
    rfl
  · rw [exec_claimScan]
    refine serve_handed h ?_
    unfold claimScan
    split
    · simp at hp
    · rfl

end Sys2Proof.Machine

/-! PROOFS. The checks of the claim requests: O12. -/

namespace Sys2Proof.Machine

/-! ### Codes -/

theorem ClaimMode.ofCode_none {b : Byte} (h : 1 < b.toNat) : ClaimMode.ofCode b = none := by
  have h0 : b ≠ 0 := by rintro rfl; exact absurd h (by decide)
  have h1 : b ≠ 1 := by rintro rfl; exact absurd h (by decide)
  rw [ClaimMode.ofCode, if_neg h0, if_neg h1]

theorem ClaimMode.ofCode_some {b : Byte} (h : b.toNat ≤ 1) : ∃ m, ClaimMode.ofCode b = some m := by
  have hb : b = 0 ∨ b = 1 := by
    rcases Nat.le_one_iff_eq_zero_or_eq_one.mp h with h | h
    · exact .inl (BitVec.eq_of_toNat_eq h)
    · exact .inr (BitVec.eq_of_toNat_eq h)
  rcases hb with rfl | rfl
  · exact ⟨_, rfl⟩
  · exact ⟨_, rfl⟩

theorem ClaimClass.ofCode_none {b : Byte} (h : 3 < b.toNat) : ClaimClass.ofCode b = none := by
  have hne (n : Byte) (hn : n.toNat ≤ 3) : b ≠ n := by rintro rfl; omega
  rw [ClaimClass.ofCode, if_neg (hne 0 (by decide)), if_neg (hne 1 (by decide)), if_neg (hne 2 (by decide)),
    if_neg (hne 3 (by decide))]

theorem ClaimClass.ofCode_some {b : Byte} (h : b.toNat ≤ 3) : ∃ k, ClaimClass.ofCode b = some k := by
  unfold ClaimClass.ofCode
  repeat' split
  · exact ⟨_, rfl⟩
  · exact ⟨_, rfl⟩
  · exact ⟨_, rfl⟩
  · exact ⟨_, rfl⟩
  · next h0 h1 h2 h3 =>
    have hne (n : Byte) (hn : b ≠ n) : b.toNat ≠ n.toNat := fun he => hn (BitVec.eq_of_toNat_eq he)
    have := hne 0 h0
    have := hne 1 h1
    have := hne 2 h2
    have := hne 3 h3
    simp at *
    omega

/-! ### The slots that a raise looks for -/

section
variable {s : State} {i : SlotIx} {c : Circ}

theorem linkClaimOn_absent (h : ∀ i cl, claimAt s i = some cl → ¬(cl.circuit = c ∧ cl.origin = .link)) :
    linkClaimOn s c = none := by
  rw [linkClaimOn, List.find?_eq_none]
  intro i _
  cases hc : claimAt s i with
  | none => simp
  | some cl => simpa using h i cl hc

theorem linkClaimOn_present {cl : Claim} (hone : OneLinkClaim s) (hi : claimAt s i = some cl) (hc : cl.circuit = c)
    (ho : cl.origin = .link) : linkClaimOn s c = some i := by
  cases hfound : linkClaimOn s c with
  | none =>
    have hlive : i ∈ liveSlots s.clt := (mem_liveSlots ..).mpr (Option.isSome_of_eq_some hi)
    have := (List.find?_eq_none.mp hfound) i hlive
    simp [hi, hc, ho] at this
  | some j =>
    have hj := List.find?_some hfound
    cases hcl : claimAt s j with
    | none => simp [hcl] at hj
    | some d =>
      rw [hcl] at hj
      obtain ⟨hdc, hdo⟩ : d.circuit = c ∧ d.origin = .link := by simpa using hj
      rw [hone j i (by rw [hcl, Option.map_some, hdo]) (by rw [hi, Option.map_some, ho])
        (by rw [hcl, hi, Option.map_some, Option.map_some, hdc, hc])]

theorem freeSlot_full (h : ∀ i, (claimAt s i).isSome = true) : freeSlot s.clt = none := by
  rw [freeSlot, List.find?_eq_none]
  intro i _
  rw [show (s.clt.slots.get i).claim = claimAt s i from rfl, Option.isNone_iff_eq_none]
  exact fun hi => absurd (h i) (by simp [hi])

theorem freeSlot_lowest (hfree : claimAt s i = none) (hbelow : ∀ j, j < i → (claimAt s j).isSome = true) :
    freeSlot s.clt = some i := by
  rw [freeSlot, List.find?_eq_some_iff_getElem]
  refine ⟨by rw [show (s.clt.slots.get i).claim = none from hfree]; rfl, i.val, by simp, by simp, fun j hj => ?_⟩
  have := hbelow ⟨j, by omega⟩ hj
  rw [List.getElem_finRange]
  simpa [claimAt, Option.isSome_iff_ne_none] using this

end

/-! ### A claim altered stays live -/

theorem modifyClaim_live {i : SlotIx} {c : Claim} (s : State) (f : Claim → Claim) (hc : claimAt s i = some c) :
    claimAt (modifyClaim i f s) i = some (f c) := by
  rw [claimAt_modifyClaim, if_pos rfl, hc, Option.map_some]

theorem alignLevel_live {i : SlotIx} {c : Claim} {s : State} (hc : claimAt s i = some c) :
    (claimAt (alignLevel i s) i).isSome = true := by
  have hstep (l added : Nat) : (claimAt (stepLevel i l added s) i).isSome = true := by
    rw [claimAt_stepLevel, if_pos rfl, hc]
    rfl
  have hheld : (claimAt (makeHeld i budgetHold s) i).isSome = true := by
    rw [claimAt_makeHeld, if_pos rfl, hc]
    rfl
  have hsome : (claimAt s i).isSome = true := Option.isSome_of_eq_some hc
  unfold alignLevel
  rw [hc]
  dsimp only
  split_ifs
  · exact hstep ..
  · exact hsome
  · exact hstep ..
  · exact hsome
  · exact hstep ..
  · exact hheld

theorem alter_live {i : SlotIx} {c : Claim} {s : State} (hc : claimAt s i = some c) (a : Alteration) :
    (claimAt (alter i c a s) i).isSome = true := by
  have hrecord := modifyClaim_live s (a.record (maxLevelOf s c.circuit)) hc
  unfold alter
  dsimp only
  generalize modifyClaim i (a.record (maxLevelOf s c.circuit)) s = t at hrecord ⊢
  split_ifs
  · exact Option.isSome_of_eq_some hrecord
  · rw [claimAt_admitSlot (s := { t with clt := t.clt.leave i }) hrecord, if_pos rfl]
    rfl
  · exact alignLevel_live hrecord
  · exact Option.isSome_of_eq_some hrecord

/-! ### The handle checks (R4) -/

theorem exec_claimRaise (p : List Byte) (s : State) : exec (.claimRaise p) s = serve .claimRaise claimRaise p s := rfl

theorem exec_claimAlter (p : List Byte) (s : State) : exec (.claimAlter p) s = serve .claimAlter claimAlter p s := rfl

theorem exec_claimRetire (p : List Byte) (s : State) : exec (.claimRetire p) s = serve .claimRetire claimRetire p s :=
  rfl

/-- What CLAIM.ALTER asks for by its bytes (R18). -/
def alteration (changes level floor e1 e0 mode : Byte) : Alteration :=
  { level := if changes.getLsbD 0 then some level.toNat else none
    floor := if changes.getLsbD 1 then some floor.toNat else none
    expiry := if changes.getLsbD 2 then some (word16 e1 e0) else none
    mode := if changes.getLsbD 3 then ClaimMode.ofCode mode else none }

section
variable {s : State} {h1 h0 changes level floor e1 e0 mode : Byte} {i : SlotIx} {c : Claim} {e : ReplyCode}

theorem claimAlter_outside (hmode : s.mdc.mode ≠ .run) (p : List Byte) : claimAlter p s = refused .wrongMode s :=
  if_pos hmode

theorem claimAlter_badMode (hrun : s.mdc.mode = .run) (hgiven : changes.getLsbD 3 = true) (hm : 1 < mode.toNat) :
    claimAlter [h1, h0, changes, level, floor, e1, e0, mode] s = refused .badRequest s := by
  unfold claimAlter
  simp [hrun, hgiven, ClaimMode.ofCode_none hm]

theorem mode_defined (hm : changes.getLsbD 3 = true → mode.toNat ≤ 1) :
    ¬(changes.getLsbD 3 = true ∧ (if changes.getLsbD 3 then ClaimMode.ofCode mode else none) = none) := by
  rintro ⟨hgiven, hnone⟩
  obtain ⟨m, hsome⟩ := ClaimMode.ofCode_some (hm hgiven)
  simp [hgiven, hsome] at hnone

theorem claimAlter_error (hrun : s.mdc.mode = .run) (hm : changes.getLsbD 3 = true → mode.toNat ≤ 1)
    (ho : ownedClaim s h1 h0 = .error e) :
    claimAlter [h1, h0, changes, level, floor, e1, e0, mode] s = refused e s := by
  unfold claimAlter
  rw [if_neg (by simp [hrun])]
  dsimp only
  rw [if_neg (mode_defined hm), ho]

theorem claimAlter_ok (hrun : s.mdc.mode = .run) (hm : changes.getLsbD 3 = true → mode.toNat ≤ 1)
    (ho : ownedClaim s h1 h0 = .ok (i, c)) :
    claimAlter [h1, h0, changes, level, floor, e1, e0, mode] s
      = (withHandOver (alter i c (alteration changes level floor e1 e0 mode)) s,
          outcomeReply ((alteration changes level floor e1 e0 mode).clamps (maxLevelOf s c.circuit) c) i
            (withHandOver (alter i c (alteration changes level floor e1 e0 mode)) s)) := by
  unfold claimAlter
  rw [if_neg (by simp [hrun])]
  dsimp only
  rw [if_neg (mode_defined hm), ho]
  rfl

theorem claimRetire_error (ho : ownedClaim s h1 h0 = .error e) : claimRetire [h1, h0] s = refused e s := by
  unfold claimRetire
  dsimp only
  rw [ho]

theorem claimRetire_ok (ho : ownedClaim s h1 h0 = .ok (i, c)) : claimRetire [h1, h0] s
    = (beginRequested (withHandOver (retire i) s), { code := .ok, fields := [h1, h0] }) := by
  unfold claimRetire
  dsimp only
  rw [ho]

theorem claimLookup_error (hn : namedClaim s h1 h0 = .error e) : claimLookup [h1, h0] s = refused e s := by
  unfold claimLookup
  dsimp only
  rw [hn]

theorem claimLookup_ok (hn : namedClaim s h1 h0 = .ok (i, c)) :
    claimLookup [h1, h0] s = (s, { code := .ok, fields := claimRecord (handleAt s i) c }) := by
  unfold claimLookup
  dsimp only
  rw [hn]

end

theorem withHandOver_clt (f : State → State) (s : State) : (withHandOver f s).clt = (f s).clt := by
  unfold withHandOver
  simp

theorem outcomeCode_lt (clamped : Bool) (c : Claim) : (outcomeCode clamped c).code.toNat < 128 := by
  unfold outcomeCode
  split_ifs <;> decide

/-- A request that names a claim by its handle and passes the checks that come before those of the handle (R4, R18). -/
abbrev NamesClaim (r : Req) (rest : List Byte) (s : State) : Prop :=
  r = .claimRetire ∧ rest = [] ∨ r = .claimLookup ∧ rest = []
    ∨ r = .claimAlter ∧ s.mdc.mode = .run
      ∧ ∃ changes level floor e1 e0 mode : Byte, rest = [changes, level, floor, e1, e0, mode]
        ∧ (changes.getLsbD 3 = true → mode.toNat ≤ 1)

section
variable {r : Req} {h1 h0 : Byte} {rest : List Byte} {s : State} {i : SlotIx} {c : Claim} {e : ReplyCode}

theorem exec_unnamed (hnames : NamesClaim r rest s) (h : Handed r (h1 :: h0 :: rest) s)
    (hn : namedClaim s h1 h0 = .error e) : exec (r.command (h1 :: h0 :: rest)) s = replied e [] s := by
  obtain ⟨rfl, rfl⟩ | ⟨rfl, rfl⟩ | ⟨rfl, hrun, changes, level, floor, e1, e0, mode, rfl, hm⟩ := hnames
  · exact (exec_claimRetire ..).trans (serve_handed h (claimRetire_error (ownedClaim_error hn)))
  · exact (exec_claimLookup ..).trans (serve_handed h (claimLookup_error hn))
  · exact (exec_claimAlter ..).trans (serve_handed h (claimAlter_error hrun hm (ownedClaim_error hn)))

theorem exec_notOwned (hnames : NamesClaim r rest s) (h : Handed r (h1 :: h0 :: rest) s) (hr : r ≠ .claimLookup)
    (hn : ownedClaim s h1 h0 = .error e) : exec (r.command (h1 :: h0 :: rest)) s = replied e [] s := by
  obtain ⟨rfl, rfl⟩ | ⟨rfl, rfl⟩ | ⟨rfl, hrun, changes, level, floor, e1, e0, mode, rfl, hm⟩ := hnames
  · exact (exec_claimRetire ..).trans (serve_handed h (claimRetire_error hn))
  · contradiction
  · exact (exec_claimAlter ..).trans (serve_handed h (claimAlter_error hrun hm hn))

theorem exec_named (hnames : NamesClaim r rest s) (h : Handed r (h1 :: h0 :: rest) s)
    (hc : claimAt s i = some c) (hn : namedClaim s h1 h0 = .ok (i, c)) (ho : r = .claimLookup ∨ c.origin = .link) :
    ∃ code fields t, exec (r.command (h1 :: h0 :: rest)) s = replied code fields t ∧ code.code.toNat < 128 := by
  obtain ⟨rfl, rfl⟩ | ⟨rfl, rfl⟩ | ⟨rfl, hrun, changes, level, floor, e1, e0, mode, rfl, hm⟩ := hnames
  · have howned := ownedClaim_of_link hn (ho.resolve_left (by decide))
    exact ⟨_, _, _, (exec_claimRetire ..).trans (serve_handed h (claimRetire_ok howned)), by decide⟩
  · exact ⟨_, _, _, (exec_claimLookup ..).trans (serve_handed h (claimLookup_ok hn)), by decide⟩
  · have howned := ownedClaim_of_link hn (ho.resolve_left (by decide))
    have hbody := claimAlter_ok (level := level) (floor := floor) (e1 := e1) (e0 := e0) hrun hm howned
    obtain ⟨d, hd⟩ := Option.isSome_iff_exists.mp (alter_live hc (alteration changes level floor e1 e0 mode))
    have hd' : claimAt (withHandOver (alter i c (alteration changes level floor e1 e0 mode)) s) i = some d := by
      rw [claimAt_congr (withHandOver_clt ..)]
      exact hd
    rw [show outcomeReply _ i _ = _ from by rw [outcomeReply, hd']] at hbody
    exact ⟨_, _, _, (exec_claimAlter ..).trans (serve_handed h hbody), outcomeCode_lt _ _⟩

end

/-! ### The checks of CLAIM.RAISE (R17) -/

/-- The raise that the nine bytes of a CLAIM.RAISE ask for (R17). -/
def linkRaise (c : Circ) (m : ClaimMode) (k : ClaimClass) (level floor flags share e1 e0 : Byte) : Raise :=
  { origin := .link, circuit := c, mode := m, cls := k, level := level.toNat
    floor := if floor = 0 then none else some floor.toNat
    share := if flags.getLsbD 0 then some share.toNat else none
    expiry := word16 e1 e0 }

section
variable {s : State} {circuit mode cls level floor flags share e1 e0 : Byte}

theorem claimRaise_outside (hmode : s.mdc.mode ≠ .run) (p : List Byte) : claimRaise p s = refused .wrongMode s :=
  if_pos hmode

theorem claimRaise_length {p : List Byte} (hrun : s.mdc.mode = .run) (hp : p.length ≠ 9) :
    claimRaise p s = refused .badRequest s := by
  unfold claimRaise
  rw [if_neg (by simp [hrun])]
  split
  · simp at hp
  · rfl

theorem claimRaise_undefined (hrun : s.mdc.mode = .run) (h : 1 < mode.toNat ∨ 3 < cls.toNat) :
    claimRaise [circuit, mode, cls, level, floor, flags, share, e1, e0] s = refused .badRequest s := by
  unfold claimRaise
  rw [if_neg (by simp [hrun])]
  dsimp only
  rcases h with h | h
  · rw [ClaimMode.ofCode_none h]
  · rw [ClaimClass.ofCode_none h]
    cases ClaimMode.ofCode mode <;> rfl

theorem claimRaise_defined (hrun : s.mdc.mode = .run) {m : ClaimMode} {k : ClaimClass}
    (hm : ClaimMode.ofCode mode = some m) (hk : ClaimClass.ofCode cls = some k) :
    (15 < circuit.toNat →
      claimRaise [circuit, mode, cls, level, floor, flags, share, e1, e0] s = refused .badIndex s)
    ∧ ∀ c : Circ, circuit.toNat = c.val → claimRaise [circuit, mode, cls, level, floor, flags, share, e1, e0] s
        = raiseOnLink (linkRaise c m k level floor flags share e1 e0) s := by
  have hraise : claimRaise [circuit, mode, cls, level, floor, flags, share, e1, e0] s
      = if h : circuit.toNat < 16 then raiseOnLink (linkRaise ⟨circuit.toNat, h⟩ m k level floor flags share e1 e0) s
        else refused .badIndex s := by
    unfold claimRaise
    rw [if_neg (by simp [hrun])]
    dsimp only
    rw [hm, hk]
    rfl
  refine ⟨fun hover => by rw [hraise, dif_neg (by omega)], fun c hc => ?_⟩
  have hlt := c.isLt
  rw [hraise, dif_pos (by omega), show (⟨circuit.toNat, by omega⟩ : Circ) = c from Fin.ext hc]

theorem raiseOnLink_badCircuit {r : Raise} (h : (s.crs.inForce.get r.circuit).channels = []) :
    raiseOnLink r s = refused .badCircuit s := by
  rw [raiseOnLink, if_pos (by rw [h]; rfl)]

theorem raiseOnLink_duplicate {r : Raise} {i : SlotIx} (h : (s.crs.inForce.get r.circuit).channels ≠ [])
    (hdup : linkClaimOn s r.circuit = some i) :
    raiseOnLink r s = (s, { code := .duplicate, fields := be16 (handleAt s i).toNat }) := by
  rw [raiseOnLink, if_neg (by simpa using h), hdup]

theorem raiseOnLink_tableFull {r : Raise} (h : (s.crs.inForce.get r.circuit).channels ≠ [])
    (hnone : linkClaimOn s r.circuit = none) (hfull : freeSlot s.clt = none) :
    raiseOnLink r s = refused .tableFull s := by
  rw [raiseOnLink, if_neg (by simpa using h), hnone]
  dsimp only
  rw [hfull]

theorem raiseOnLink_placed {r : Raise} {i : SlotIx} (h : (s.crs.inForce.get r.circuit).channels ≠ [])
    (hnone : linkClaimOn s r.circuit = none) (hfree : freeSlot s.clt = some i) :
    raiseOnLink r s = (withHandOver (raiseInto i r) s,
      outcomeReply (raiseClamped (maxLevelOf s r.circuit) r) i (withHandOver (raiseInto i r) s)) := by
  rw [raiseOnLink, if_neg (by simpa using h), hnone]
  dsimp only
  rw [hfree]

end

/-- Settles O12: the handle's checks, those of CLAIM.ALTER before them, and those of CLAIM.RAISE. -/
theorem claimRequestChecks : Obligations.ClaimRequestChecks := by
  refine ⟨fun r s h1 h0 rest h hnames => ?_, fun p s h => ⟨fun hmode => ?_, ?_⟩,
    fun p s h => ⟨fun hmode => ?_, fun hrun => ⟨fun hp => ?_, ?_⟩⟩⟩
  · refine ⟨fun hover => exec_unnamed hnames h (namedClaim_badIndex hover), fun i hslot =>
      ⟨fun hfree => exec_unnamed hnames h (namedClaim_free hslot hfree), fun c hc =>
        ⟨fun hgen => exec_unnamed hnames h (namedClaim_stale hslot hc hgen), fun hgen => ?_⟩⟩⟩
    have hn := namedClaim_ok hslot hc hgen
    exact ⟨fun hr ho => exec_notOwned hnames h hr (ownedClaim_of_binding hn ho), fun ho => exec_named hnames h hc hn ho⟩
  · exact (exec_claimAlter ..).trans (serve_handed h (claimAlter_outside hmode p))
  · rintro h1 h0 changes level floor e1 e0 mode rfl hrun hgiven hm
    exact (exec_claimAlter ..).trans (serve_handed h (claimAlter_badMode hrun hgiven hm))
  · exact (exec_claimRaise ..).trans (serve_handed h (claimRaise_outside hmode p))
  · exact (exec_claimRaise ..).trans (serve_handed h (claimRaise_length hrun hp))
  · rintro circuit mode cls level floor flags share e1 e0 rfl
    refine ⟨fun hbad => (exec_claimRaise ..).trans (serve_handed h (claimRaise_undefined hrun hbad)),
      fun hmode hcls => ?_⟩
    obtain ⟨m, hm⟩ := ClaimMode.ofCode_some hmode
    obtain ⟨k, hk⟩ := ClaimClass.ofCode_some hcls
    obtain ⟨hindex, hraise⟩ := claimRaise_defined (level := level) (floor := floor) (flags := flags) (share := share)
      (e1 := e1) (e0 := e0) (circuit := circuit) hrun hm hk
    refine ⟨fun hover => (exec_claimRaise ..).trans (serve_handed h (hindex hover)), fun c hc =>
      ⟨fun hempty => ?_, fun hchannels => ⟨fun i cl hone hi hcirc ho => ?_, fun habsent hfull => ?_⟩⟩⟩
    · exact (exec_claimRaise ..).trans (serve_handed h ((hraise c hc).trans (raiseOnLink_badCircuit hempty)))
    · exact (exec_claimRaise ..).trans (serve_handed h
        ((hraise c hc).trans (raiseOnLink_duplicate hchannels (linkClaimOn_present hone hi hcirc ho))))
    · exact (exec_claimRaise ..).trans (serve_handed h
        ((hraise c hc).trans (raiseOnLink_tableFull hchannels (linkClaimOn_absent habsent) (freeSlot_full hfull))))

end Sys2Proof.Machine

/-! PROOFS. Raising and retiring claims on the link: O13, O17. -/

namespace Sys2Proof.Machine

/-! ### A record laid in a slot, to be admitted (R34) -/

theorem unsettled_congr {s t : State}
    (h : ∀ j, (claimAt t j).bind (·.settle) = (claimAt s j).bind (·.settle)) : unsettled t = unsettled s := by
  rw [unsettled_eq_sum, unsettled_eq_sum]
  refine Finset.sum_congr rfl fun j _ => ?_
  rw [slot_unsettled_eq, slot_unsettled_eq, h]

theorem admissionOf_congr {s t : State} (hsbu : t.sbu = s.sbu) (hcrs : t.crs = s.crs)
    (hun : unsettled t = unsettled s) (c : Claim) : admissionOf t c = admissionOf s c := by
  have hholds : standingHolds t c.cls = standingHolds s c.cls := by rw [standingHolds, standingHolds, hsbu]
  have hroom : headroom t = headroom s := by rw [headroom, headroom, hsbu, hun]
  have hshare : claimShare t c = claimShare s c := by
    funext l
    rw [claimShare, claimShare, maxLevelOf, maxLevelOf, hcrs]
  unfold admissionOf fittingLevel
  rw [hholds, hroom, hshare]

/-- A state in which a record is laid in a slot, with the settle part that the slot had, and stands in no collection or
where the slot stood; nothing else differs. -/
structure Readied (i : SlotIx) (c : Claim) (s t : State) : Prop where
  record : claimAt t i = some c
  others : ∀ j, j ≠ i → claimAt t j = claimAt s j
  gens : ∀ j, (t.clt.slots.get j).gen = (s.clt.slots.get j).gen
  settle : c.settle = (claimAt s i).bind (·.settle)
  grants : t.clt.grantList.filter (· ≠ i) = s.clt.grantList.filter (· ≠ i)
  helds : t.clt.heldQueue.filter (· ≠ i) = s.clt.heldQueue.filter (· ≠ i)
  aside : t = { s with clt := t.clt }

namespace Readied

variable {i : SlotIx} {c : Claim} {s t : State}

theorem unsettled_eq (h : Readied i c s t) : unsettled t = unsettled s := by
  refine unsettled_congr fun j => ?_
  by_cases hj : j = i
  · rw [hj, h.record, Option.bind_some, h.settle]
  · rw [h.others j hj]

theorem sbu (h : Readied i c s t) : t.sbu = s.sbu := by rw [h.aside]

theorem crs (h : Readied i c s t) : t.crs = s.crs := by rw [h.aside]

theorem lif (h : Readied i c s t) : t.lif = s.lif := by rw [h.aside]

theorem rank (h : Readied i c s t) {j : SlotIx} (hj : j ≠ i) : slotRank t.clt j = slotRank s.clt j := by
  rw [slotRank_eq, slotRank_eq, h.others j hj]

theorem sorted (h : Readied i c s t) (hexact : CollectionsExact s) :
    (t.clt.heldQueue.filter (· ≠ i)).Pairwise fun j k => slotRank t.clt j ≤ slotRank t.clt k := by
  obtain ⟨-, -, -, -, hsorted⟩ := hexact
  have hne {j : SlotIx} (hj : j ∈ s.clt.heldQueue.filter (· ≠ i)) : j ≠ i := by simpa using (List.mem_filter.mp hj).2
  rw [h.helds]
  refine (hsorted.filter _).imp_of_mem fun hj hk hle => ?_
  rwa [h.rank (hne hj), h.rank (hne hk)]

end Readied

/-- A slot that becomes HELD enters a queue ordered by class, itself aside, after the last entry of its class. -/
theorem joinsHeld_of_sorted {s : State} {i : SlotIx}
    (hq : (s.clt.heldQueue.filter (· ≠ i)).Pairwise fun j k => slotRank s.clt j ≤ slotRank s.clt k)
    (r : HoldReasons) : JoinsHeld s (makeHeld i r s) i := by
  have hrank (j : SlotIx) : slotRank (makeHeld i r s).clt j = slotRank s.clt j :=
    slotRank_modifyClaim (f := fun c => { c with state := .held r, settle := none }) (fun _ => rfl) i j s
  have hqueue : (makeHeld i r s).clt.heldQueue = enqueue (makeHeld i r s).clt i (s.clt.heldQueue.filter (· ≠ i)) := rfl
  refine ⟨makeHeld_grantList .., _, _, List.takeWhile_append_dropWhile.symm, hqueue, fun j hj => ?_, fun j hj => ?_⟩
  · simpa using List.mem_takeWhile_imp hj
  · refine rank_lt_of_mem_dropWhile ?_ j hj
    simpa only [hrank] using hq

namespace Readied

variable {i : SlotIx} {c : Claim} {s t u : State}

theorem oneRecord (h : Readied i c s t) {d : Claim} (ht : OneRecord t u i d) : OneRecord s u i d := by
  obtain ⟨hd, hothers, hgens⟩ := ht
  exact ⟨hd, fun j hj => (hothers j hj).trans (h.others j hj), fun j => (hgens j).trans (h.gens j)⟩

theorem joinsGranted (h : Readied i c s t) (ht : JoinsGranted t u i) : JoinsGranted s u i := by
  obtain ⟨hg, hq⟩ := ht
  exact ⟨by rw [hg, h.grants], by rw [hq, h.helds]⟩

theorem joinsHeld (h : Readied i c s t) (ht : JoinsHeld t u i) : JoinsHeld s u i := by
  obtain ⟨hg, front, back, hq, hrest⟩ := ht
  exact ⟨by rw [hg, h.grants], front, back, by rw [← h.helds, hq], hrest⟩

/-- Admission leaves the record as admission has placed it, in the collection of its state, and sets CLAIM_HELD for a
binding's claim that it holds. -/
theorem admitted (h : Readied i c s t) (hexact : CollectionsExact s) :
    OneRecord s (admitSlot i t) i (c.placed s) ∧ Placed s (admitSlot i t) i (c.placed s)
      ∧ admitSlot i t = { s with
          clt := (admitSlot i t).clt
          lif := if (c.origin != .link && (c.placed s).isHeld) = true
            then { s.lif with status := s.lif.status ||| 0x4 } else s.lif } := by
  have hadm : admissionOf t c = admissionOf s c := admissionOf_congr h.sbu h.crs h.unsettled_eq c
  have hshare (l : Nat) : claimShare t c l = claimShare s c l := by rw [claimShare, claimShare, maxLevelOf, maxLevelOf, h.crs]
  unfold admitSlot Claim.placed
  rw [h.record]
  dsimp only
  rw [hadm]
  cases admissionOf s c with
  | grant l =>
    dsimp only
    rw [hshare]
    refine ⟨h.oneRecord (oneRecord_makeGranted h.record l _), ?_, ?_⟩
    · exact h.joinsGranted (joinsGranted_makeGranted ..)
    · have hgranted : ({ c with state := .granted l, settle := addSettle (claimShare s c l) c.settle } : Claim).isHeld
          = false := rfl
      rw [hgranted, Bool.and_false, if_neg (by decide)]
      have haside : makeGranted i l (claimShare s c l) t = { t with clt := (makeGranted i l (claimShare s c l) t).clt } :=
        rfl
      rw [haside, h.aside]
  | hold r =>
    dsimp only
    have hclt : (setFlagIf (c.origin != .link) .claimHeld (makeHeld i r t)).clt = (makeHeld i r t).clt := setFlagIf_clt ..
    have hone := h.oneRecord (oneRecord_makeHeld h.record r)
    have hheld : ({ c with state := .held r, settle := none } : Claim).isHeld = true := rfl
    refine ⟨?_, ?_, ?_⟩
    · obtain ⟨hd, hothers, hgens⟩ := hone
      exact ⟨by rw [claimAt_congr hclt, hd], fun j hj => by rw [claimAt_congr hclt, hothers j hj],
        fun j => by rw [hclt, hgens j]⟩
    · have hjoins := h.joinsHeld (joinsHeld_of_sorted (h.sorted hexact) r)
      unfold JoinsHeld at hjoins
      rw [← hclt] at hjoins
      unfold Placed
      rwa [if_pos hheld]
    · rw [hheld, Bool.and_true]
      have haside : makeHeld i r t = { t with clt := (makeHeld i r t).clt } := rfl
      rw [hclt]
      cases c.origin != .link
      · rw [setFlagIf_false, haside, h.aside, if_neg (by decide)]
      · rw [if_pos rfl, setFlagIf_true, haside, h.aside]
        rfl

end Readied

theorem readied_setClaim {i : SlotIx} {c : Claim} {s : State} (hfree : claimAt s i = none) (hc : c.settle = none) :
    Readied i c s { s with clt := s.clt.setClaim i (some c) } where
  record := by simp [claimAt, ClaimTable.setClaim]
  others j hj := by simp [claimAt, ClaimTable.setClaim, upd_get, Ne.symm hj]
  gens j := by
    simp only [ClaimTable.setClaim, upd_get]
    split
    · next hij => rw [hij]
    · rfl
  settle := by rw [hfree, hc]; rfl
  grants := rfl
  helds := rfl
  aside := rfl

/-! ### What a raise fills (R9) -/

theorem clampNat_one {n x : Nat} (hn : 1 ≤ n) : clampNat 1 n x = if x = 0 then 1 else min n x := by
  unfold clampNat
  split <;> omega

theorem clampNat_one_pos {n x : Nat} (hn : 1 ≤ n) (hx : x ≠ 0) : clampNat 1 n x = min n x := by
  rw [clampNat_one hn, if_neg hx]

theorem clampNat_one_ne {n x : Nat} (hn : 1 ≤ n) :
    (clampNat 1 n x != x) = (decide (x = 0) || decide (n < x)) := by
  rw [clampNat_one hn, Bool.eq_iff_iff]
  simp only [bne_iff_ne, ne_eq, Bool.or_eq_true, decide_eq_true_eq]
  split <;> omega

theorem toNat_eq_zero {b : Byte} : b.toNat = 0 ↔ b = 0 :=
  ⟨fun h => BitVec.eq_of_toNat_eq h, fun h => by rw [h]; rfl⟩

section
variable {s : State} {c : Circ} {m : ClaimMode} {k : ClaimClass} {level floor flags share e1 e0 : Byte}

/-- The levels that a raise on the link asks for (R9). -/
theorem newClaim_linkRaise (hmax : 1 ≤ maxLevelOf s c) (req : Nat)
    (hreq : req = if m = .flash then maxLevelOf s c
      else if level.toNat = 0 then 1 else min (maxLevelOf s c) level.toNat) :
    newClaim s (linkRaise c m k level floor flags share e1 e0) =
      { origin := .link, circuit := c, mode := m, cls := k, requested := req
        floor := if m = .flash then maxLevelOf s c else if floor = 0 then req else min req floor.toNat
        shareFull := if flags.getLsbD 0 then min 250 share.toNat
          else min 250 ((s.crs.inForce.get c).channels.map fun ch => (s.chd.get ch).profile.nominal).sum
        source := if flags.getLsbD 0 then .given else .circuit
        state := .held { budgetTimer := none, crank := false, host := false }
        expiry := if word16 e1 e0 = 0 then none else some (min 14400 (word16 e1 e0)), settle := none } := by
  have hpos : 1 ≤ req := by
    subst hreq
    split_ifs
    · exact hmax
    · exact le_rfl
    · omega
  have hfloor : raiseFloor req (if floor = 0 then none else some floor.toNat)
      = if floor = 0 then req else min req floor.toNat := by
    by_cases h0 : floor = 0
    · simp [h0, raiseFloor]
    · rw [if_neg h0, if_neg h0]
      exact clampNat_one_pos hpos (mt toNat_eq_zero.mp h0)
  unfold newClaim linkRaise
  simp only [Claim.mk.injEq, true_and, and_true]
  refine ⟨?requested, ?floor, ?share, ?source, ?expiry⟩
  case requested =>
    cases m with
    | steady => exact (clampNat_one hmax).trans hreq.symm
    | flash => exact hreq.symm
  case floor =>
    cases m with
    | steady =>
      have hlevel : raiseLevel (maxLevelOf s c) level.toNat = req := (clampNat_one hmax).trans hreq.symm
      exact (congrArg (raiseFloor · (if floor = 0 then none else some floor.toNat)) hlevel).trans hfloor
    | flash => rfl
  case share =>
    split_ifs
    · exact Nat.min_comm ..
    · rfl
  case source => split_ifs <;> simp_all
  case expiry =>
    rw [Nat.min_comm]
    rfl

theorem raiseClamped_linkRaise (hmax : 1 ≤ maxLevelOf s c) (req : Nat)
    (hreq : req = if m = .flash then maxLevelOf s c
      else if level.toNat = 0 then 1 else min (maxLevelOf s c) level.toNat) :
    raiseClamped (maxLevelOf s c) (linkRaise c m k level floor flags share e1 e0) =
      ((m = .steady && (decide (level.toNat = 0) || decide (maxLevelOf s c < level.toNat) || decide (req < floor.toNat)))
        || (flags.getLsbD 0 && decide (250 < share.toNat)) || decide (14400 < word16 e1 e0)) := by
  have hshare : decide (Config.maxShare < (if flags.getLsbD 0 then some share.toNat else none).getD 0)
      = (flags.getLsbD 0 && decide (250 < share.toNat)) := by
    cases flags.getLsbD 0 <;> simp [Config.maxShare]
  unfold raiseClamped linkRaise
  dsimp only
  rw [hshare]
  congr 2
  cases m with
  | flash => rfl
  | steady =>
    rw [if_neg (by decide), ← clampNat_one hmax] at hreq
    have hpos : 1 ≤ req := by
      rw [hreq]
      exact Nat.le_max_left ..
    rw [show raiseLevel (maxLevelOf s c) level.toNat = req from hreq.symm]
    have hlevel : (req != level.toNat) = (decide (level.toNat = 0) || decide (maxLevelOf s c < level.toNat)) := by
      rw [hreq]
      exact clampNat_one_ne hmax
    rw [hlevel]
    congr 2
    by_cases h0 : floor = 0
    · simp [h0]
    · rw [if_neg h0]
      have hne := mt toNat_eq_zero.mp h0
      change (clampNat 1 req floor.toNat != floor.toNat) = _
      rw [clampNat_one_ne hpos, decide_eq_false hne, Bool.false_or]

end

/-! ### CLAIM.RAISE (R17) -/

theorem placed_requested (s : State) (c : Claim) : (c.placed s).requested = c.requested := by
  unfold Claim.placed
  split <;> rfl

theorem ClaimMode.ofCode_code (m : ClaimMode) : ClaimMode.ofCode m.code = some m := by cases m <;> rfl

theorem ClaimClass.ofCode_code (k : ClaimClass) : ClaimClass.ofCode k.code = some k := by cases k <;> rfl

theorem outputsAside_handedOver (f : State → State) (s : State) : OutputsAside (f s) (withHandOver f s) := by
  unfold OutputsAside withHandOver
  simp

theorem outcomeReply_of {clamped : Bool} {i : SlotIx} {t u s : State} {c : Claim} (hclt : t.clt = u.clt)
    (hone : OneRecord s u i c) : outcomeReply clamped i t
      = { code := outcomeCode clamped c, fields := claimOutcome (handleAt s i) c } := by
  obtain ⟨hc, -, hgens⟩ := hone
  have hhandle : handleAt t i = handleAt s i := by rw [handleAt, handleAt, hclt, hgens]
  rw [outcomeReply, claimAt_congr hclt, hc, hhandle]

theorem claimOutcome_fields (s : State) (i : SlotIx) (c : Claim) : claimOutcome (handleAt s i) c
    = be16 (i.val * 16 + (s.clt.slots.get i).gen.val) ++ [boolByte c.isHeld, byte c.requested, byte c.floor,
        byte c.granted, match c.state with | .held r => r.code | .granted _ => 0] := by
  unfold claimOutcome Claim.reasons
  cases c.state <;> rfl

/-- A raise on the link into a free slot (R9, R17). -/
theorem raiseOnLink_outcome {r : Raise} {s : State} {i : SlotIx} {asked : Claim} (hexact : CollectionsExact s)
    (hchannels : (s.crs.inForce.get r.circuit).channels ≠ [])
    (habsent : ∀ j x, claimAt s j = some x → ¬(x.circuit = r.circuit ∧ x.origin = .link))
    (hfree : claimAt s i = none) (hbelow : ∀ j, j < i → (claimAt s j).isSome = true)
    (hasked : newClaim s r = asked) (horigin : asked.origin = .link) (hsettle : asked.settle = none) :
    ∃ u t, raiseOnLink r s
        = (t, { code := outcomeCode (raiseClamped (maxLevelOf s r.circuit) r) (asked.placed s)
                fields := claimOutcome (handleAt s i) (asked.placed s) })
      ∧ u = { s with clt := u.clt } ∧ OneRecord s u i (asked.placed s) ∧ Placed s u i (asked.placed s)
      ∧ OutputsAside u t := by
  obtain ⟨hone, hplaced, haside⟩ := (readied_setClaim hfree hsettle).admitted hexact
  have hraise : raiseInto i r s = admitSlot i { s with clt := s.clt.setClaim i (some asked) } := by
    rw [raiseInto, hasked]
  refine ⟨raiseInto i r s, withHandOver (raiseInto i r) s, ?_, ?_, ?_, ?_, outputsAside_handedOver _ s⟩
  · rw [raiseOnLink_placed hchannels (linkClaimOn_absent habsent) (freeSlot_lowest hfree hbelow)]
    rw [outcomeReply_of (withHandOver_clt _ s) (by rw [hraise]; exact hone)]
  · rw [hraise]
    rw [horigin] at haside
    exact haside
  · rw [hraise]
    exact hone
  · rw [hraise]
    exact hplaced

/-- Settles O13: the record as the raise fills it, placed by admission. -/
theorem raiseFillsRecord : Obligations.RaiseFillsRecord := by
  intro c m k level floor flags share e1 e0 s i p max expiry req asked cl clamped h hrun hchannels hmax hexact habsent
    hfree hbelow
  have hclaim : newClaim s (linkRaise c m k level floor flags share e1 e0) = asked := newClaim_linkRaise hmax req rfl
  have hclamped : raiseClamped max (linkRaise c m k level floor flags share e1 e0) = clamped :=
    raiseClamped_linkRaise hmax req rfl
  obtain ⟨u, t, hbody, haside, hone, hplaced, houtputs⟩ := raiseOnLink_outcome
    (r := linkRaise c m k level floor flags share e1 e0) hexact hchannels habsent hfree hbelow hclaim rfl rfl
  refine ⟨u, t, ?_, haside, hone, hplaced, houtputs⟩
  have hcirc : (byte c.val).toNat = c.val := by
    have := c.isLt
    rw [byte_toNat]
    omega
  have hraise := (claimRaise_defined (circuit := byte c.val) (level := level) (floor := floor) (flags := flags)
    (share := share) (e1 := e1) (e0 := e0) hrun (ClaimMode.ofCode_code m) (ClaimClass.ofCode_code k)).2 c hcirc
  rw [exec_claimRaise, serve_handed h (hraise.trans hbody), claimOutcome_fields]
  rw [show maxLevelOf s (linkRaise c m k level floor flags share e1 e0).circuit = max from rfl, hclamped,
    outcomeCode, placed_requested] <;> rfl

/-! ### CLAIM.RETIRE (R21) -/

/-- Some binding is WANTING (R13). -/
def anyWanting (s : State) : Bool := decide (∃ b : BindIx, (s.bde.recs.get b).link = .wanting)

theorem slotFreed_eq (s : State) : slotFreed s =
    { s with bde := { s.bde with passRequested := s.bde.passRequested || anyWanting s } } := by
  have hany : (s.bde.recs.toList.any fun r => r.link == .wanting) = anyWanting s := by
    rw [Bool.eq_iff_iff, any_toList_iff, anyWanting, decide_eq_true_iff]
    simp only [beq_iff_eq]
  unfold slotFreed
  rw [hany]
  cases anyWanting s
  · rw [if_neg (by decide), Bool.or_false]
  · rw [if_pos rfl, Bool.or_true]

theorem retire_link {i : SlotIx} {c : Claim} {s : State} (hc : claimAt s i = some c) (ho : c.origin = .link) :
    retire i s = { s with
      clt := (retire i s).clt, bde := { s.bde with passRequested := s.bde.passRequested || anyWanting s } } := by
  have hclt := retire_clt hc
  unfold retire at hclt ⊢
  simp only [hc, ho] at hclt ⊢
  rw [hclt, slotFreed_eq]
  rfl

theorem unsettled_retire {i : SlotIx} {c : Claim} {s : State} (hc : claimAt s i = some c) :
    unsettled (retire i s) + ((c.settle.map (·.share)).getD 0) = unsettled s := by
  have hslot : (s.clt.slots.get i).unsettled = (c.settle.map (·.share)).getD 0 := by
    rw [Slot.unsettled, show (s.clt.slots.get i).claim = some c from hc]
    rfl
  have hfreed : ((retire i s).clt.slots.get i).unsettled = 0 := by
    rw [slot_unsettled_eq, claimAt_retire, if_pos rfl]
    rfl
  rw [unsettled_eq_sum, unsettled_eq_sum, ← Finset.add_sum_erase _ _ (Finset.mem_univ i),
    ← Finset.add_sum_erase Finset.univ (fun j => (s.clt.slots.get j).unsettled) (Finset.mem_univ i), hfreed, hslot,
    Nat.zero_add, Nat.add_comm]
  congr 1
  refine Finset.sum_congr rfl fun j hj => ?_
  rw [slot_unsettled_eq, slot_unsettled_eq, claimAt_retire, if_neg (Ne.symm (Finset.ne_of_mem_erase hj))]

theorem slots_retire {i j : SlotIx} {c : Claim} {s : State} (hc : claimAt s i = some c) (hj : j ≠ i) :
    (retire i s).clt.slots.get j = s.clt.slots.get j := by
  rw [retire_clt hc, put_get, if_neg (Ne.symm hj)]

/-- After a retirement on the link a pass requested for a WANTING binding begins in RUN with no pass running (R13,
R126). -/
theorem bde_begun_after_retire {i : SlotIx} {c : Claim} {s : State} (hc : claimAt s i = some c) (ho : c.origin = .link)
    (hbegun : s.mdc.mode = .run → s.bde.passRequested = true → s.bde.pass.isSome = true) :
    (beginRequested (retire i s)).bde = if s.mdc.mode = .run ∧ s.bde.pass = none ∧ anyWanting s = true
      then { s.bde with passRequested := false, pass := some (freshPass s) }
      else { s.bde with passRequested := s.bde.passRequested || anyWanting s } := by
  have hretire := retire_link hc ho
  rw [beginRequested_bde, freshPass_congr (retire_sws i s), retire_mdc,
    show (retire i s).bde = { s.bde with passRequested := s.bde.passRequested || anyWanting s } by rw [hretire]]
  dsimp only
  by_cases hrun : s.mdc.mode = .run
  · by_cases hpass : s.bde.pass = none
    · have hidle : s.bde.passRequested = false := by
        by_contra hset
        have := hbegun hrun (by simpa using hset)
        simp [hpass] at this
      simp only [hidle, Bool.false_or]
    · rw [if_neg (by simp [hpass]), if_neg (by simp [hpass])]
  · rw [if_neg (by simp [hrun]), if_neg (by simp [hrun])]

/-- Settles O17: what a retirement does to the claim table, and the pass it requests. -/
theorem retireFreesSlot : Obligations.RetireFreesSlot := by
  intro h1 h0 s i c h hc ho hn hbegun
  obtain ⟨hslot, hgen⟩ := handle_parts (h1 := h1) (h0 := h0) hn
  have hbody := claimRetire_ok (ownedClaim_of_link (namedClaim_ok hslot hc hgen) ho)
  have hclt := retire_clt hc
  refine ⟨{ retire i s with bde := (beginRequested (retire i s)).bde }, _,
    (exec_claimRetire ..).trans (serve_handed h hbody), outputsAside_beginRequested (outputsAside_handedOver ..), ?_,
    ?_, ?_, fun j hj => slots_retire hc hj, ?_, ?_, unsettled_retire hc, ?_⟩
  · rw [retire_link hc ho]
  · exact (claimAt_retire i i s).trans (if_pos rfl)
  · have := gen_retire hc i
    rw [if_pos rfl] at this
    dsimp only
    rw [this, Fin.val_add]
    rfl
  · exact congrArg ClaimTable.grantList hclt
  · exact congrArg ClaimTable.heldQueue hclt
  · have := bde_begun_after_retire hc ho hbegun
    dsimp only
    split
    · next hcond => exact this.trans (if_pos hcond)
    · next hcond => exact this.trans (if_neg hcond)

end Sys2Proof.Machine

/-! PROOFS. CLAIM.ALTER (R18, R19, R20): O15, O16. -/

namespace Sys2Proof.Machine

/-! ### A record altered where it stands -/

theorem readied_modifyClaim {i : SlotIx} {c : Claim} {s : State} (hc : claimAt s i = some c) {f : Claim → Claim}
    (hf : (f c).settle = c.settle) : Readied i (f c) s (modifyClaim i f s) where
  record := modifyClaim_live s f hc
  others j hj := by rw [claimAt_modifyClaim, if_neg (Ne.symm hj)]
  gens j := gen_modifyClaim i j f s
  settle := by rw [hc, hf]; rfl
  grants := by rw [modifyClaim_grantList]
  helds := by rw [modifyClaim_heldQueue]
  aside := rfl

theorem Readied.leave {i : SlotIx} {c : Claim} {s t : State} (h : Readied i c s t) :
    Readied i c s { t with clt := t.clt.leave i } where
  record := h.record
  others := h.others
  gens := h.gens
  settle := h.settle
  grants := by
    rw [← h.grants]
    simp [ClaimTable.leave]
  helds := by
    rw [← h.helds]
    simp [ClaimTable.leave]
  aside := by rw [h.aside]

/-! ### What an alteration asks for (R18, R20) -/

section
variable {changes level floor e1 e0 mode : Byte} {c : Claim} {m : ClaimMode} {max req flr : Nat}

theorem alteration_mode (hgiven : changes.getLsbD 3 = true → mode = m.code) (hkept : changes.getLsbD 3 = false → m = c.mode) :
    (alteration changes level floor e1 e0 mode).modeOf c = m
      ∧ (alteration changes level floor e1 e0 mode).switches c = decide (m ≠ c.mode) := by
  unfold Alteration.modeOf Alteration.switches alteration
  cases hbit : changes.getLsbD 3 with
  | true =>
    simp only [if_pos, hgiven hbit, ClaimMode.ofCode_code]
    refine ⟨rfl, ?_⟩
    rw [Bool.eq_iff_iff]
    simp
  | false => simp [hkept hbit]

variable (hmode : (alteration changes level floor e1 e0 mode).modeOf c = m)
  (hswitch : (alteration changes level floor e1 e0 mode).switches c = decide (m ≠ c.mode))
include hmode hswitch

theorem alteration_requested (hmax : 1 ≤ max) :
    (alteration changes level floor e1 e0 mode).requestedOf max c
      = if m = .flash then (if decide (m ≠ c.mode) then max else c.requested)
        else if changes.getLsbD 0 then (if level.toNat = 0 then 1 else min max level.toNat)
        else if decide (m ≠ c.mode) then max else c.requested := by
  unfold Alteration.requestedOf Alteration.usesLevels
  rw [hmode, hswitch]
  cases m with
  | flash => rfl
  | steady =>
    rw [← clampNat_one hmax]
    unfold alteration
    cases changes.getLsbD 0 <;> rfl

theorem alteration_floor (hreq : (alteration changes level floor e1 e0 mode).requestedOf max c = req)
    (hpos : 1 ≤ req) :
    (alteration changes level floor e1 e0 mode).floorOf max c
      = if m = .flash then (if decide (m ≠ c.mode) then max else c.floor)
        else if changes.getLsbD 1 then (if floor.toNat = 0 then 1 else min req floor.toNat)
        else if decide (m ≠ c.mode) then req else min c.floor req := by
  unfold Alteration.floorOf Alteration.usesLevels
  rw [hmode, hswitch, hreq]
  cases m with
  | flash => rfl
  | steady =>
    rw [← clampNat_one hpos]
    unfold alteration
    cases changes.getLsbD 1 <;> rfl

theorem alteration_clamps (hmax : 1 ≤ max)
    (hreq : (alteration changes level floor e1 e0 mode).requestedOf max c = req) (hpos : 1 ≤ req) :
    (alteration changes level floor e1 e0 mode).clamps max c
      = ((m = .steady && changes.getLsbD 0 && (decide (level.toNat = 0) || decide (max < level.toNat)))
        || (m = .steady && changes.getLsbD 1 && (decide (floor.toNat = 0) || decide (req < floor.toNat)))
        || (changes.getLsbD 2 && decide (14400 < word16 e1 e0))) := by
  have hfloor := alteration_floor (max := max) hmode hswitch hreq hpos
  have hlevel := alteration_requested (floor := floor) hmode hswitch hmax
  have hexpiry : decide (Config.maxExpiry < (alteration changes level floor e1 e0 mode).expiry.getD 0)
      = (changes.getLsbD 2 && decide (14400 < word16 e1 e0)) := by
    unfold alteration
    cases changes.getLsbD 2 <;> simp [Config.maxExpiry]
  unfold Alteration.clamps Alteration.usesLevels
  rw [hmode, hexpiry]
  congr 1
  cases m with
  | flash => rfl
  | steady =>
    rw [hfloor, hlevel]
    unfold alteration
    dsimp only
    rw [← clampNat_one_ne hmax, ← clampNat_one_ne hpos, ← clampNat_one hmax, ← clampNat_one hpos]
    cases changes.getLsbD 0 <;> cases changes.getLsbD 1 <;> simp

omit hswitch in
theorem alteration_record (hreq : (alteration changes level floor e1 e0 mode).requestedOf max c = req)
    (hflr : (alteration changes level floor e1 e0 mode).floorOf max c = flr) :
    (alteration changes level floor e1 e0 mode).record max c =
      { c with
        mode := m, requested := req, floor := flr
        expiry := if changes.getLsbD 2 then
          (if word16 e1 e0 = 0 then none else some (min 14400 (word16 e1 e0))) else c.expiry } := by
  unfold Alteration.record
  rw [hmode, hreq, hflr]
  unfold alteration
  cases changes.getLsbD 2
  · rfl
  · rw [Nat.min_comm]
    rfl

end

/-! ### CLAIM.ALTER's effect -/

section
variable {i : SlotIx} {c : Claim} {a : Alteration} {s : State}

theorem alter_unplaced (h : c.isHeld = true ∨ a.switches c = false ∧ c.mode = .flash) :
    alter i c a s = modifyClaim i (a.record (maxLevelOf s c.circuit)) s := by
  unfold alter
  rcases h with hheld | ⟨hsame, hflash⟩
  · rw [if_pos hheld]
  · rw [hsame, hflash]
    exact ite_self _

theorem alter_switched (hgranted : c.isHeld = false) (hswitch : a.switches c = true) :
    alter i c a s = admitSlot i { modifyClaim i (a.record (maxLevelOf s c.circuit)) s with
      clt := (modifyClaim i (a.record (maxLevelOf s c.circuit)) s).clt.leave i } := by
  unfold alter
  rw [hgranted, hswitch]
  rfl

theorem alter_aligned (hgranted : c.isHeld = false) (hsame : a.switches c = false) (hsteady : c.mode = .steady) :
    alter i c a s = if a.realigns (maxLevelOf s c.circuit) c = true
      then alignLevel i (modifyClaim i (a.record (maxLevelOf s c.circuit)) s)
      else modifyClaim i (a.record (maxLevelOf s c.circuit)) s := by
  unfold alter
  rw [hgranted, hsame, hsteady]
  rfl

variable {h1 h0 changes level floor e1 e0 mode : Byte} {new : Claim}

/-- CLAIM.ALTER of a claim of the link's answers with the outcome of the claim as the alteration leaves it (R18). -/
theorem exec_altered (h : Handed .claimAlter [h1, h0, changes, level, floor, e1, e0, mode] s)
    (hrun : s.mdc.mode = .run) (hc : claimAt s i = some c) (ho : c.origin = .link)
    (hn : word16 h1 h0 = i.val * 16 + (s.clt.slots.get i).gen.val)
    (hm : changes.getLsbD 3 = true → mode.toNat ≤ 1)
    (hone : OneRecord s (alter i c (alteration changes level floor e1 e0 mode) s) i new) :
    exec (.claimAlter [h1, h0, changes, level, floor, e1, e0, mode]) s
      = replied (outcomeCode ((alteration changes level floor e1 e0 mode).clamps (maxLevelOf s c.circuit) c) new)
          (claimOutcome (handleAt s i) new)
          (withHandOver (alter i c (alteration changes level floor e1 e0 mode)) s) := by
  obtain ⟨hslot, hgen⟩ := handle_parts hn
  have hbody := claimAlter_ok (level := level) (floor := floor) (e1 := e1) (e0 := e0) hrun hm
    (ownedClaim_of_link (namedClaim_ok hslot hc hgen) ho)
  rw [outcomeReply_of (withHandOver_clt ..) hone] at hbody
  exact (exec_claimAlter ..).trans (serve_handed h hbody)

end

theorem levels_of_inOrder {s : State} {i : SlotIx} {c : Claim} (h : LevelsInOrder s) (hc : claimAt s i = some c) :
    1 ≤ maxLevelOf s c.circuit ∧ 1 ≤ c.floor ∧ c.floor ≤ c.requested
      ∧ ∀ l, c.state = .granted l → c.floor ≤ l ∧ l ≤ c.requested := by
  obtain ⟨hmax, -, hclaims⟩ := h
  have hclaim := hclaims i
  rw [hc, Option.map_some, Option.getD_some, Claim.levelsInOrder] at hclaim
  simp only [Bool.and_eq_true, decide_eq_true_eq] at hclaim
  obtain ⟨⟨⟨⟨hfloor, hreq⟩, -⟩, hstate⟩, -⟩ := hclaim
  refine ⟨(hmax _).1, hfloor, hreq, fun l hl => ?_⟩
  rw [hl] at hstate
  simpa using hstate

/-- CLAIM.ALTER of a HELD claim, of the mode or of a FLASH claim (R18, R20). -/
theorem alter_unaligned {i : SlotIx} {c base : Claim} {a : Alteration} {s : State} {switched : Bool}
    (hc : claimAt s i = some c) (ho : c.origin = .link) (hexact : CollectionsExact s)
    (hrecord : a.record (maxLevelOf s c.circuit) c = base) (hswitch : a.switches c = switched)
    (hcase : c.isHeld = true ∨ switched = true ∨ switched = false ∧ c.mode = .flash) :
    OneRecord s (alter i c a s) i (if c.isHeld then base else if switched then base.placed s else base)
      ∧ (if c.isHeld || !switched then SamePlaces s (alter i c a s)
          else Placed s (alter i c a s) i (if c.isHeld then base else if switched then base.placed s else base))
      ∧ alter i c a s = { s with clt := (alter i c a s).clt } := by
  subst hrecord hswitch
  by_cases hplace : c.isHeld = false ∧ a.switches c = true
  · obtain ⟨hgranted, hswitch⟩ := hplace
    obtain ⟨hone, hplaced, haside⟩ := ((readied_modifyClaim (f := a.record (maxLevelOf s c.circuit)) hc rfl).leave).admitted
      hexact
    rw [alter_switched hgranted hswitch, hgranted, hswitch]
    refine ⟨hone, hplaced, haside.trans ?_⟩
    rw [show (a.record (maxLevelOf s c.circuit) c).origin = .link from ho]
    rfl
  · have hunplaced : c.isHeld = true ∨ a.switches c = false ∧ c.mode = .flash := by
      rcases hcase with hheld | hswitch | hflash
      · exact .inl hheld
      · exact .inl (by simpa [hswitch] using hplace)
      · exact .inr hflash
    have hnew : (if c.isHeld then a.record (maxLevelOf s c.circuit) c else if a.switches c then
        (a.record (maxLevelOf s c.circuit) c).placed s else a.record (maxLevelOf s c.circuit) c)
        = a.record (maxLevelOf s c.circuit) c := by
      rcases hunplaced with hheld | ⟨hsame, -⟩
      · rw [if_pos hheld]
      · rw [hsame]
        exact ite_self _
    have hsame : (c.isHeld || !a.switches c) = true := by
      rcases hunplaced with hheld | ⟨hsame, -⟩
      · rw [hheld, Bool.true_or]
      · rw [hsame, Bool.not_false, Bool.or_true]
    rw [alter_unplaced hunplaced, hnew, if_pos hsame]
    exact ⟨oneRecord_modifyClaim hc _, ⟨modifyClaim_grantList .., modifyClaim_heldQueue ..⟩, rfl⟩

/-- Settles O16: the alteration's record, and its place. -/
theorem alterModeOrHeld : Obligations.AlterModeOrHeld := by
  intro h1 h0 changes level floor e1 e0 mode s i c m p max expiry switched req flr base new clamped h hrun hc ho hgiven
    hkept hcase hexact hlevels hn
  obtain ⟨hmax, hfloorpos, hfloorle, -⟩ := levels_of_inOrder hlevels hc
  obtain ⟨hmode, hswitch⟩ := alteration_mode (level := level) (floor := floor) (e1 := e1) (e0 := e0) hgiven hkept
  have hreq : (alteration changes level floor e1 e0 mode).requestedOf max c = req :=
    alteration_requested hmode hswitch hmax
  have hpos : 1 ≤ req := by
    change 1 ≤ if m = .flash then (if decide (m ≠ c.mode) then max else c.requested)
      else if changes.getLsbD 0 then (if level.toNat = 0 then 1 else min max level.toNat)
      else if decide (m ≠ c.mode) then max else c.requested
    have : 1 ≤ max := hmax
    split_ifs <;> omega
  have hflr : (alteration changes level floor e1 e0 mode).floorOf max c = flr :=
    alteration_floor hmode hswitch hreq hpos
  have hclamped : (alteration changes level floor e1 e0 mode).clamps max c = clamped :=
    alteration_clamps hmode hswitch hmax hreq hpos
  have hrecord : (alteration changes level floor e1 e0 mode).record max c = base := alteration_record hmode hreq hflr
  have hunaligned : c.isHeld = true ∨ switched = true ∨ switched = false ∧ c.mode = .flash := by
    rcases hcase with hheld | hne | hflash
    · exact .inl hheld
    · exact .inr (.inl (decide_eq_true hne))
    · by_cases hm : m = c.mode
      · exact .inr (.inr ⟨decide_eq_false (by simpa using hm), by rw [← hm, hflash]⟩)
      · exact .inr (.inl (decide_eq_true hm))
  obtain ⟨hone, hplace, haside⟩ := alter_unaligned hc ho hexact hrecord hswitch hunaligned
  have hdefined : changes.getLsbD 3 = true → mode.toNat ≤ 1 := fun hbit => by
    rw [hgiven hbit]
    cases m <;> decide
  refine ⟨_, _, ?_, haside, hone, hplace, outputsAside_handedOver _ s⟩
  rw [exec_altered h hrun hc ho hn hdefined hone, show (alteration changes level floor e1 e0 mode).clamps
    (maxLevelOf s c.circuit) c = clamped from hclamped]
  rfl

end Sys2Proof.Machine

/-! PROOFS. The levels of a GRANTED STEADY claim altered (R19): O15. -/

namespace Sys2Proof.Machine

/-- Whether an added share fits the headroom, or its claim is SAFETY (R19, R35). -/
def Claim.fits (s : State) (c : Claim) (added : Nat) : Bool :=
  c.cls = .safety || decide ((added : Int) ≤ headroom s)

/-- What the alignment of R19 makes of a claim GRANTED at a level: `c` is the record with the new requested and floor
levels. -/
def Claim.aligned (s : State) (c : Claim) (g : Nat) : Claim :=
  let share (l : Nat) : Nat := steadyShare c.shareFull (maxLevelOf s c.circuit) l
  if c.requested < g then { c with state := .granted c.requested }
  else if c.requested = g then c
  else if c.fits s (share c.requested - share g) then
    { c with state := .granted c.requested, settle := addSettle (share c.requested - share g) c.settle }
  else if c.floor ≤ g then c
  else if c.fits s (share c.floor - share g) then
    { c with state := .granted c.floor, settle := addSettle (share c.floor - share g) c.settle }
  else { c with state := .held { budgetTimer := some 8, crank := false, host := false }, settle := none }

section
variable {i : SlotIx} {c : Claim} {s t : State}

theorem Readied.headroom_eq (h : Readied i c s t) : headroom t = headroom s := by
  rw [headroom, headroom, h.sbu, h.unsettled_eq]

theorem Readied.stepped (h : Readied i c s t) (l added : Nat) :
    OneRecord s (stepLevel i l added t) i { c with state := .granted l, settle := addSettle added c.settle } :=
  h.oneRecord (oneRecord_modifyClaim h.record fun c => { c with state := .granted l, settle := addSettle added c.settle })

/-- The alignment of a GRANTED STEADY claim's level: it keeps its place, or enters the held queue. -/
theorem Readied.aligns (h : Readied i c s t) (hexact : CollectionsExact s) (hplaces : SamePlaces s t) {g : Nat}
    (hsteady : c.mode = .steady) (hg : c.state = .granted g) :
    OneRecord s (alignLevel i t) i (c.aligned s g)
      ∧ (if (c.aligned s g).isHeld then JoinsHeld s (alignLevel i t) i else SamePlaces s (alignLevel i t))
      ∧ alignLevel i t = { s with clt := (alignLevel i t).clt } := by
  have hshare (l : Nat) : claimShare t c l = steadyShare c.shareFull (maxLevelOf s c.circuit) l := by
    rw [claimShare, hsteady, maxLevelOf, maxLevelOf, h.crs]
  have hfits (added : Nat) : addedFits t c added = c.fits s added := by rw [addedFits, Claim.fits, h.headroom_eq]
  have hgranted : c.granted = g := by rw [Claim.granted, hg]
  have hnotheld : c.isHeld = false := by rw [Claim.isHeld, hg]
  have hstep (l added : Nat) (d : Claim)
      (hd : d = { c with state := .granted l, settle := addSettle added c.settle }) :
      OneRecord s (stepLevel i l added t) i d
        ∧ (if d.isHeld then JoinsHeld s (stepLevel i l added t) i else SamePlaces s (stepLevel i l added t))
        ∧ stepLevel i l added t = { s with clt := (stepLevel i l added t).clt } := by
    subst hd
    refine ⟨h.stepped l added, hplaces, ?_⟩
    rw [stepLevel, modifyClaim, h.aside]
  have hstand : OneRecord s t i c ∧ (if c.isHeld then JoinsHeld s t i else SamePlaces s t) ∧ t = { s with clt := t.clt } :=
    ⟨⟨h.record, h.others, h.gens⟩, by rw [hnotheld]; exact hplaces, h.aside⟩
  unfold alignLevel Claim.aligned
  rw [h.record]
  simp only [hshare, hfits, hgranted, eq_comm (a := g)]
  by_cases hbelow : c.requested < g
  · simp only [if_pos hbelow]
    exact hstep _ 0 _ rfl
  simp only [if_neg hbelow]
  by_cases hequal : c.requested = g
  · simp only [if_pos hequal]
    exact hstand
  simp only [if_neg hequal]
  by_cases hup : c.fits s (steadyShare c.shareFull (maxLevelOf s c.circuit) c.requested
      - steadyShare c.shareFull (maxLevelOf s c.circuit) g) = true
  · simp only [if_pos hup]
    exact hstep _ _ _ rfl
  simp only [if_neg hup]
  by_cases hfloor : c.floor ≤ g
  · simp only [if_pos hfloor]
    exact hstand
  simp only [if_neg hfloor]
  by_cases hto : c.fits s (steadyShare c.shareFull (maxLevelOf s c.circuit) c.floor
      - steadyShare c.shareFull (maxLevelOf s c.circuit) g) = true
  · simp only [if_pos hto]
    exact hstep _ _ _ rfl
  · simp only [if_neg hto]
    refine ⟨h.oneRecord (oneRecord_makeHeld h.record budgetHold),
      h.joinsHeld (joinsHeld_of_sorted (h.sorted hexact) budgetHold), ?_⟩
    rw [makeHeld, modifyClaim, h.aside]

end

/-- What CLAIM.ALTER makes of a GRANTED STEADY claim whose mode does not change (R18, R19). -/
theorem alter_levels {i : SlotIx} {c base : Claim} {a : Alteration} {s : State} {g : Nat} (hc : claimAt s i = some c)
    (hexact : CollectionsExact s) (hrecord : a.record (maxLevelOf s c.circuit) c = base)
    (hsame : a.switches c = false) (hsteady : c.mode = .steady) (hbase : base.mode = .steady)
    (hg : c.state = .granted g) {new : Claim}
    (hnew : new = if a.realigns (maxLevelOf s c.circuit) c = true then base.aligned s g else base) :
    OneRecord s (alter i c a s) i new
      ∧ (if new.isHeld then JoinsHeld s (alter i c a s) i else SamePlaces s (alter i c a s))
      ∧ alter i c a s = { s with clt := (alter i c a s).clt } := by
  subst hrecord hnew
  have hready := readied_modifyClaim (f := a.record (maxLevelOf s c.circuit)) hc rfl
  have hplaces : SamePlaces s (modifyClaim i (a.record (maxLevelOf s c.circuit)) s) :=
    ⟨modifyClaim_grantList .., modifyClaim_heldQueue ..⟩
  have hnotheld : c.isHeld = false := by rw [Claim.isHeld, hg]
  rw [alter_aligned hnotheld hsame hsteady]
  split_ifs with hrealign hheld
  · have haligned := hready.aligns hexact hplaces hbase hg
    rwa [if_pos hheld] at haligned
  · have haligned := hready.aligns hexact hplaces hbase hg
    rwa [if_neg hheld] at haligned
  · next hheld => exact absurd hheld (by rw [show (a.record (maxLevelOf s c.circuit) c).isHeld = c.isHeld from rfl, hnotheld]; decide)
  · exact ⟨oneRecord_modifyClaim hc _, hplaces, rfl⟩

/-- Settles O15: the alteration's record, brought into agreement with its levels when they are given. -/
theorem alterLevels : Obligations.AlterLevels := by
  intro h1 h0 changes level floor e1 e0 mode s i c g p max expiry req flr base share fits up toFloor new clamped h hrun
    hc ho hsteady hg hgiven hexact hlevels hn
  obtain ⟨hmax, hfloorpos, hfloorle, hgle⟩ := levels_of_inOrder hlevels hc
  obtain ⟨hflg, -⟩ := hgle g hg
  have hgiven' : changes.getLsbD 3 = true → mode = ClaimMode.steady.code := hgiven
  obtain ⟨hmode, hswitch⟩ := alteration_mode (level := level) (floor := floor) (e1 := e1) (e0 := e0) hgiven'
    fun _ => hsteady.symm
  have hsame : decide (ClaimMode.steady ≠ c.mode) = false := by rw [hsteady]; rfl
  have hreq : (alteration changes level floor e1 e0 mode).requestedOf max c = req := by
    rw [alteration_requested hmode hswitch hmax, hsame]
    rfl
  have hpos : 1 ≤ req := by
    change 1 ≤ if changes.getLsbD 0 then (if level.toNat = 0 then 1 else min max level.toNat) else c.requested
    have : 1 ≤ max := hmax
    split_ifs <;> omega
  have hflr : (alteration changes level floor e1 e0 mode).floorOf max c = flr := by
    rw [alteration_floor hmode hswitch hreq hpos, hsame]
    rfl
  have hclamped : (alteration changes level floor e1 e0 mode).clamps max c = clamped :=
    alteration_clamps hmode hswitch hmax hreq hpos
  have hrecord : (alteration changes level floor e1 e0 mode).record max c = base := by
    rw [alteration_record hmode hreq hflr, ← hsteady]
    rfl
  have hrealigns : (alteration changes level floor e1 e0 mode).realigns max c
      = !(!changes.getLsbD 0 && (!changes.getLsbD 1 || decide (flr < c.floor))) := by
    have hlow : min c.floor c.granted = c.floor := by
      rw [Claim.granted, hg]
      exact Nat.min_eq_left hflg
    rw [Alteration.realigns, hflr, hlow]
    unfold alteration
    cases changes.getLsbD 0 <;> cases changes.getLsbD 1 <;> simp
  have hnew : new = if (alteration changes level floor e1 e0 mode).realigns max c = true then base.aligned s g else base := by
    rw [hrealigns]
    change (if (!changes.getLsbD 0 && (!changes.getLsbD 1 || decide (flr < c.floor))) = true then base
      else base.aligned s g) = _
    cases !changes.getLsbD 0 && (!changes.getLsbD 1 || decide (flr < c.floor)) <;> rfl
  obtain ⟨hone, hplace, haside⟩ := alter_levels hc hexact hrecord (hswitch.trans hsame) hsteady hsteady hg hnew
  have hdefined : changes.getLsbD 3 = true → mode.toNat ≤ 1 := fun hbit => by rw [hgiven hbit]; decide
  refine ⟨_, _, ?_, haside, hone, hplace, outputsAside_handedOver _ s⟩
  rw [exec_altered h hrun hc ho hn hdefined hone, show (alteration changes level floor e1 e0 mode).clamps
    (maxLevelOf s c.circuit) c = clamped from hclamped]
  rfl

end Sys2Proof.Machine

/-! PROOFS. The ends of the budget's counts (R11, R32, R37, R46, R47): O27. -/

namespace Sys2Proof.Machine

/-! ### Records changed where they stand -/

theorem modifyClaim_self {i : SlotIx} {f : Claim → Claim} {s : State} (h : (claimAt s i).map f = claimAt s i) :
    modifyClaim i f s = s := by
  have hslots : (modifyClaim i f s).clt.slots = s.clt.slots := by
    refine tbl_ext fun j => ?_
    rw [slots_modifyClaim]
    split
    · next hij =>
      subst hij
      rw [h]
      rfl
    · rfl
  have hclt : (modifyClaim i f s).clt = s.clt := by
    rw [show (modifyClaim i f s).clt = { s.clt with slots := (modifyClaim i f s).clt.slots } from rfl, hslots]
  rw [show modifyClaim i f s = { s with clt := (modifyClaim i f s).clt } from rfl, hclt]

theorem modifyClaim_congr {i : SlotIx} {f g : Claim → Claim} {s : State} (h : ∀ c, claimAt s i = some c → f c = g c) :
    modifyClaim i f s = modifyClaim i g s := by
  have hmap : (claimAt s i).map f = (claimAt s i).map g := by
    cases hc : claimAt s i with
    | none => rfl
    | some c => rw [Option.map_some, Option.map_some, h c hc]
  have hslots : (modifyClaim i f s).clt.slots = (modifyClaim i g s).clt.slots := by
    refine tbl_ext fun j => ?_
    rw [slots_modifyClaim, slots_modifyClaim, hmap]
  have hclt : (modifyClaim i f s).clt = { s.clt with slots := (modifyClaim i g s).clt.slots } := by rw [← hslots]; rfl
  rw [show modifyClaim i f s = { s with clt := (modifyClaim i f s).clt } from rfl, hclt]
  rfl

theorem modifyClaim_self_of {i : SlotIx} {f : Claim → Claim} {s : State} (h : ∀ c, claimAt s i = some c → f c = c) :
    modifyClaim i f s = s := by
  refine modifyClaim_self ?_
  cases hc : claimAt s i with
  | none => rfl
  | some c => rw [Option.map_some, h c hc]

theorem mapReasons_eq (f : HoldReasons → HoldReasons) (c : Claim) : c.mapReasons f = { c with
    state := match c.state with | .held r => .held (f r) | .granted l => .granted l } := by
  obtain ⟨_, _, _, _, _, _, _, _, state, _, _⟩ := c
  cases state <;> rfl

theorem mapReasons_self {f : HoldReasons → HoldReasons} {c : Claim} (h : ∀ r, c.state = .held r → f r = r) :
    c.mapReasons f = c := by
  rw [mapReasons_eq]
  obtain ⟨_, _, _, _, _, _, _, _, state, _, _⟩ := c
  cases state with
  | granted l => rfl
  | held r => simp [h r rfl]

/-! ### The ends of the counts -/

section
variable {s : State} {i : SlotIx} {c : Claim}

theorem budgetRuns_of (h : s.mdc.mode = .run ∨ s.mdc.mode = .quiesced) : budgetRuns s = true := by
  simpa [budgetRuns] using h

theorem exec_settlePartExpiry (hawake : Awake s) (hruns : budgetRuns s = true) (i : SlotIx) :
    exec (.settlePartExpiry i) s = after (modifyClaim i
      (fun c => if (c.settle.map (·.left)) = some 1 then { c with settle := none } else c) s) := by
  change execSettlePartExpiry i s = _
  unfold execSettlePartExpiry
  rw [act_run hawake, if_pos hruns]
  rfl

theorem exec_holdTimerExpiry (hawake : Awake s) (hruns : budgetRuns s = true) (i : SlotIx) :
    exec (.holdTimerExpiry i) s = after (modifyClaim i
      (Claim.mapReasons fun r => if r.budgetTimer = some 1 then { r with budgetTimer := none } else r) s) := by
  change execHoldTimerExpiry i s = _
  unfold execHoldTimerExpiry
  rw [act_run hawake, if_pos hruns]
  rfl

theorem exec_claimExpiry_due (hawake : Awake s) (hruns : budgetRuns s = true)
    (hdue : (claimAt s i).bind (·.expiry) = some 1) :
    exec (.claimExpiry i) s = after (beginRequested (withHandOver (fun s => setFlag .claimExpired (retire i s)) s)) := by
  change execClaimExpiry i s = _
  unfold execClaimExpiry
  rw [act_run hawake, if_pos ⟨hruns, hdue⟩]
  rfl

theorem exec_claimExpiry_idle (hawake : Awake s) (hdue : (claimAt s i).bind (·.expiry) ≠ some 1) :
    exec (.claimExpiry i) s = after s := by
  change execClaimExpiry i s = _
  unfold execClaimExpiry
  rw [act_run hawake, if_neg fun h => hdue h.2]
  rfl

theorem exec_crankRecoveryEnd (hawake : Awake s) (hruns : budgetRuns s = true) (h : s.sbu.crank = .recovery 1) :
    exec .crankRecoveryEnd s = after (endRecovery s) := by
  change execCrankRecoveryEnd s = _
  unfold execCrankRecoveryEnd
  rw [act_run hawake, if_pos ⟨hruns, h⟩]
  rfl

theorem exec_crankRecoveryEnd_idle (hawake : Awake s) (h : s.sbu.crank ≠ .recovery 1) :
    exec .crankRecoveryEnd s = after s := by
  change execCrankRecoveryEnd s = _
  unfold execCrankRecoveryEnd
  rw [act_run hawake, if_neg fun hc => h hc.2]
  rfl

theorem exec_hostHoldEnd (hawake : Awake s) (hruns : budgetRuns s = true) (h : s.sbu.hostHold.map (·.count) = some 1) :
    exec .hostHoldEnd s = after (endHostHold s) := by
  change execHostHoldEnd s = _
  unfold execHostHoldEnd
  rw [act_run hawake, if_pos ⟨hruns, h⟩]
  rfl

theorem exec_hostHoldEnd_idle (hawake : Awake s) (h : s.sbu.hostHold.map (·.count) ≠ some 1) :
    exec .hostHoldEnd s = after s := by
  change execHostHoldEnd s = _
  unfold execHostHoldEnd
  rw [act_run hawake, if_neg fun hc => h hc.2]
  rfl

theorem exec_settlePartExpiry_idle (hawake : Awake s) (hruns : budgetRuns s = true)
    (h : ∀ c, claimAt s i = some c → ∀ sh, c.settle ≠ some { share := sh, left := 1 }) :
    exec (.settlePartExpiry i) s = after s := by
  rw [exec_settlePartExpiry hawake hruns, modifyClaim_self_of]
  intro c hc
  refine if_neg fun hleft => ?_
  obtain ⟨part, hpart, hone⟩ := Option.map_eq_some_iff.mp hleft
  refine h c hc part.share ?_
  rw [hpart, ← hone]

theorem exec_holdTimerExpiry_idle (hawake : Awake s) (hruns : budgetRuns s = true)
    (h : ∀ c, claimAt s i = some c →
      ∀ crank host, c.state ≠ .held { budgetTimer := some 1, crank := crank, host := host }) :
    exec (.holdTimerExpiry i) s = after s := by
  rw [exec_holdTimerExpiry hawake hruns, modifyClaim_self_of]
  refine fun c hc => mapReasons_self fun r hr => if_neg fun htimer => h c hc r.crank r.host ?_
  rw [hr, ← htimer]

/-- What an expiry by itself does to the claim table and to the status (R11). -/
theorem claimExpiry_effect (hc : claimAt s i = some c) {t : State}
    (ht : t = beginRequested (withHandOver (fun s => setFlag .claimExpired (retire i s)) s)) :
    claimAt t i = none ∧ (t.clt.slots.get i).gen = (s.clt.slots.get i).gen + 1
      ∧ (∀ j, j ≠ i → t.clt.slots.get j = s.clt.slots.get j)
      ∧ t.clt.grantList = s.clt.grantList.filter (· ≠ i) ∧ t.clt.heldQueue = s.clt.heldQueue.filter (· ≠ i)
      ∧ t.lif = { s.lif with status := s.lif.status ||| 0x10 } ∧ t.sbu = s.sbu ∧ t.mdc = s.mdc ∧ t.gau = s.gau
      ∧ t.sws = s.sws := by
  have hclt : t.clt = (retire i s).clt := by
    rw [ht]
    unfold withHandOver
    simp
  have hretire := retire_clt hc
  refine ⟨?_, ?_, fun j hj => ?_, ?_, ?_, ?_, ?_, ?_, ?_, ?_⟩
  · rw [claimAt_congr hclt, claimAt_retire, if_pos rfl]
  · rw [hclt, gen_retire hc, if_pos rfl]
  · rw [hclt, slots_retire hc hj]
  · rw [hclt, hretire]
  · rw [hclt, hretire]
  · have hlif : t.lif = (setFlag .claimExpired (retire i s)).lif := by
      rw [ht]
      unfold withHandOver
      simp
    rw [hlif, show (setFlag .claimExpired (retire i s)).lif
      = { (retire i s).lif with status := (retire i s).lif.status ||| 0x10 } from rfl, retire_lif]
  all_goals
    rw [ht]
    unfold withHandOver
    simp

theorem mapClaims_aside (f : Claim → Claim) (s : State) : mapClaims f s = { s with clt := (mapClaims f s).clt } := rfl

theorem claimAt_mapReasons (f : HoldReasons → HoldReasons) (s : State) (i : SlotIx) :
    claimAt (mapClaims (Claim.mapReasons f) s) i = (claimAt s i).map fun c => { c with
      state := match c.state with | .held r => .held (f r) | .granted l => .granted l } := by
  rw [claimAt_mapClaims, funext (mapReasons_eq f)]

theorem endRecovery_effect (s : State) : endRecovery s
      = { s with clt := (endRecovery s).clt, sbu := { s.sbu with crank := .none } } ∧ SamePlaces s (endRecovery s)
    ∧ ∀ i, claimAt (endRecovery s) i = (claimAt s i).map fun c => { c with
        state := match c.state with | .held r => .held { r with crank := false } | .granted l => .granted l } := by
  unfold endRecovery
  generalize hu : ({ s with sbu := { s.sbu with crank := .none } } : State) = u
  have hclaims (i : SlotIx) : claimAt u i = claimAt s i := by rw [← hu]; rfl
  refine ⟨?_, ?_, fun i => ?_⟩
  · rw [mapClaims_aside, ← hu]
  · rw [SamePlaces, mapClaims_grantList, mapClaims_heldQueue, ← hu]
    exact ⟨rfl, rfl⟩
  · rw [claimAt_mapReasons, hclaims]

theorem endHostHold_effect (s : State) : endHostHold s
      = { s with clt := (endHostHold s).clt, sbu := { s.sbu with hostHold := none } } ∧ SamePlaces s (endHostHold s)
    ∧ ∀ i, claimAt (endHostHold s) i = (claimAt s i).map fun c => { c with
        state := match c.state with | .held r => .held { r with host := false } | .granted l => .granted l } := by
  unfold endHostHold
  generalize hu : ({ s with sbu := { s.sbu with hostHold := none } } : State) = u
  have hclaims (i : SlotIx) : claimAt u i = claimAt s i := by rw [← hu]; rfl
  refine ⟨?_, ?_, fun i => ?_⟩
  · rw [mapClaims_aside, ← hu]
  · rw [SamePlaces, mapClaims_grantList, mapClaims_heldQueue, ← hu]
    exact ⟨rfl, rfl⟩
  · rw [claimAt_mapReasons, hclaims]

end

/-- Settles O27: each event's effect when the count stands at its last, and none otherwise. -/
theorem countEnds : Obligations.CountEnds := by
  intro s hawake hmode
  have hruns := budgetRuns_of hmode
  refine ⟨fun i hnone => ?_, fun i c hc => ⟨fun h => ?_, fun h => ?_, fun h => ?_, fun sh h => ?_, fun crank host h => ?_,
    fun h => ?_⟩, exec_crankRecoveryEnd_idle hawake, fun h => ?_, fun h => ?_, fun hold hh hone => ?_⟩
  · have habsurd (c : Claim) (hc : claimAt s i = some c) : False := by simp [hnone] at hc
    exact ⟨exec_settlePartExpiry_idle hawake hruns fun c hc => (habsurd c hc).elim,
      exec_holdTimerExpiry_idle hawake hruns fun c hc => (habsurd c hc).elim,
      exec_claimExpiry_idle hawake (by simp [hnone])⟩
  · refine exec_settlePartExpiry_idle hawake hruns fun d hd => ?_
    rwa [← Option.some.inj (hc.symm.trans hd)]
  · refine exec_holdTimerExpiry_idle hawake hruns fun d hd => ?_
    rwa [← Option.some.inj (hc.symm.trans hd)]
  · exact exec_claimExpiry_idle hawake (by rwa [hc, Option.bind_some])
  · refine ⟨_, exec_settlePartExpiry hawake hruns i, rfl, ⟨rfl, rfl⟩, ?_⟩
    have hone := oneRecord_modifyClaim hc
      fun c => if (c.settle.map (·.left)) = some 1 then { c with settle := none } else c
    rwa [if_pos (by rw [h]; rfl)] at hone
  · refine ⟨_, exec_holdTimerExpiry hawake hruns i, rfl, ⟨rfl, rfl⟩, ?_⟩
    have hone := oneRecord_modifyClaim hc
      (Claim.mapReasons fun r => if r.budgetTimer = some 1 then { r with budgetTimer := none } else r)
    rw [mapReasons_eq, h] at hone
    exact hone
  · exact ⟨_, exec_claimExpiry_due hawake hruns (by rw [hc]; exact h), claimExpiry_effect hc rfl⟩
  · refine exec_hostHoldEnd_idle hawake fun hcount => ?_
    obtain ⟨hold, hhold, hone⟩ := Option.map_eq_some_iff.mp hcount
    exact h hold hhold hone
  · exact ⟨_, exec_crankRecoveryEnd hawake hruns h, endRecovery_effect s⟩
  · exact ⟨_, exec_hostHoldEnd hawake hruns (by rw [hh, Option.map_some, hone]), endHostHold_effect s⟩

end Sys2Proof.Machine

/-! PROOFS. The counts of an evaluation (R28, stages 2 to 5), and its one budget action: O23, O24. -/

namespace Sys2Proof.Machine

/-! ### The counts that every claim carries (stages 2 to 4) -/

/-- Whether the crank recovery ends at this evaluation (R46). -/
def recoveryEnds (s : State) : Bool := decide (s.sbu.crank = .recovery 1) || decide (s.sbu.crank = .recovery 0)

/-- Whether the host hold ends at this evaluation (R47). -/
def hostHoldEnds (s : State) : Bool :=
  match s.sbu.hostHold with
  | some h => decide (h.count ≤ 1)
  | none => false

/-- A claim after stages 2 to 4: its settle part and its hold timer counted down, and CRANK and HOST gone at the ends of
what set them. -/
def Claim.counted (recovered released : Bool) (c : Claim) : Claim :=
  { c with
    settle := c.settle.bind SettlePart.countDown
    state := match c.state with
      | .granted l => .granted l
      | .held r => .held
          { budgetTimer := r.budgetTimer.bind fun n => if n ≤ 1 then none else some (n - 1)
            crank := r.crank && !recovered, host := r.host && !released } }

/-- The state after stages 2 and 3. -/
def timersCounted (s : State) : State :=
  mapClaims (Claim.mapReasons HoldReasons.countTimer) (mapClaims Claim.countSettle s)

/-- The state after stages 2 to 4. -/
def reasonsCounted (s : State) : State := countHostHold (countRecovery (timersCounted s))

theorem countStages_eq (s : State) : countStages s = countExpiries (reasonsCounted s) := rfl

theorem claimAt_countRecovery (s : State) (i : SlotIx) : claimAt (countRecovery s) i =
    (claimAt s i).map (Claim.mapReasons fun r => { r with crank := r.crank && !recoveryEnds s }) := by
  have hstand (hcrank : recoveryEnds s = false) :
      (claimAt s i).map (Claim.mapReasons fun r => { r with crank := r.crank && !recoveryEnds s }) = claimAt s i := by
    rw [hcrank, show (Claim.mapReasons fun r => { r with crank := r.crank && !false }) = id from
      funext fun c => mapReasons_self fun r _ => by rw [Bool.not_false, Bool.and_true], Option.map_id_fun, id]
  unfold countRecovery
  split
  · next n hn =>
    split
    · next hlast =>
      have hends : recoveryEnds s = true := by
        have : n = 1 ∨ n = 0 := by omega
        rw [recoveryEnds, hn]
        rcases this with rfl | rfl <;> decide
      obtain ⟨-, -, hclaims⟩ := endRecovery_effect s
      rw [hclaims, hends, funext (mapReasons_eq _)]
      simp only [Bool.not_true, Bool.and_false]
    · next hlast =>
      have hends : recoveryEnds s = false := by
        rw [recoveryEnds, hn]
        simp only [Crank.recovery.injEq, Bool.or_eq_false_iff, decide_eq_false_iff_not]
        omega
      exact (hstand hends).symm
  · next hn => exact (hstand (by rw [recoveryEnds, hn]; decide)).symm
  · next hn => exact (hstand (by rw [recoveryEnds, hn]; decide)).symm

theorem claimAt_countHostHold (s : State) (i : SlotIx) : claimAt (countHostHold s) i =
    (claimAt s i).map (Claim.mapReasons fun r => { r with host := r.host && !hostHoldEnds s }) := by
  have hstand (hhold : hostHoldEnds s = false) :
      (claimAt s i).map (Claim.mapReasons fun r => { r with host := r.host && !hostHoldEnds s }) = claimAt s i := by
    rw [hhold, show (Claim.mapReasons fun r => { r with host := r.host && !false }) = id from
      funext fun c => mapReasons_self fun r _ => by rw [Bool.not_false, Bool.and_true], Option.map_id_fun, id]
  unfold countHostHold
  split
  · next hold hh =>
    split
    · next hlast =>
      have hends : hostHoldEnds s = true := by
        rw [hostHoldEnds, hh]
        exact decide_eq_true hlast
      obtain ⟨-, -, hclaims⟩ := endHostHold_effect s
      rw [hclaims, hends, funext (mapReasons_eq _)]
      simp only [Bool.not_true, Bool.and_false]
    · next hlast =>
      have hends : hostHoldEnds s = false := by
        rw [hostHoldEnds, hh]
        exact decide_eq_false hlast
      exact (hstand hends).symm
  · next hh => exact (hstand (by rw [hostHoldEnds, hh])).symm

/-- The crank state after stage 4 (R46). -/
def Crank.counted : Crank → Crank
  | .recovery n => if n ≤ 1 then .none else .recovery (n - 1)
  | .none => .none
  | .cranking => .cranking

/-- The host hold after stage 4 (R47). -/
def HostHold.counted (h : HostHold) : Option HostHold := if h.count ≤ 1 then none else some { h with count := h.count - 1 }

theorem countRecovery_sbu (s : State) : (countRecovery s).sbu = { s.sbu with crank := s.sbu.crank.counted } := by
  have hself : s.sbu = { s.sbu with crank := s.sbu.crank } := rfl
  unfold countRecovery
  cases hcrank : s.sbu.crank with
  | none => rw [hcrank] at hself; exact hself
  | cranking => rw [hcrank] at hself; exact hself
  | recovery n =>
    by_cases hlast : n ≤ 1
    · have hnone : Crank.counted (.recovery n) = .none := if_pos hlast
      obtain ⟨haside, -⟩ := endRecovery_effect s
      dsimp only
      rw [if_pos hlast, haside, hnone]
    · have hless : Crank.counted (.recovery n) = .recovery (n - 1) := if_neg hlast
      dsimp only
      rw [if_neg hlast, hless]

theorem countHostHold_sbu (s : State) :
    (countHostHold s).sbu = { s.sbu with hostHold := s.sbu.hostHold.bind HostHold.counted } := by
  have hself : s.sbu = { s.sbu with hostHold := s.sbu.hostHold } := rfl
  unfold countHostHold
  cases hhold : s.sbu.hostHold with
  | none => rw [hhold] at hself; exact hself
  | some h =>
    by_cases hlast : h.count ≤ 1
    · have hnone : h.counted = none := if_pos hlast
      obtain ⟨haside, -⟩ := endHostHold_effect s
      dsimp only
      rw [if_pos hlast, haside, Option.bind_some, hnone]
    · have hless : h.counted = some { h with count := h.count - 1 } := if_neg hlast
      dsimp only
      rw [if_neg hlast, Option.bind_some, hless]

theorem samePlaces_countRecovery (s : State) : SamePlaces s (countRecovery s) := by
  unfold countRecovery
  split
  · split
    · obtain ⟨-, hplaces, -⟩ := endRecovery_effect s
      exact hplaces
    · exact ⟨rfl, rfl⟩
  · exact ⟨rfl, rfl⟩
  · exact ⟨rfl, rfl⟩

theorem samePlaces_countHostHold (s : State) : SamePlaces s (countHostHold s) := by
  unfold countHostHold
  split
  · split
    · obtain ⟨-, hplaces, -⟩ := endHostHold_effect s
      exact hplaces
    · exact ⟨rfl, rfl⟩
  · exact ⟨rfl, rfl⟩

theorem gen_mapClaims (f : Claim → Claim) (s : State) (i : SlotIx) :
    ((mapClaims f s).clt.slots.get i).gen = (s.clt.slots.get i).gen := by rw [slots_mapClaims]

theorem gen_countRecovery (s : State) (i : SlotIx) :
    ((countRecovery s).clt.slots.get i).gen = (s.clt.slots.get i).gen := by
  unfold countRecovery
  split
  · split
    · exact gen_mapClaims ..
    · rfl
  · rfl
  · rfl

theorem gen_countHostHold (s : State) (i : SlotIx) :
    ((countHostHold s).clt.slots.get i).gen = (s.clt.slots.get i).gen := by
  unfold countHostHold
  split
  · split
    · exact gen_mapClaims ..
    · rfl
  · rfl

/-- What stages 2 to 4 leave: each claim counted, in its place and in its life. -/
theorem reasonsCounted_effect (s : State) :
    (∀ i, claimAt (reasonsCounted s) i = (claimAt s i).map (Claim.counted (recoveryEnds s) (hostHoldEnds s)))
      ∧ (∀ i, ((reasonsCounted s).clt.slots.get i).gen = (s.clt.slots.get i).gen)
      ∧ SamePlaces s (reasonsCounted s) ∧ (reasonsCounted s).lif = s.lif
      ∧ (reasonsCounted s).sbu
        = { s.sbu with crank := s.sbu.crank.counted, hostHold := s.sbu.hostHold.bind HostHold.counted } := by
  have htimers : (timersCounted s).sbu = s.sbu := by simp [timersCounted]
  have hrecovery : recoveryEnds (timersCounted s) = recoveryEnds s := by rw [recoveryEnds, recoveryEnds, htimers]
  have hhold : hostHoldEnds (countRecovery (timersCounted s)) = hostHoldEnds s := by
    rw [hostHoldEnds, hostHoldEnds, countRecovery_sbu, htimers]
  unfold reasonsCounted
  refine ⟨fun i => ?_, fun i => ?_, ⟨?_, ?_⟩, ?_, ?_⟩
  · rw [claimAt_countHostHold, claimAt_countRecovery, hhold, hrecovery, timersCounted, claimAt_mapClaims,
      claimAt_mapClaims, Option.map_map, Option.map_map, Option.map_map]
    congr 1
    funext c
    obtain ⟨_, _, _, _, _, _, _, _, state, _, _⟩ := c
    cases state <;> rfl
  · rw [gen_countHostHold, gen_countRecovery, timersCounted, gen_mapClaims, gen_mapClaims]
  · obtain ⟨hhostg, -⟩ := samePlaces_countHostHold (countRecovery (timersCounted s))
    obtain ⟨hrecg, -⟩ := samePlaces_countRecovery (timersCounted s)
    rw [hhostg, hrecg, timersCounted, mapClaims_grantList, mapClaims_grantList]
  · obtain ⟨-, hhostq⟩ := samePlaces_countHostHold (countRecovery (timersCounted s))
    obtain ⟨-, hrecq⟩ := samePlaces_countRecovery (timersCounted s)
    rw [hhostq, hrecq, timersCounted, mapClaims_heldQueue, mapClaims_heldQueue]
  · simp [timersCounted]
  · rw [countHostHold_sbu, countRecovery_sbu, htimers]

/-! ### The expiries (stage 5, R11) -/

/-- Whether a claim's expiry ends at this evaluation. -/
def Claim.due (c : Claim) : Bool :=
  match c.expiry with
  | some n => decide (n ≤ 1)
  | none => false

/-- Whether the claim in a slot ends at this evaluation. -/
def dueAt (s : State) (i : SlotIx) : Bool := ((claimAt s i).map Claim.due).getD false

/-- A slot after stage 5. -/
def Slot.expired (sl : Slot) : Slot :=
  match sl.claim with
  | none => sl
  | some c => if c.due then { gen := sl.gen + 1, claim := none }
    else { sl with claim := some { c with expiry := c.expiry.map (· - 1) } }

section
variable {s : State} {i : SlotIx} {c : Claim}

theorem countExpiry_due (hc : claimAt s i = some c) (hdue : c.due = true) :
    countExpiry s i = setFlag .claimExpired (retire i s) := by
  unfold countExpiry
  rw [hc]
  unfold Claim.due at hdue
  cases hexpiry : c.expiry with
  | none => simp [hexpiry] at hdue
  | some n =>
    rw [hexpiry] at hdue
    simp only [hexpiry]
    exact if_pos (of_decide_eq_true hdue)

theorem countExpiry_kept (hc : claimAt s i = some c) (hdue : c.due = false) :
    countExpiry s i = modifyClaim i (fun c => { c with expiry := c.expiry.map (· - 1) }) s := by
  unfold countExpiry
  rw [hc]
  unfold Claim.due at hdue
  cases hexpiry : c.expiry with
  | none =>
    have hself : modifyClaim i (fun c => { c with expiry := c.expiry.map (· - 1) }) s = s :=
      modifyClaim_self_of fun d hd => by
        obtain rfl := Option.some.inj (hc.symm.trans hd)
        rw [hexpiry, Option.map_none, ← hexpiry]
    rw [hself]
    dsimp only
    rw [hexpiry]
  | some n =>
    rw [hexpiry] at hdue
    simp only [hexpiry]
    rw [if_neg (of_decide_eq_false hdue)]
    refine modifyClaim_congr fun d hd => ?_
    obtain rfl := Option.some.inj (hc.symm.trans hd)
    rw [hexpiry, Option.map_some]

/-- The count of one expiry: its own slot moves on, and its claim leaves its collection when it ends. -/
theorem countExpiry_effect (s : State) (i : SlotIx) :
    (∀ j, (countExpiry s i).clt.slots.get j = if i = j then (s.clt.slots.get i).expired else s.clt.slots.get j)
      ∧ (countExpiry s i).clt.grantList = s.clt.grantList.filter (fun j => !(decide (j = i) && dueAt s i))
      ∧ (countExpiry s i).clt.heldQueue = s.clt.heldQueue.filter (fun j => !(decide (j = i) && dueAt s i))
      ∧ hasFlag .claimExpired (countExpiry s i) = (hasFlag .claimExpired s || dueAt s i) := by
  cases hc : claimAt s i with
  | none =>
    have hslot : (s.clt.slots.get i).expired = s.clt.slots.get i := by
      rw [Slot.expired, show (s.clt.slots.get i).claim = none from hc]
    have hdue : dueAt s i = false := by rw [dueAt, hc]; rfl
    have hstep : countExpiry s i = s := by
      unfold countExpiry
      rw [hc]
    simp only [hstep, hdue, hslot, Bool.and_false, Bool.not_false, List.filter_true, Bool.or_false, and_true]
    intro j
    split
    · next hij => rw [hij]
    · rfl
  | some c =>
    have hslot : (s.clt.slots.get i).claim = some c := hc
    have hdueAt : dueAt s i = c.due := by rw [dueAt, hc]; rfl
    cases hdue : c.due with
    | true =>
      rw [countExpiry_due hc hdue, hdueAt, hdue]
      have hclt : (setFlag .claimExpired (retire i s)).clt = _ := retire_clt hc
      have hexpired : (s.clt.slots.get i).expired = { gen := (s.clt.slots.get i).gen + 1, claim := none } := by
        rw [Slot.expired, hslot]
        exact if_pos hdue
      refine ⟨fun j => ?_, ?_, ?_, ?_⟩
      · rw [hclt, put_get, hexpired]
      · rw [hclt]
        simp
      · rw [hclt]
        simp
      · rw [show setFlag .claimExpired (retire i s) = setFlagIf true .claimExpired (retire i s) from rfl,
          hasFlag_setFlagIf, Bool.or_true, Bool.true_and, decide_eq_true rfl, Bool.or_true]
    | false =>
      rw [countExpiry_kept hc hdue, hdueAt, hdue]
      have hexpired : (s.clt.slots.get i).expired
          = { s.clt.slots.get i with claim := some { c with expiry := c.expiry.map (· - 1) } } := by
        rw [Slot.expired, hslot]
        exact if_neg (by rw [hdue]; decide)
      refine ⟨fun j => ?_, by simp, by simp, by rw [Bool.or_false]; rfl⟩
      rw [slots_modifyClaim, hc, hexpired]
      rfl

end

end Sys2Proof.Machine

/-! PROOFS. An evaluation's counts as a whole, and its one budget action: O23, O24. -/

namespace Sys2Proof.Machine

/-- The counts of the expiries in a list of slots, each once. -/
theorem foldl_countExpiry_effect (xs : List SlotIx) (hxs : xs.Nodup) (s : State) :
    let t := xs.foldl countExpiry s
    (∀ j, t.clt.slots.get j = if j ∈ xs then (s.clt.slots.get j).expired else s.clt.slots.get j)
      ∧ t.clt.grantList = s.clt.grantList.filter (fun j => !(decide (j ∈ xs) && dueAt s j))
      ∧ t.clt.heldQueue = s.clt.heldQueue.filter (fun j => !(decide (j ∈ xs) && dueAt s j))
      ∧ hasFlag .claimExpired t = (hasFlag .claimExpired s || xs.any (dueAt s)) := by
  induction xs generalizing s with
  | nil => simp
  | cons x xs ih =>
    obtain ⟨hx, hnodup⟩ := List.nodup_cons.mp hxs
    obtain ⟨hslots, hgrants, hhelds, hflag⟩ := ih hnodup (countExpiry s x)
    obtain ⟨hslots', hgrants', hhelds', hflag'⟩ := countExpiry_effect s x
    have hsame {j : SlotIx} (hj : j ∈ xs) : (countExpiry s x).clt.slots.get j = s.clt.slots.get j := by
      rw [hslots', if_neg (by rintro rfl; exact hx hj)]
    have hdue {j : SlotIx} (hj : j ∈ xs) : dueAt (countExpiry s x) j = dueAt s j := by
      rw [dueAt, dueAt, claimAt, claimAt, hsame hj]
    have hfilter (l : List SlotIx) :
        (l.filter fun j => !(decide (j = x) && dueAt s x)).filter
            (fun j => !(decide (j ∈ xs) && dueAt (countExpiry s x) j))
          = l.filter fun j => !(decide (j ∈ x :: xs) && dueAt s j) := by
      rw [List.filter_filter]
      refine List.filter_congr fun j _ => ?_
      by_cases hj : j ∈ xs
      · have hne : j ≠ x := by rintro rfl; exact hx hj
        simp [hj, hne, hdue hj]
      · by_cases hjx : j = x
        · simp [hjx, hx]
        · simp [hj, hjx]
    rw [List.foldl_cons]
    refine ⟨fun j => ?_, ?_, ?_, ?_⟩
    · rw [hslots]
      by_cases hj : j ∈ xs
      · rw [if_pos hj, if_pos (List.mem_cons_of_mem _ hj), hsame hj]
      · rw [if_neg hj, hslots']
        by_cases hjx : x = j
        · rw [if_pos hjx, if_pos (by simp [hjx]), hjx]
        · rw [if_neg hjx, if_neg (by simp [hj, Ne.symm hjx])]
    · rw [hgrants, hgrants', hfilter]
    · rw [hhelds, hhelds', hfilter]
    · have hany : xs.any (dueAt (countExpiry s x)) = xs.any (dueAt s) := by
        rw [Bool.eq_iff_iff, List.any_eq_true, List.any_eq_true]
        exact exists_congr fun j => and_congr_right fun hj => by rw [hdue hj]
      rw [hflag, hflag', hany, List.any_cons, Bool.or_assoc]

theorem countExpiries_effect (s : State) :
    (∀ j, (countExpiries s).clt.slots.get j = (s.clt.slots.get j).expired)
      ∧ (countExpiries s).clt.grantList = s.clt.grantList.filter (fun j => !dueAt s j)
      ∧ (countExpiries s).clt.heldQueue = s.clt.heldQueue.filter (fun j => !dueAt s j)
      ∧ hasFlag .claimExpired (countExpiries s) = (hasFlag .claimExpired s || (List.finRange 32).any (dueAt s)) := by
  obtain ⟨hslots, hgrants, hhelds, hflag⟩ := foldl_countExpiry_effect (List.finRange 32) (List.nodup_finRange 32) s
  simp only [List.mem_finRange, if_true, decide_true, Bool.true_and] at hslots hgrants hhelds
  unfold countExpiries
  exact ⟨hslots, hgrants, hhelds, hflag⟩

/-! ### Stages 2 to 5 together -/

theorem counted_due (recovered released : Bool) (c : Claim) : (c.counted recovered released).due = c.due := rfl

theorem dueAt_reasonsCounted (s : State) (i : SlotIx) : dueAt (reasonsCounted s) i = dueAt s i := by
  obtain ⟨hclaims, -⟩ := reasonsCounted_effect s
  rw [dueAt, dueAt, hclaims, Option.map_map]
  rfl

/-- What stages 2 to 5 leave in a slot: the claim counted, or the slot freed when the claim's expiry ends. -/
theorem countStages_slot (s : State) (i : SlotIx) : (countStages s).clt.slots.get i =
    Slot.expired { gen := (s.clt.slots.get i).gen
                   claim := (claimAt s i).map (Claim.counted (recoveryEnds s) (hostHoldEnds s)) } := by
  obtain ⟨hclaims, hgens, -⟩ := reasonsCounted_effect s
  obtain ⟨hslots, -⟩ := countExpiries_effect (reasonsCounted s)
  rw [countStages_eq, hslots, ← hclaims, ← hgens]
  rfl

theorem countStages_free {s : State} {i : SlotIx} (h : claimAt s i = none) :
    (countStages s).clt.slots.get i = s.clt.slots.get i := by
  rw [countStages_slot, h, Option.map_none]
  exact congrArg (fun c => ({ gen := (s.clt.slots.get i).gen, claim := c } : Slot)) h.symm

theorem countStages_due {s : State} {i : SlotIx} {c : Claim} (hc : claimAt s i = some c) (hdue : c.due = true) :
    (countStages s).clt.slots.get i = { gen := (s.clt.slots.get i).gen + 1, claim := none } := by
  rw [countStages_slot, hc, Option.map_some, Slot.expired]
  exact if_pos hdue

theorem countStages_kept {s : State} {i : SlotIx} {c : Claim} (hc : claimAt s i = some c) (hdue : c.due = false) :
    (countStages s).clt.slots.get i = { gen := (s.clt.slots.get i).gen
                                        claim := some { c.counted (recoveryEnds s) (hostHoldEnds s) with
                                          expiry := c.expiry.map (· - 1) } } := by
  rw [countStages_slot, hc, Option.map_some, Slot.expired]
  exact if_neg (by rw [counted_due, hdue]; decide)

theorem countStages_sbu (s : State) : (countStages s).sbu
    = { s.sbu with crank := s.sbu.crank.counted, hostHold := s.sbu.hostHold.bind HostHold.counted } := by
  obtain ⟨-, -, -, -, hsbu⟩ := reasonsCounted_effect s
  rw [countStages_eq, countExpiries_sbu, hsbu]

theorem countStages_lists (s : State) :
    (countStages s).clt.grantList = s.clt.grantList.filter (fun j => !dueAt s j)
      ∧ (countStages s).clt.heldQueue = s.clt.heldQueue.filter (fun j => !dueAt s j) := by
  obtain ⟨-, -, ⟨hgrants, hhelds⟩, -, -⟩ := reasonsCounted_effect s
  obtain ⟨-, hgrants', hhelds', -⟩ := countExpiries_effect (reasonsCounted s)
  simp only [dueAt_reasonsCounted] at hgrants' hhelds'
  exact ⟨by rw [countStages_eq, hgrants', hgrants], by rw [countStages_eq, hhelds', hhelds]⟩

theorem countStages_flag (s : State) : hasFlag .claimExpired (countStages s) = true ↔
    hasFlag .claimExpired s = true ∨ ∃ i c, claimAt s i = some c ∧ c.due = true := by
  obtain ⟨-, -, -, hlif, -⟩ := reasonsCounted_effect s
  obtain ⟨-, -, -, hflag⟩ := countExpiries_effect (reasonsCounted s)
  have hsame : hasFlag .claimExpired (reasonsCounted s) = hasFlag .claimExpired s := by rw [hasFlag, hasFlag, hlif]
  rw [countStages_eq, hflag, hsame, Bool.or_eq_true, List.any_eq_true]
  refine or_congr_right (exists_congr fun i => ?_)
  rw [dueAt_reasonsCounted, dueAt]
  cases claimAt s i <;> simp

/-- What the measurement leaves: the claims, the holds, the runs, the passes and the modes (R28, stage 1). -/
structure Measured (s t : State) : Prop where
  clt : t.clt = s.clt
  crank : t.sbu.crank = s.sbu.crank
  hostHold : t.sbu.hostHold = s.sbu.hostHold
  deficitRun : t.sbu.deficitRun = s.sbu.deficitRun
  surplusRun : t.sbu.surplusRun = s.sbu.surplusRun
  bde : t.bde = s.bde
  mdc : t.mdc = s.mdc
  flag : hasFlag .claimExpired t = hasFlag .claimExpired s

namespace Measured

variable {s t u : State}

theorem refl (s : State) : Measured s s := ⟨rfl, rfl, rfl, rfl, rfl, rfl, rfl, rfl⟩

theorem trans (h : Measured s t) (h' : Measured t u) : Measured s u :=
  ⟨h'.clt.trans h.clt, h'.crank.trans h.crank, h'.hostHold.trans h.hostHold, h'.deficitRun.trans h.deficitRun,
    h'.surplusRun.trans h.surplusRun, h'.bde.trans h.bde, h'.mdc.trans h.mdc, h'.flag.trans h.flag⟩

theorem setFlagIf {f : Flag} (hf : f ≠ .claimExpired) (b : Bool) (s : State) : Measured s (setFlagIf b f s) := by
  refine ⟨by simp, by simp, by simp, by simp, by simp, by simp, by simp, ?_⟩
  rw [hasFlag_setFlagIf, decide_eq_false (Ne.symm hf), Bool.and_false, Bool.or_false]

theorem setBand (s : State) : Measured s (setBand s) := by
  unfold Machine.setBand
  split
  · exact Measured.trans (t := { s with sbu := { s.sbu with band := s.sbu.band.after s.sbu.vbatF } })
      { refl s with } (setFlagIf (by decide) _ _)
  · exact refl s

theorem setCharging (s : State) : Measured s (setCharging s) :=
  Measured.trans (t := { s with sbu := { s.sbu with charging := s.sbu.charging.after s.sbu.vgenF s.sbu.vbatF } })
    { refl s with } (setFlagIf (by decide) _ _)

theorem formFiltered (s : State) : Measured s (formFiltered s) := by
  unfold Machine.formFiltered
  split <;> exact { refl s with }

theorem measureStage (s : State) : Measured s (measureStage s) :=
  ((formFiltered s).trans (setBand _)).trans (setCharging _)

end Measured

end Sys2Proof.Machine

/-! PROOFS. The statements on an evaluation's counts and on its one budget action: O23, O24. -/

namespace Sys2Proof.Machine

/-! ### The evaluation outside RUN and while CRANKING -/

theorem actionStage_counts {s : State} (h : s.mdc.mode = .quiesced ∨ s.mdc.mode = .run ∧ s.sbu.crank = .cranking) :
    actionStage s = setRuns 0 0 s := by
  refine if_neg fun ⟨hrun, hcrank⟩ => ?_
  rcases h with h | ⟨-, h⟩
  · exact absurd (hrun.symm.trans h) (by decide)
  · exact hcrank h

theorem evaluationStages_counts {s : State} (h : s.mdc.mode = .quiesced ∨ s.mdc.mode = .run ∧ s.sbu.crank = .cranking) :
    evaluationStages s = setRuns 0 0 (countStages (measureStage s)) := by
  have hmeasured := Measured.measureStage s
  have hmode : (countStages (measureStage s)).mdc = s.mdc := by
    rw [← hmeasured.mdc]
    simp [countStages]
  have hcrank : (countStages (measureStage s)).sbu.crank = s.sbu.crank.counted := by
    rw [countStages_sbu, hmeasured.crank]
  refine actionStage_counts ?_
  rw [hmode, hcrank]
  rcases h with h | ⟨hrun, h⟩
  · exact .inl h
  · exact .inr ⟨hrun, by rw [h]; rfl⟩

/-- An evaluation's end leaves the claims, the budget and the status as its stages leave them. -/
theorem evaluation_end (s : State) :
    (settleTimer (beginRequested (refreshDemands (withHandOver evaluationStages s)))).clt = (evaluationStages s).clt
      ∧ (settleTimer (beginRequested (refreshDemands (withHandOver evaluationStages s)))).sbu = (evaluationStages s).sbu
      ∧ (settleTimer (beginRequested (refreshDemands (withHandOver evaluationStages s)))).lif
        = (evaluationStages s).lif := by
  unfold withHandOver
  simp

theorem setRuns_sbu (d r : Nat) (s : State) :
    (setRuns d r s).sbu = { s.sbu with deficitRun := d, surplusRun := r } := rfl

/-- Settles O23: each slot's count, the holds and the lists, for the counts by themselves and within an evaluation. -/
theorem evaluationCounts : Obligations.EvaluationCounts := by
  unfold Obligations.EvaluationCounts
  intro counted
  have hcounts (s u t : State) (hmeasured : Measured s u) (hclt : t.clt = (countStages u).clt)
      (hcrank : t.sbu.crank = (countStages u).sbu.crank) (hhold : t.sbu.hostHold = (countStages u).sbu.hostHold)
      (hflag : hasFlag .claimExpired t = hasFlag .claimExpired (countStages u)) : counted s t := by
    have hat (i : SlotIx) : claimAt u i = claimAt s i := claimAt_congr hmeasured.clt i
    have hslot (i : SlotIx) : u.clt.slots.get i = s.clt.slots.get i := by rw [hmeasured.clt]
    have hrecovered : recoveryEnds u = recoveryEnds s := by rw [recoveryEnds, recoveryEnds, hmeasured.crank]
    have hreleased : hostHoldEnds u = hostHoldEnds s := by rw [hostHoldEnds, hostHoldEnds, hmeasured.hostHold]
    refine ⟨?_, ?_, fun i hi => ?_, fun i c hc hdue => ?_, fun i c hc hdue => ?_, ?_, ?_⟩
    · rw [hcrank, countStages_sbu, hmeasured.crank]
      cases s.sbu.crank <;> rfl
    · rw [hhold, countStages_sbu, hmeasured.hostHold]
      cases s.sbu.hostHold <;> rfl
    · rw [hclt, countStages_free ((hat i).trans hi), hslot]
    · rw [claimAt, hclt, countStages_due ((hat i).trans hc) hdue, hslot]
      exact ⟨rfl, rfl⟩
    · rw [claimAt, hclt, countStages_kept ((hat i).trans hc) hdue, hslot, hrecovered, hreleased]
      exact ⟨rfl, rfl⟩
    · obtain ⟨hgrants, hhelds⟩ := countStages_lists u
      have hdue : dueAt u = dueAt s := funext fun i => by rw [dueAt, dueAt, hat]
      rw [hdue, hmeasured.clt] at hgrants hhelds
      rw [hclt]
      exact ⟨hgrants, hhelds⟩
    · rw [hflag, countStages_flag, hmeasured.flag]
      simp only [hat]
      rfl
  refine ⟨fun s => ⟨hcounts s s _ (.refl s) rfl rfl rfl rfl, ?_, ?_⟩, fun s => ?_, fun s hawake hmode => ?_⟩
  · rw [countStages_sbu]
  · simp [countStages]
  · have h := Measured.measureStage s
    exact ⟨h.clt, h.crank, h.hostHold, h.deficitRun, h.surplusRun, h.bde, h.mdc⟩
  · obtain ⟨hclt, hsbu, hlif⟩ := evaluation_end s
    rw [evaluationStages_counts hmode] at hclt hsbu hlif
    refine ⟨_, exec_budgetEvaluation hawake (hmode.symm.imp_left And.left), ?_, ?_, ?_⟩
    · rw [hsbu]
      rfl
    · rw [hsbu]
      rfl
    · refine hcounts s (measureStage s) _ (.measureStage s) ?_ ?_ ?_ ?_
      · rw [hclt, setRuns_clt]
      · rw [hsbu, setRuns_sbu]
      · rw [hsbu, setRuns_sbu]
      · rw [hasFlag, hlif, setRuns_lif, hasFlag]

/-! ### The one budget action (R28) -/

theorem firstClass_mem {classes : List ClaimClass} {find : ClaimClass → Option SlotIx} {i : SlotIx}
    (h : firstClass classes find = some i) : ∃ k ∈ classes, find k = some i :=
  List.exists_of_findSome?_eq_some h

theorem find?_grantedIn {s : State} {k : ClaimClass} {p : Claim → Bool} {xs : List SlotIx} {i : SlotIx}
    (h : xs.find? (grantedIn s k p) = some i) : ∃ c, claimAt s i = some c ∧ c.cls = k := by
  obtain ⟨c, hc, -, hk, -⟩ := (grantedIn_iff ..).mp (List.find?_some h)
  exact ⟨c, hc, hk⟩

theorem shedVictim_not_safety {s : State} {i : SlotIx} (h : shedVictim s = some i) :
    ∃ c, claimAt s i = some c ∧ c.cls ≠ .safety := by
  obtain ⟨k, hk, hfind⟩ := firstClass_mem h
  obtain ⟨c, hc, rfl⟩ := find?_grantedIn hfind
  exact ⟨c, hc, by rintro hs; rw [hs] at hk; revert hk; decide⟩

theorem candidate_not_safety {s : State} (hsafety : SafetyGranted s) {i : SlotIx} (h : candidate s = some i) :
    ∃ c, claimAt s i = some c ∧ c.cls ≠ .safety := by
  unfold candidate at h
  split at h
  · next j hj =>
    obtain rfl := Option.some.inj h
    obtain ⟨c, hc, hstate⟩ := (reasonFree_iff s j).mp (List.find?_some hj)
    refine ⟨c, hc, fun hs => hsafety j ?_⟩
    rw [hc, Option.map_some, hs, Claim.isHeld, hstate]
    rfl
  · obtain ⟨k, hk, hfind⟩ := firstClass_mem h
    obtain ⟨c, hc, rfl⟩ := find?_grantedIn hfind
    exact ⟨c, hc, by rintro hs; rw [hs] at hk; revert hk; decide⟩

theorem shed_other {s : State} {i j : SlotIx} (hj : j ≠ i) : claimAt (shed i s) j = claimAt s j := by
  unfold shed
  split
  · rfl
  · split
    · rw [claimAt_modifyClaim, if_neg (Ne.symm hj)]
    · exact (claimAt_makeHeld ..).trans (if_neg (Ne.symm hj))

theorem takeBack_other {s : State} {i j : SlotIx} (room : Int) (hj : j ≠ i) :
    claimAt (takeBack room i s) j = claimAt s j := by
  unfold takeBack
  split
  · rfl
  · split
    · exact (claimAt_makeGranted ..).trans (if_neg (Ne.symm hj))
    · exact (claimAt_stepLevel ..).trans (if_neg (Ne.symm hj))

/-- The action touches at most one claim, and never one of class SAFETY (R28). -/
theorem actionStage_acts {s : State} (hsafety : SafetyGranted s) : ∃ acted : Option SlotIx,
    (∀ i, acted = some i → ∃ c, claimAt s i = some c ∧ c.cls ≠ .safety)
      ∧ ∀ i, acted ≠ some i → claimAt (actionStage s) i = claimAt s i := by
  have hruns (d r : Nat) : ∃ acted : Option SlotIx, (∀ i, acted = some i → ∃ c, claimAt s i = some c ∧ c.cls ≠ .safety)
      ∧ ∀ i, acted ≠ some i → claimAt (setRuns d r s) i = claimAt s i := ⟨none, nofun, fun _ _ => rfl⟩
  unfold actionStage
  dsimp only
  split_ifs
  · unfold deficitStage
    dsimp only
    split
    · split
      · next i hi =>
        refine ⟨some i, fun j hj => ?_, fun j hj => shed_other (s := setRuns 0 0 s) fun h => hj (by rw [h])⟩
        exact Option.some.inj hj ▸ shedVictim_not_safety hi
      · exact hruns ..
    · exact hruns ..
  · unfold surplusStage
    split
    · exact hruns ..
    · next i hi =>
      split
      · exact hruns ..
      · split
        · dsimp only
          split
          · refine ⟨some i, fun j hj => ?_, fun j hj => takeBack_other (s := setRuns 0 0 s) _ fun h => hj (by rw [h])⟩
            exact Option.some.inj hj ▸ candidate_not_safety hsafety hi
          · exact hruns ..
        · exact hruns ..
  · exact hruns ..

/-- The claims after stages 2 to 5 are those before, with their states and levels, but for those that ended. -/
theorem countStages_claims (s : State) (i : SlotIx) : claimAt (countStages s) i = none
    ∨ ∃ c d, claimAt s i = some c ∧ claimAt (countStages s) i = some d ∧ d.cls = c.cls ∧ d.isHeld = c.isHeld
        ∧ d.granted = c.granted := by
  cases hc : claimAt s i with
  | none => exact .inl (by rw [claimAt, countStages_free hc]; exact hc)
  | some c =>
    cases hdue : c.due with
    | true => exact .inl (by rw [claimAt, countStages_due hc hdue])
    | false =>
      refine .inr ⟨c, { c.counted (recoveryEnds s) (hostHoldEnds s) with expiry := c.expiry.map (· - 1) }, rfl, by rw [claimAt, countStages_kept hc hdue], rfl, ?_, ?_⟩
      · obtain ⟨_, _, _, _, _, _, _, _, state, _, _⟩ := c
        cases state <;> rfl
      · obtain ⟨_, _, _, _, _, _, _, _, state, _, _⟩ := c
        cases state <;> rfl

theorem safetyGranted_countStages {s : State} (h : SafetyGranted s) : SafetyGranted (countStages s) := by
  intro i
  rcases countStages_claims s i with hnone | ⟨c, d, hc, hd, hcls, hheld, -⟩
  · rw [hnone]
    exact nofun
  · have := h i
    rw [hc] at this
    rwa [hd, Option.map_some, hcls, hheld]

/-- Settles O24: the counts keep states and levels, and the action touches one claim. -/
theorem oneActionNeverSafety : Obligations.OneActionNeverSafety := by
  intro s t hawake hsafety hexec
  by_cases hmode : s.mdc.mode = .run ∨ s.mdc.mode = .quiesced
  · have ht := (exec_budgetEvaluation hawake hmode).symm.trans hexec
    obtain rfl := Host.Outcome.next.inj ht
    obtain ⟨hclt, -, -⟩ := evaluation_end s
    have hmeasured := Measured.measureStage s
    have hsafe : SafetyGranted (measureStage s) := fun i => by
      rw [claimAt_congr hmeasured.clt]
      exact hsafety i
    obtain ⟨acted, hacted, hothers⟩ := actionStage_acts (safetyGranted_countStages hsafe)
    refine ⟨acted, fun i c hc => ?_⟩
    rw [claimAt_congr hclt, evaluationStages_eq]
    by_cases hi : acted = some i
    · refine .inr (.inl ⟨hi, ?_⟩)
      obtain ⟨d, hd, hcls⟩ := hacted i hi
      rcases countStages_claims (measureStage s) i with hnone | ⟨c', d', hc', hd', hcls', -, -⟩
      · rw [hnone] at hd
        exact absurd hd nofun
      · rw [claimAt_congr hmeasured.clt, hc] at hc'
        obtain rfl := Option.some.inj hc'
        rw [hd] at hd'
        rw [← hcls', ← Option.some.inj hd']
        exact hcls
    · rw [hothers i hi]
      rcases countStages_claims (measureStage s) i with hnone | ⟨c', d', hc', hd', -, hheld, hlevel⟩
      · exact .inl hnone
      · rw [claimAt_congr hmeasured.clt, hc] at hc'
        obtain rfl := Option.some.inj hc'
        exact .inr (.inr ⟨d', hd', hheld, hlevel⟩)
  · have hruns : ¬ budgetRuns s = true := fun h => hmode (by simpa [budgetRuns] using h)
    have ht : exec .budgetEvaluation s = after s := by
      change execBudgetEvaluation s = _
      unfold execBudgetEvaluation
      rw [act_run hawake, if_neg hruns]
      rfl
    obtain rfl := Host.Outcome.next.inj (ht.symm.trans hexec)
    refine ⟨none, fun i c hc => .inr (.inr ⟨c, ?_, rfl, rfl⟩)⟩
    rw [← hc]
    exact claimAt_congr (settleTimer_clt s) i

end Sys2Proof.Machine

/-! PROOFS. The claims of a set of classes held in grant order (R45, R48): O28. -/

namespace Sys2Proof.Machine

/-! ### One claim made HELD -/

/-- The class of a slot's claim, as the claim table gives it. -/
theorem slotClass_eq (s : State) (i : SlotIx) (p : ClaimClass → Bool) :
    slotClass s i p = ((claimAt s i).map fun c => p c.cls).getD false := by
  unfold slotClass
  cases claimAt s i <;> rfl

theorem slotClass_makeHeld (i j : SlotIx) (r : HoldReasons) (s : State) (p : ClaimClass → Bool) :
    slotClass (makeHeld i r s) j p = slotClass s j p := by
  rw [slotClass_eq, slotClass_eq, claimAt_makeHeld]
  by_cases hij : i = j
  · rw [if_pos hij, hij]
    cases claimAt s j <;> rfl
  · rw [if_neg hij]

theorem slotRank_makeHeld (i j : SlotIx) (r : HoldReasons) (s : State) :
    slotRank (makeHeld i r s).clt j = slotRank s.clt j :=
  slotRank_modifyClaim (f := fun c => { c with state := .held r, settle := none }) (fun _ => rfl) i j s

theorem rank_of_slotClass {s : State} {i : SlotIx} {k : ClaimClass} (h : slotClass s i (· = k) = true) :
    slotRank s.clt i = k.rank := by
  unfold slotClass at h
  rw [slotRank_eq]
  cases hc : claimAt s i with
  | none => simp [hc] at h
  | some c =>
    rw [hc] at h
    rw [← of_decide_eq_true h]
    rfl

/-- The held queue is ordered by class (R7). -/
abbrev QueueSorted (s : State) : Prop := s.clt.heldQueue.Pairwise fun i j => slotRank s.clt i ≤ slotRank s.clt j

section
variable {s : State} {i : SlotIx}

theorem filter_ne_of_notMem {xs : List SlotIx} (h : i ∉ xs) : xs.filter (· ≠ i) = xs :=
  List.filter_eq_self.mpr fun j hj => by simpa using fun hji : j = i => h (hji ▸ hj)

theorem queueSorted_makeHeld (hsorted : QueueSorted s) (hi : i ∉ s.clt.heldQueue) (r : HoldReasons) :
    QueueSorted (makeHeld i r s) := by
  obtain ⟨-, front, back, hqueue, hqueue', hfront, hback⟩ := joinsHeld_makeHeld hsorted i r
  rw [filter_ne_of_notMem hi] at hqueue
  unfold QueueSorted at hsorted ⊢
  simp only [slotRank_makeHeld] at hfront hback ⊢
  rw [hqueue, List.pairwise_append] at hsorted
  obtain ⟨hsortedf, hsortedb, hcross⟩ := hsorted
  rw [hqueue', List.pairwise_append, List.pairwise_cons]
  refine ⟨hsortedf, ⟨fun j hj => (hback j hj).le, hsortedb⟩, fun j hj k hk => ?_⟩
  rcases List.mem_cons.mp hk with rfl | hk
  · exact hfront j hj
  · exact hcross j hj k hk

/-- A claim that becomes HELD comes after the entries of its class, and leaves the order within each class. -/
theorem heldQueue_makeHeld_class (hsorted : QueueSorted s) (hi : i ∉ s.clt.heldQueue) (r : HoldReasons)
    (k : ClaimClass) : (makeHeld i r s).clt.heldQueue.filter (slotClass s · (· = k))
      = s.clt.heldQueue.filter (slotClass s · (· = k)) ++ [i].filter (slotClass s · (· = k)) := by
  obtain ⟨-, front, back, hqueue, hqueue', -, hback⟩ := joinsHeld_makeHeld hsorted i r
  rw [filter_ne_of_notMem hi] at hqueue
  rw [hqueue', hqueue, List.filter_append, List.filter_append]
  cases hclass : slotClass s i (· = k) with
  | false => simp [hclass]
  | true =>
    have hnone : back.filter (slotClass s · (· = k)) = [] := by
      rw [List.filter_eq_nil_iff]
      intro j hj hjk
      have := hback j hj
      rw [slotRank_makeHeld, slotRank_makeHeld, rank_of_slotClass hclass, rank_of_slotClass hjk] at this
      exact absurd this (Nat.lt_irrefl _)
    simp [hclass, hnone]

end

/-! ### A list of claims made HELD in its order -/

/-- What holding the claims of a list, in its order, does to the table. -/
theorem foldl_makeHeld_effect (r : HoldReasons) (xs : List SlotIx) (hxs : xs.Nodup) (s : State)
    (hout : ∀ j ∈ xs, j ∉ s.clt.heldQueue) (hsorted : QueueSorted s) :
    let t := xs.foldl (fun s i => makeHeld i r s) s
    (∀ j, (t.clt.slots.get j).gen = (s.clt.slots.get j).gen)
      ∧ (∀ j, claimAt t j = if j ∈ xs then (claimAt s j).map (fun c => { c with state := .held r, settle := none })
          else claimAt s j)
      ∧ t.clt.grantList = s.clt.grantList.filter (fun j => j ∉ xs)
      ∧ ∀ k : ClaimClass, t.clt.heldQueue.filter (slotClass s · (· = k))
          = s.clt.heldQueue.filter (slotClass s · (· = k)) ++ xs.filter (slotClass s · (· = k)) := by
  induction xs generalizing s with
  | nil => simp
  | cons x xs ih =>
    obtain ⟨hx, hnodup⟩ := List.nodup_cons.mp hxs
    have hxout := hout x (by simp)
    have hout' (j : SlotIx) (hj : j ∈ xs) : j ∉ (makeHeld x r s).clt.heldQueue := by
      rw [mem_makeHeld_heldQueue, not_or]
      exact ⟨by rintro rfl; exact hx hj, hout j (List.mem_cons_of_mem _ hj)⟩
    obtain ⟨hgens, hclaims, hgrants, hqueue⟩ := ih hnodup _ hout' (queueSorted_makeHeld hsorted hxout r)
    rw [List.foldl_cons]
    refine ⟨fun j => (hgens j).trans (gen_modifyClaim ..), fun j => ?_, ?_, fun k => ?_⟩
    · rw [hclaims, claimAt_makeHeld]
      by_cases hjx : x = j
      · subst hjx
        rw [if_neg hx, if_pos rfl, if_pos (by simp)]
      · rw [if_neg hjx]
        simp only [List.mem_cons, Ne.symm hjx, false_or]
    · rw [hgrants, makeHeld_grantList, List.filter_filter]
      refine List.filter_congr fun j _ => ?_
      simp only [List.mem_cons, not_or, ne_eq, Bool.decide_and, Bool.and_comm]
    · have hstep := hqueue k
      simp only [slotClass_makeHeld] at hstep
      rw [hstep, heldQueue_makeHeld_class hsorted hxout, List.append_assoc, ← List.filter_append]
      rfl

/-! ### The claims of a set of classes -/

/-- The GRANTED claims of the classes in a set become HELD, in grant order (R45, R48). -/
def holdClasses (p : ClaimClass → Bool) (r : HoldReasons) (s : State) : State :=
  (s.clt.grantList.filter fun i => slotClass s i p).foldl (fun s i => makeHeld i r s) s

/-- A claim after the hold of a set of classes. -/
def Claim.heldBy (p : ClaimClass → Bool) (r : HoldReasons) (c : Claim) : Claim :=
  if !c.isHeld && p c.cls then { c with state := .held r, settle := none } else c

theorem holdClasses_effect (p : ClaimClass → Bool) (r : HoldReasons) {s : State} (hexact : CollectionsExact s) :
    let taken := s.clt.grantList.filter fun i => slotClass s i p
    (∀ j, ((holdClasses p r s).clt.slots.get j).gen = (s.clt.slots.get j).gen)
      ∧ (∀ j, claimAt (holdClasses p r s) j = (claimAt s j).map (Claim.heldBy p r))
      ∧ (holdClasses p r s).clt.grantList = s.clt.grantList.filter (fun j => j ∉ taken)
      ∧ ∀ k : ClaimClass, (holdClasses p r s).clt.heldQueue.filter (slotClass s · (· = k))
          = s.clt.heldQueue.filter (slotClass s · (· = k)) ++ taken.filter (slotClass s · (· = k)) := by
  obtain ⟨hnodup, -, hgranted, hheld, hsorted⟩ := hexact
  have hout (j : SlotIx) (hj : j ∈ s.clt.grantList.filter fun i => slotClass s i p) : j ∉ s.clt.heldQueue := by
    obtain ⟨hjg, -⟩ := List.mem_filter.mp hj
    obtain ⟨c, hc, hcg⟩ := (slotGranted_iff ..).mp ((hgranted j).mp hjg)
    rw [hheld, slotHeld_iff]
    rintro ⟨d, hd, hdh⟩
    rw [hc] at hd
    rw [← Option.some.inj hd, hcg] at hdh
    exact absurd hdh (by decide)
  obtain ⟨hgens, hclaims, hgrants, hqueue⟩ := foldl_makeHeld_effect r _ (hnodup.filter _) s hout hsorted
  refine ⟨hgens, fun j => (hclaims j).trans ?_, hgrants, hqueue⟩
  cases hc : claimAt s j with
  | none => exact ite_self _
  | some c =>
    have hmem : j ∈ s.clt.grantList.filter (fun i => slotClass s i p) ↔ (!c.isHeld && p c.cls) = true := by
      have hclass : slotClass s j p = p c.cls := by rw [slotClass, hc]
      rw [List.mem_filter, hgranted, slotGranted_iff, hclass, Bool.and_eq_true, hc]
      simp
    rw [Option.map_some, Option.map_some, Claim.heldBy]
    by_cases h : (!c.isHeld && p c.cls) = true
    · rw [if_pos (hmem.mpr h), if_pos h]
    · rw [if_neg fun hj => h (hmem.mp hj), if_neg h]

theorem holdClasses_aside (p : ClaimClass → Bool) (r : HoldReasons) (s : State) :
    holdClasses p r s = { s with clt := (holdClasses p r s).clt } := by
  unfold holdClasses
  generalize s.clt.grantList.filter (fun i => slotClass s i p) = xs
  induction xs generalizing s with
  | nil => rfl
  | cons x xs ih =>
    rw [List.foldl_cons, ih]
    rfl

end Sys2Proof.Machine

/-! PROOFS. HOLD.SET (R48): O28. -/

namespace Sys2Proof.Machine

theorem collectionsExact_congr {s t : State} (hg : t.clt.grantList = s.clt.grantList)
    (hq : t.clt.heldQueue = s.clt.heldQueue)
    (hc : ∀ j, (claimAt t j).map Claim.standing = (claimAt s j).map Claim.standing) (h : CollectionsExact s) :
    CollectionsExact t := by
  obtain ⟨hgn, hqn, hgranted, hheld, hsorted⟩ := h
  have hreads (j : SlotIx) := reads_of_standing (hc j)
  refine ⟨by rwa [hg], by rwa [hq], fun j => ?_, fun j => ?_, ?_⟩
  · rw [hg, hgranted, (hreads j).1]
  · rw [hq, hheld, (hreads j).2.1]
  · rw [hq]
    exact hsorted.imp fun {j k} hle => by rwa [(hreads j).2.2.1, (hreads k).2.2.1]

theorem standing_mapReasons (f : HoldReasons → HoldReasons) (c : Claim) : (c.mapReasons f).standing = c.standing := by
  obtain ⟨_, _, _, _, _, _, _, _, state, _, _⟩ := c
  cases state <;> rfl

/-! ### The host hold placed -/

section
variable {h : HostHold} {s : State}

theorem claimAt_markHost (h : HostHold) (s : State) (i : SlotIx) : claimAt (markHost h s) i =
    (claimAt s i).map fun c => c.mapReasons fun r => { r with host := h.covers c.cls } := claimAt_mapClaims ..

theorem slotClass_markHost (h : HostHold) (s : State) (i : SlotIx) (p : ClaimClass → Bool) :
    slotClass (markHost h s) i p = slotClass s i p := by
  rw [slotClass_eq, slotClass_eq, claimAt_markHost]
  cases hc : claimAt s i with
  | none => rfl
  | some c => rw [Option.map_some, Option.map_some, Option.map_some, mapReasons_eq]

/-- A claim after a host hold is placed (R48). -/
def Claim.hosted (covers : ClaimClass → Bool) (c : Claim) : Claim :=
  match c.state with
  | .held r => { c with state := .held { r with host := covers c.cls } }
  | .granted l => if covers c.cls then { c with state := .held hostHeldReasons, settle := none }
    else { c with state := .granted l }

/-- The state in which a host hold's claims are taken. -/
def hostMarked (h : HostHold) (s : State) : State := markHost h { s with sbu := { s.sbu with hostHold := some h } }

theorem placeHostHold_eq (h : HostHold) (s : State) : placeHostHold h s
    = (holdClasses h.covers hostHeldReasons (hostMarked h s),
        ((hostMarked h s).clt.grantList.filter fun i => slotClass (hostMarked h s) i h.covers).length) := rfl

theorem hostMarked_claims (h : HostHold) (s : State) (i : SlotIx) : claimAt (hostMarked h s) i =
    (claimAt s i).map fun c => c.mapReasons fun r => { r with host := h.covers c.cls } := claimAt_markHost ..

theorem hostMarked_class (h : HostHold) (s : State) (i : SlotIx) (p : ClaimClass → Bool) :
    slotClass (hostMarked h s) i p = slotClass s i p := slotClass_markHost ..

theorem hostMarked_lists (h : HostHold) (s : State) : SamePlaces s (hostMarked h s) := by
  unfold hostMarked markHost SamePlaces
  rw [mapClaims_grantList, mapClaims_heldQueue]
  exact ⟨rfl, rfl⟩

/-- What placing a host hold does (R48). -/
theorem placeHostHold_effect (hexact : CollectionsExact s) :
    let u := (placeHostHold h s).1
    let taken := s.clt.grantList.filter fun i => slotClass s i h.covers
    (placeHostHold h s).2 = taken.length
      ∧ u = { s with clt := u.clt, sbu := { s.sbu with hostHold := some h } }
      ∧ (∀ i, (u.clt.slots.get i).gen = (s.clt.slots.get i).gen)
      ∧ (∀ i, claimAt u i = (claimAt s i).map (Claim.hosted h.covers))
      ∧ u.clt.grantList = s.clt.grantList.filter (fun i => i ∉ taken)
      ∧ ∀ k : ClaimClass, u.clt.heldQueue.filter (slotClass s · (· = k))
          = s.clt.heldQueue.filter (slotClass s · (· = k)) ++ taken.filter (slotClass s · (· = k)) := by
  obtain ⟨hplaceg, hplaceq⟩ := hostMarked_lists h s
  have hexact' : CollectionsExact (hostMarked h s) := by
    refine collectionsExact_congr hplaceg hplaceq (fun j => ?_) hexact
    rw [hostMarked_claims, Option.map_map]
    exact congrFun (congrArg Option.map (funext fun c => standing_mapReasons _ c)) _
  obtain ⟨hgens, hclaims, hgrants, hqueue⟩ := holdClasses_effect h.covers hostHeldReasons hexact'
  simp only [hostMarked_class, hplaceg, hplaceq] at hgrants hqueue
  rw [placeHostHold_eq]
  refine ⟨?_, ?_, fun i => ?_, fun i => ?_, hgrants, hqueue⟩
  · simp only [hostMarked_class, hplaceg]
  · dsimp only
    rw [holdClasses_aside, hostMarked, markHost, mapClaims_aside]
  · rw [hgens]
    exact gen_mapClaims ..
  · rw [hclaims, hostMarked_claims, Option.map_map]
    congr 1
    funext c
    obtain ⟨_, _, _, cls, _, _, _, _, state, _, _⟩ := c
    cases state with
    | held r => rfl
    | granted l =>
      simp only [Function.comp_apply, Claim.mapReasons, Claim.heldBy, Claim.hosted, Claim.isHeld, Bool.not_false,
        Bool.true_and]

end

/-! ### HOLD.SET -/

theorem okOr_decide (p : Prop) [Decidable p] : okOr (decide p) = if p then .clamped else .ok := by
  unfold okOr
  simp only [decide_eq_true_eq]

theorem exec_holdSet (p : List Byte) (s : State) : exec (.holdSet p) s = serve .holdSet holdSet p s := rfl

/-- The host hold that a HOLD.SET asks for (R48). -/
def askedHold (classes count : Byte) : HostHold :=
  { lighting := classes.getLsbD 1, comfort := classes.getLsbD 2, auxiliary := classes.getLsbD 3
    count := min count.toNat 240 }

section
variable {classes count : Byte} {s : State}

theorem askedHold_code : (askedHold classes count).code = classes &&& 14 := by
  have hbits : ∀ b : Byte, byte ((if b.getLsbD 1 then 2 else 0) + (if b.getLsbD 2 then 4 else 0)
      + (if b.getLsbD 3 then 8 else 0)) = b &&& 14 := by decide
  exact hbits classes

theorem holdSet_outside (hmode : s.mdc.mode ≠ .run) (p : List Byte) : holdSet p s = refused .wrongMode s := if_pos hmode

theorem holdSet_ends (hrun : s.mdc.mode = .run) (hclasses : classes.toNat ≤ 15)
    (hends : (decide (count ≠ 0) && (classes.getLsbD 1 || classes.getLsbD 2 || classes.getLsbD 3)) = false) :
    holdSet [classes, count] s = (endHostHold s, { code := .ok, fields := [0, 0, 0] }) := by
  unfold holdSet
  rw [if_neg (by simp [hrun])]
  dsimp only
  rw [if_neg (by omega)]
  refine if_pos ?_
  by_cases hcount : count = 0
  · exact .inl hcount
  · rw [decide_eq_true hcount, Bool.true_and] at hends
    refine .inr ?_
    simpa [and_assoc] using hends

theorem holdSet_places (hrun : s.mdc.mode = .run) (hclasses : classes.toNat ≤ 15)
    (hplaces : (decide (count ≠ 0) && (classes.getLsbD 1 || classes.getLsbD 2 || classes.getLsbD 3)) = true) :
    holdSet [classes, count] s = (withHandOver (fun s => (placeHostHold (askedHold classes count) s).1) s,
      { code := okOr (decide (240 < count.toNat))
        fields := [(askedHold classes count).code, byte (askedHold classes count).count,
          byte (placeHostHold (askedHold classes count) s).2] }) := by
  obtain ⟨hcount, hany⟩ := Bool.and_eq_true_iff.mp hplaces
  unfold holdSet
  rw [if_neg (by simp [hrun])]
  dsimp only
  rw [if_neg (by omega)]
  refine if_neg ?_
  rintro (hzero | hnone)
  · exact of_decide_eq_true hcount hzero
  · revert hany hnone
    cases classes.getLsbD 1 <;> cases classes.getLsbD 2 <;> cases classes.getLsbD 3 <;> simp

end

/-- Settles O28: the hold ended, or placed with the claims of its classes held in grant order. -/
theorem holdSetRule : Obligations.HoldSetRule := by
  intro classes count s h hclasses covers covered places
  refine ⟨fun hmode => ?_, fun hrun hends => ?_, fun hrun hplaces hexact => ?_⟩
  · exact (exec_holdSet ..).trans (serve_handed h (holdSet_outside hmode _))
  · exact ⟨_, (exec_holdSet ..).trans (serve_handed h (holdSet_ends hrun hclasses hends)), endHostHold_effect s⟩
  · have hcovers : (askedHold classes count).covers = covers := by
      funext k
      cases k <;> simp [HostHold.covers, askedHold, covers]
    obtain ⟨hnumber, haside, hgens, hclaims, hgrants, hqueue⟩ :=
      placeHostHold_effect (h := askedHold classes count) hexact
    rw [hcovers] at hnumber hclaims hgrants hqueue
    refine ⟨(placeHostHold (askedHold classes count) s).1, _,
      ((exec_holdSet ..).trans (serve_handed h (holdSet_places hrun hclasses hplaces))).trans ?_,
      outputsAside_handedOver (fun s => (placeHostHold (askedHold classes count) s).1) s, haside, hgens, hclaims, ?_,
      hqueue⟩
    · rw [askedHold_code, hnumber, okOr_decide] <;> rfl
    · rw [hgrants]
      refine List.filter_congr fun i hi => ?_
      have hcovered : covered i = slotClass s i covers := rfl
      rw [Bool.eq_iff_iff, decide_eq_true_iff, List.mem_filter, hcovered]
      simp [hi]

end Sys2Proof.Machine

/-! PROOFS. Samples, and the measurement of an evaluation (R25, R26, R29, R30): O22. -/

namespace Sys2Proof.Machine

/-! ### Samples -/

section
variable {s : State} (hawake : Awake s)
include hawake

theorem exec_supplySample (vbat vgen : Nat) (ibat : Int) : exec (.supplySample vbat vgen ibat) s
    = after (if budgetRuns s then
        { s with
          pins := { s.pins with supply := { vbat := vbat, vgen := vgen, ibat := ibat } }
          sbu := { s.sbu with
            samples := s.sbu.samples ++ [saturate { vbat := vbat, vgen := vgen, ibat := ibat }] } }
      else { s with pins := { s.pins with supply := { vbat := vbat, vgen := vgen, ibat := ibat } } }) := by
  change execSupplySample vbat vgen ibat s = _
  unfold execSupplySample
  rw [act_run hawake]
  rfl

theorem exec_senderSample (a0 a1 a2 : BitVec 12) : exec (.senderSample a0 a1 a2) s
    = after (if s.mdc.mode = .run then
        { s with
          pins := { s.pins with senders := #v[a0, a1, a2] }
          gau := tabulate fun g : GaugeIx => { s.gau.get g with
            samples := (s.gau.get g).samples ++ [(#v[a0, a1, a2].get g).toNat] } }
      else { s with pins := { s.pins with senders := #v[a0, a1, a2] } }) := by
  change execSenderSample a0 a1 a2 s = _
  unfold execSenderSample
  rw [act_run hawake]
  rfl

end

/-! ### The flags that an evaluation sets -/

section
variable {f : Flag} (hexpired : f ≠ .claimExpired) (hheld : f ≠ .claimHeld) (hrestored : f ≠ .claimRestored)

theorem hasFlag_setFlag (f g : Flag) (s : State) : hasFlag g (setFlag f s) = (hasFlag g s || decide (g = f)) := by
  rw [show setFlag f s = setFlagIf true f s from rfl, hasFlag_setFlagIf, Bool.true_and]

theorem hasFlag_setFlag_other {f g : Flag} (h : g ≠ f) (s : State) : hasFlag g (setFlag f s) = hasFlag g s := by
  rw [hasFlag_setFlag, decide_eq_false h, Bool.or_false]

theorem hasFlag_congr {s t : State} (f : Flag) (h : t.lif = s.lif) : hasFlag f t = hasFlag f s := by
  rw [hasFlag, hasFlag, h]

include hexpired in
theorem hasFlag_countExpiry (s : State) (i : SlotIx) : hasFlag f (countExpiry s i) = hasFlag f s := by
  unfold countExpiry
  split
  · rfl
  · split
    · rfl
    · split
      · rw [hasFlag_setFlag_other hexpired, hasFlag_congr f (retire_lif i s)]
      · rfl

include hexpired in
theorem hasFlag_countStages (s : State) : hasFlag f (countStages s) = hasFlag f s := by
  obtain ⟨-, -, -, hlif, -⟩ := reasonsCounted_effect s
  rw [countStages_eq, ← hasFlag_congr f hlif]
  exact Keeps.foldl (P := fun u => hasFlag f u = hasFlag f (reasonsCounted s))
    (fun i u h => (hasFlag_countExpiry hexpired u i).trans h) _ _ rfl

include hheld hrestored in
theorem hasFlag_actionStage (s : State) : hasFlag f (actionStage s) = hasFlag f s := by
  have hshed (i : SlotIx) (u : State) : hasFlag f (shed i u) = hasFlag f u := by
    unfold shed
    split
    · rfl
    · split
      · rfl
      · rw [hasFlag_setFlag_other hheld]
        rfl
  have htake (room : Int) (i : SlotIx) (u : State) : hasFlag f (takeBack room i u) = hasFlag f u := by
    unfold takeBack
    split
    · rfl
    · split
      · dsimp only
        rw [hasFlag_setFlag_other hrestored]
        rfl
      · rfl
  unfold actionStage
  dsimp only
  split
  · split
    · unfold deficitStage
      dsimp only
      split
      · split
        · rw [hshed]
          rfl
        · rfl
      · rfl
    · unfold surplusStage
      split
      · rfl
      · split
        · rfl
        · split
          · dsimp only
            split
            · rw [htake]
              rfl
            · rfl
          · rfl
  · rfl

end

/-! ### The measurement -/

/-- The action changes nothing of the budget but its two runs (R38, R42). -/
theorem actionStage_sbu (s : State) : (actionStage s).sbu = { s.sbu with
    deficitRun := (actionStage s).sbu.deficitRun, surplusRun := (actionStage s).sbu.surplusRun } := by
  have hshed (i : SlotIx) (u : State) : (shed i u).sbu = u.sbu := by simp
  have htake (room : Int) (i : SlotIx) (u : State) : (takeBack room i u).sbu = u.sbu := by simp
  unfold actionStage
  dsimp only
  split
  · split
    · unfold deficitStage
      dsimp only
      split
      · split
        · rw [hshed]
          rfl
        · rfl
      · rfl
    · unfold surplusStage
      split
      · rfl
      · split
        · rfl
        · split
          · dsimp only
            split
            · rw [htake]
              rfl
            · rfl
          · rfl
  · rfl

section
variable {s : State} {x : Supply} {xs : List Supply}

theorem formFiltered_of_samples (h : s.sbu.samples = x :: xs) : formFiltered s = { s with sbu := { s.sbu with
    samples := [], vbatF := ((x :: xs).map (·.vbat)).sum / (xs.length + 1)
    vgenF := ((x :: xs).map (·.vgen)).sum / (xs.length + 1)
    ibatF := Int.tdiv ((x :: xs).map (·.ibat)).sum (xs.length + 1 : Nat) } } := by
  have hlength {β : Type} (f : Supply → β) : ((x :: xs).map f).length = xs.length + 1 := List.length_map f
  unfold formFiltered
  rw [h]
  simp only [meanNat, meanInt, hlength]

end

/-- The band at the end of stage 1 (R29). -/
def bandMeasured (s : State) : Band := if s.sbu.crank = .none then s.sbu.band.after s.sbu.vbatF else s.sbu.band

/-- The charging state at the end of stage 1 (R30). -/
def chargingMeasured (s : State) : Charging := s.sbu.charging.after s.sbu.vgenF s.sbu.vbatF

theorem setBand_eq (s : State) : setBand s
    = setFlagIf (bandMeasured s != s.sbu.band) .band { s with sbu := { s.sbu with band := bandMeasured s } } := by
  unfold setBand
  by_cases hcrank : s.sbu.crank = .none
  · have hband : bandMeasured s = s.sbu.band.after s.sbu.vbatF := if_pos hcrank
    rw [if_pos hcrank, hband]
  · have hband : bandMeasured s = s.sbu.band := if_neg hcrank
    rw [if_neg hcrank, hband, bne_self_eq_false, setFlagIf_false]

theorem setCharging_eq (s : State) : setCharging s = setFlagIf (chargingMeasured s != s.sbu.charging) .charge
    { s with sbu := { s.sbu with charging := chargingMeasured s } } := rfl

theorem hasFlag_setSbu (f : Flag) (s : State) (b : Budget) : hasFlag f { s with sbu := b } = hasFlag f s := rfl

theorem hasFlag_setBand (f : Flag) (s : State) :
    hasFlag f (setBand s) = (hasFlag f s || (bandMeasured s != s.sbu.band && decide (f = .band))) := by
  rw [setBand_eq, hasFlag_setFlagIf, hasFlag_setSbu]

theorem hasFlag_setCharging (f : Flag) (s : State) :
    hasFlag f (setCharging s) = (hasFlag f s || (chargingMeasured s != s.sbu.charging && decide (f = .charge))) := by
  rw [setCharging_eq, hasFlag_setFlagIf, hasFlag_setSbu]

theorem setBand_sbu (s : State) : (setBand s).sbu = { s.sbu with band := bandMeasured s } := by
  rw [setBand_eq, setFlagIf_sbu]

theorem setCharging_sbu (s : State) : (setCharging s).sbu = { s.sbu with charging := chargingMeasured s } := by
  rw [setCharging_eq, setFlagIf_sbu]

/-- The band and the charging state at the end of stage 1. -/
theorem bands_measured (s : State) :
    (setCharging (setBand s)).sbu = { s.sbu with band := bandMeasured s, charging := chargingMeasured s }
      ∧ (hasFlag .band (setCharging (setBand s)) = true ↔ hasFlag .band s = true ∨ bandMeasured s ≠ s.sbu.band)
      ∧ (hasFlag .charge (setCharging (setBand s)) = true
          ↔ hasFlag .charge s = true ∨ chargingMeasured s ≠ s.sbu.charging) := by
  have hcharging : chargingMeasured (setBand s) = chargingMeasured s := by
    rw [chargingMeasured, chargingMeasured, setBand_sbu]
  rw [setCharging_sbu, hasFlag_setCharging, hasFlag_setCharging, hcharging, setBand_sbu, hasFlag_setBand,
    hasFlag_setBand]
  refine ⟨rfl, ?_, ?_⟩
  · simp [bne_iff_ne]
  · simp [bne_iff_ne]

/-- An evaluation's end as its measurement leaves the values, the band, the charging state and their flags. -/
theorem evaluation_measures (s : State) :
    let t := settleTimer (beginRequested (refreshDemands (withHandOver evaluationStages s)))
    t.sbu = { (measureStage s).sbu with
        crank := t.sbu.crank, hostHold := t.sbu.hostHold, deficitRun := t.sbu.deficitRun, surplusRun := t.sbu.surplusRun }
      ∧ hasFlag .band t = hasFlag .band (measureStage s) ∧ hasFlag .charge t = hasFlag .charge (measureStage s) := by
  obtain ⟨-, hsbu, hlif⟩ := evaluation_end s
  dsimp only
  rw [hsbu, hasFlag_congr .band hlif, hasFlag_congr .charge hlif, evaluationStages_eq,
    hasFlag_actionStage (by decide) (by decide), hasFlag_actionStage (by decide) (by decide),
    hasFlag_countStages (by decide), hasFlag_countStages (by decide)]
  refine ⟨?_, rfl, rfl⟩
  rw [actionStage_sbu, countStages_sbu]

/-- Settles O22: the samples by mode, and the measurement. -/
theorem samplesAndMeasures : Obligations.SamplesAndMeasures := by
  refine ⟨⟨fun vbat vgen ibat s hawake => ⟨fun hmode => ?_, fun hmode => ?_⟩, fun a0 a1 a2 s hawake => ?_⟩,
    fun s x xs hawake hmode hsamples => ?_⟩
  · rw [exec_supplySample hawake, if_pos (budgetRuns_of hmode)]
    rfl
  · rw [exec_supplySample hawake, if_neg]
    rcases hmode with h | h <;> simp [budgetRuns, h]
  · refine ⟨_, exec_senderSample hawake a0 a1 a2, ?_, fun hmode => ?_, fun hmode g => ?_⟩
    · split <;> rfl
    · rw [if_neg hmode]
    · rw [if_pos hmode]
      exact tabulate_get ..
  · obtain ⟨hsbu, hband, hcharge⟩ := evaluation_measures s
    obtain ⟨hmeasured, hbands, hcharges⟩ := bands_measured (formFiltered s)
    refine ⟨_, exec_budgetEvaluation hawake hmode, ?_⟩
    rw [hsbu, hband, hcharge]
    unfold measureStage
    rw [hmeasured, hbands, hcharges, formFiltered_of_samples hsamples]
    exact ⟨rfl, rfl, rfl, rfl, rfl, rfl, Iff.rfl, Iff.rfl⟩

end Sys2Proof.Machine

/-! PROOFS. The crank hold and what an entry to RUN does (R25, R45, R138, R149, R182): O29. -/

namespace Sys2Proof.Machine

/-! ### The crank hold (R45) -/

/-- The crank hold as it begins: CRANK in the status, and the claims of its classes HELD in grant order. -/
structure CrankHolds (s t : State) : Prop where
  lif : t.lif = { s.lif with status := s.lif.status ||| 0x80 }
  gens : ∀ i, (t.clt.slots.get i).gen = (s.clt.slots.get i).gen
  claims : ∀ i, claimAt t i = (claimAt s i).map (Claim.heldBy ClaimClass.crankHeld crankReasons)
  grants : t.clt.grantList = s.clt.grantList.filter
    (fun i => i ∉ s.clt.grantList.filter fun i => slotClass s i ClaimClass.crankHeld)
  queue : ∀ k : ClaimClass, t.clt.heldQueue.filter (slotClass s · (· = k))
    = s.clt.heldQueue.filter (slotClass s · (· = k))
      ++ (s.clt.grantList.filter fun i => slotClass s i ClaimClass.crankHeld).filter (slotClass s · (· = k))

theorem slotClass_congr {s t : State} (h : t.clt = s.clt) : slotClass t = slotClass s := by
  funext i p
  rw [slotClass_eq, slotClass_eq, claimAt_congr h]

theorem collectionsExact_of_clt {s t : State} (h : t.clt = s.clt) (hexact : CollectionsExact s) : CollectionsExact t :=
  collectionsExact_congr (by rw [h]) (by rw [h]) (fun j => by rw [claimAt_congr h]) hexact

/-- What the crank hold does, told from a state with the same claims and status, to one with the same. -/
theorem CrankHolds.congr {s s' t t' : State} (h : CrankHolds s' t') (hclt : s'.clt = s.clt) (hlif : s'.lif = s.lif)
    (htclt : t.clt = t'.clt) (htlif : t.lif = t'.lif) : CrankHolds s t := by
  obtain ⟨hstatus, hgens, hclaims, hgrants, hqueue⟩ := h
  have hclass := slotClass_congr hclt
  rw [hclt, hclass] at hgrants
  simp only [hclt, hclass] at hqueue
  refine ⟨by rw [htlif, hstatus, hlif], fun i => by rw [htclt, hgens, hclt], fun i => ?_, by rw [htclt, hgrants],
    fun k => by rw [htclt, hqueue]⟩
  rw [claimAt_congr htclt, hclaims, claimAt_congr hclt]

theorem crankWalk_eq (s : State) : crankWalk s = holdClasses ClaimClass.crankHeld crankReasons s := rfl

section
variable {s : State}

theorem beginCrank_running (h : s.sbu.crank = .cranking) : beginCrank s = s := if_pos h

theorem beginCrank_begins (h : s.sbu.crank ≠ .cranking) : beginCrank s
    = setFlag .crank (withHandOver (fun s => crankWalk { s with sbu := { s.sbu with crank := .cranking } }) s) := if_neg h

theorem beginCrank_sbu (s : State) : (beginCrank s).sbu = { s.sbu with crank := .cranking } := by
  by_cases h : s.sbu.crank = .cranking
  · rw [beginCrank_running h, ← h]
  · rw [beginCrank_begins h]
    unfold withHandOver
    simp

theorem setFlag_lif (f : Flag) (s : State) : (setFlag f s).lif = { s.lif with status := s.lif.status ||| f.bit } := rfl

theorem crankHolds_of_walk {t : State} (hexact : CollectionsExact s) (hclt : t.clt = (crankWalk s).clt)
    (hlif : t.lif = { s.lif with status := s.lif.status ||| 0x80 }) : CrankHolds s t := by
  obtain ⟨hgens, hclaims, hgrants, hqueue⟩ := holdClasses_effect ClaimClass.crankHeld crankReasons hexact
  rw [crankWalk_eq] at hclt
  exact ⟨hlif, fun i => by rw [hclt, hgens], fun i => by rw [claimAt_congr hclt, hclaims], by rw [hclt, hgrants],
    fun k => by rw [hclt, hqueue]⟩

theorem withHandOver_lif (f : State → State) (s : State) : (withHandOver f s).lif = (f s).lif := by
  unfold withHandOver
  simp

theorem beginCrank_holds (h : s.sbu.crank ≠ .cranking) (hexact : CollectionsExact s) : CrankHolds s (beginCrank s) := by
  rw [beginCrank_begins h]
  have hclt := withHandOver_clt (fun s => crankWalk { s with sbu := { s.sbu with crank := .cranking } }) s
  have hlif := withHandOver_lif (fun s => crankWalk { s with sbu := { s.sbu with crank := .cranking } }) s
  generalize withHandOver (fun s => crankWalk { s with sbu := { s.sbu with crank := .cranking } }) s = t at hclt hlif
  dsimp only at hclt hlif
  rw [crankWalk_lif] at hlif
  generalize hu : ({ s with sbu := { s.sbu with crank := .cranking } } : State) = u at hclt hlif
  have huclt : u.clt = s.clt := by rw [← hu]
  have hulif : u.lif = s.lif := by rw [← hu]
  have hholds : CrankHolds u (setFlag .crank t) :=
    crankHolds_of_walk (collectionsExact_of_clt huclt hexact) hclt (by rw [setFlag_lif, hlif]; rfl)
  exact hholds.congr huclt hulif rfl rfl

end

/-! ### The entry to RUN (R182) -/

section
variable (b : Bool) (s : State)

theorem entered_gau : (entered b s).gau = (restartGauges s).gau := by
  unfold entered
  cases b <;> simp [restartGauges, entrySample, ignitionOn, acceptedCode]

theorem entered_sbu : (entered b s).sbu = if b then (entrySample s).sbu else s.sbu := by
  unfold entered
  cases b <;> simp [entrySample]

/-- The gauges at an entry to RUN (R138, R149). -/
theorem gaugesEnter_restart : GaugesEnter (decide (acceptedCode s ign = some 1)) s (restartGauges s) := by
  intro g
  have hon : ignitionOn s = decide (acceptedCode s ign = some 1) := by
    rw [ignitionOn, Bool.eq_iff_iff]
    simp
  rw [← hon]
  unfold restartGauges Gauge.activate
  cases ignitionOn s
  · simp
  · simp

theorem enterRun_gau : (enterRun b s).gau = (restartGauges s).gau := by
  rw [enterRun_eq, beginRequested_gau, crankCheck_gau, entered_gau]

theorem enterRun_sbu : (enterRun b s).sbu = { (entered b s).sbu with
    crank := if acceptedCode s start = some 1 then .cranking else s.sbu.crank } := by
  have hcrank : (entered b s).sbu.crank = s.sbu.crank := by rw [entered_sbu]; cases b <;> rfl
  have hcode : acceptedCode (entered b s) start = acceptedCode s start := by rw [acceptedCode, acceptedCode, entered_sws]
  rw [enterRun_eq, beginRequested_sbu]
  unfold crankCheck
  rw [hcode]
  split
  · rw [beginCrank_sbu]
  · rw [← hcrank]

/-- The supply at an entry to RUN from LOADING or SLEEP (R25, R26). -/
theorem supplyEnters_enterRun : SupplyEnters s (enterRun true s) := by
  unfold SupplyEnters
  rw [enterRun_sbu, entered_sbu]
  rfl

theorem gaugesEnter_enterRun : GaugesEnter (decide (acceptedCode s ign = some 1)) s (enterRun b s) := fun g => by
  rw [enterRun_gau]
  exact gaugesEnter_restart s g

theorem enterRun_clt_lif : (enterRun b s).clt = (crankCheck (entered b s)).clt
    ∧ (enterRun b s).lif = (crankCheck (entered b s)).lif := by
  rw [enterRun_eq]
  simp

variable {b s}

/-- The crank hold that an entry to RUN begins (R45). -/
theorem crankHolds_enterRun (hexact : CollectionsExact s) (hstart : acceptedCode s start = some 1)
    (hcrank : s.sbu.crank ≠ .cranking) : CrankHolds s (enterRun b s) := by
  obtain ⟨hclt, hlif⟩ := enterRun_clt_lif b s
  have hcode : acceptedCode (entered b s) start = some 1 := by rw [acceptedCode, entered_sws, ← hstart]; rfl
  have hcrank' : (entered b s).sbu.crank ≠ .cranking := by rw [entered_sbu]; cases b <;> exact hcrank
  have hcheck : crankCheck (entered b s) = beginCrank (entered b s) := if_pos hcode
  rw [hcheck] at hclt hlif
  exact (beginCrank_holds hcrank' (collectionsExact_of_clt (entered_clt b s) hexact)).congr (entered_clt b s)
    (entered_lif b s) hclt hlif

/-- An entry to RUN at which no crank begins leaves the claims and the status. -/
theorem enterRun_calm (h : acceptedCode s start ≠ some 1 ∨ s.sbu.crank = .cranking) :
    (enterRun b s).sbu.crank = s.sbu.crank ∧ (enterRun b s).clt = s.clt ∧ (enterRun b s).lif = s.lif := by
  obtain ⟨hclt, hlif⟩ := enterRun_clt_lif b s
  have hcode : acceptedCode (entered b s) start = acceptedCode s start := by rw [acceptedCode, acceptedCode, entered_sws]
  have hcrank : (entered b s).sbu.crank = s.sbu.crank := by rw [entered_sbu]; cases b <;> rfl
  have hcheck : crankCheck (entered b s) = entered b s := by
    unfold crankCheck
    rw [hcode]
    split
    · next hstart => exact beginCrank_running (hcrank.trans (h.resolve_left (not_not_intro hstart)))
    · rfl
  rw [hclt, hlif, hcheck, entered_clt, entered_lif, enterRun_sbu]
  refine ⟨?_, rfl, rfl⟩
  dsimp only
  split
  · next hstart => exact (h.resolve_left (not_not_intro hstart)).symm
  · rfl

end

end Sys2Proof.Machine

/-! PROOFS. What a scan at which START alone is accepted does, and the crank rule: O29. -/

namespace Sys2Proof.Machine

/-! ### A scan (R111, R114, R115) -/

/-- The state with the records of a scan, before its acceptances are handed on. -/
def scanned (levels : BitVec 26) (s : State) : State :=
  { s with
    pins := { s.pins with levels := levels }
    sws := { s.sws with recs := mapTbl Prod.fst (scanRecs s levels), levels := levels } }

/-- The groups that a scan makes accept, in order. -/
def acceptingGroups (levels : BitVec 26) (s : State) : List GroupIx :=
  (List.finRange 18).filter fun g => ((scanRecs s levels).get g).2

section
variable {levels : BitVec 26} {s : State}

theorem exec_switchScan_loading (hawake : Awake s) (h : s.mdc.mode = .loading) :
    exec (.switchScan levels) s = after { s with pins := { s.pins with levels := levels } } := by
  change execSwitchScan levels s = _
  unfold execSwitchScan
  rw [act_run hawake]
  exact congrArg (fun t => Host.Outcome.next (settleTimer t)) (if_pos h)

theorem exec_switchScan (hawake : Awake s) (h : s.mdc.mode ≠ .loading) : exec (.switchScan levels) s
    = after (beginRequested ((acceptingGroups levels s).foldl handAcceptance
        (if (acceptingGroups levels s).isEmpty then scanned levels s else requestPass (scanned levels s)))) := by
  change execSwitchScan levels s = _
  unfold execSwitchScan
  rw [act_run hawake]
  exact congrArg (fun t => Host.Outcome.next (settleTimer t)) (if_neg h)

theorem acceptedCode_scanned (g : GroupIx) :
    acceptedCode (scanned levels s) g = ((scanRecs s levels).get g).1.accepted := by
  rw [acceptedCode, scanned, mapTbl_get]

theorem acceptedCode_handed (s : State) (g : GroupIx) :
    acceptedCode (restartTimer (requestPass s)) g = acceptedCode s g := by
  rw [acceptedCode, acceptedCode, restartTimer_sws, requestPass_sws]

theorem acceptingGroups_start (h : ∀ g : GroupIx, ((scanRecs s levels).get g).2 = decide (g = start)) :
    acceptingGroups levels s = [start] := by
  rw [acceptingGroups, List.filter_congr (q := fun g => decide (g = start)) fun g _ => h g]
  decide

/-- START's acceptance, in a mode other than SLEEP. -/
theorem handAcceptance_start (h : s.mdc.mode ≠ .sleep) : handAcceptance s start = acceptStart (restartTimer s) := by
  have hsleep : ¬ (restartTimer s).mdc.mode = .sleep := h
  have hign : ¬ start = ign := by decide
  unfold handAcceptance
  dsimp only
  rw [if_neg hsleep, if_neg hign, if_pos rfl, if_neg fun hall => hign hall.1]

/-- A scan at which START alone is accepted. -/
theorem exec_scan_start (hawake : Awake s) (hmode : s.mdc.mode = .run ∨ s.mdc.mode = .quiesced)
    (h : ∀ g : GroupIx, ((scanRecs s levels).get g).2 = decide (g = start)) : exec (.switchScan levels) s
      = after (beginRequested (acceptStart (restartTimer (requestPass (scanned levels s))))) := by
  have hnotloading : s.mdc.mode ≠ .loading := by rcases hmode with h | h <;> rw [h] <;> decide
  have hnotsleep : (requestPass (scanned levels s)).mdc.mode ≠ .sleep := by
    change s.mdc.mode ≠ .sleep
    rcases hmode with h | h <;> rw [h] <;> decide
  rw [exec_switchScan hawake hnotloading, acceptingGroups_start h]
  rw [List.isEmpty_cons, if_neg (by decide), List.foldl_cons, List.foldl_nil, handAcceptance_start hnotsleep]

end

/-- START's acceptance but where a crank begins (R45, R46). -/
theorem acceptStart_ends {s : State}
    (h : acceptedCode s start ≠ some 1 ∨ s.mdc.mode ≠ .run ∨ s.sbu.crank = .cranking) :
    acceptStart s = { s with sbu := { s.sbu with
      crank := if acceptedCode s start ≠ some 1 ∧ s.sbu.crank = .cranking then .recovery 6 else s.sbu.crank } } := by
  have hself (k : Crank) (hk : k = s.sbu.crank) : s = { s with sbu := { s.sbu with crank := k } } := by rw [hk]
  unfold acceptStart
  by_cases hcode : acceptedCode s start = some 1
  · rw [if_pos hcode]
    refine Eq.trans ?_ (hself _ (if_neg fun hall => hall.1 hcode))
    split
    · next hrun =>
      exact beginCrank_running ((h.resolve_left (not_not_intro hcode)).resolve_left (not_not_intro hrun))
    · rfl
  · rw [if_neg hcode]
    unfold endCrank
    by_cases hcrank : s.sbu.crank = .cranking
    · rw [if_pos hcrank, if_pos ⟨hcode, hcrank⟩]
      rfl
    · rw [if_neg hcrank]
      exact hself _ (if_neg fun hall => hcrank hall.2)

/-- What a crank hold does, in the words of R45. -/
theorem CrankHolds.told {s t : State} (h : CrankHolds s t) :
    let taken := s.clt.grantList.filter fun i => slotClass s i fun k => k = .comfort || k = .auxiliary
    t.lif = { s.lif with status := s.lif.status ||| 0x80 }
    ∧ (∀ i, (t.clt.slots.get i).gen = (s.clt.slots.get i).gen)
    ∧ (∀ i, claimAt t i = (claimAt s i).map fun c => match c.state with
        | .held r => { c with state := .held r }
        | .granted l => if c.cls = .comfort ∨ c.cls = .auxiliary then
              { c with state := .held { budgetTimer := none, crank := true, host := false }, settle := none }
            else { c with state := .granted l })
    ∧ t.clt.grantList = s.clt.grantList.filter (fun i => i ∉ taken)
    ∧ ∀ k : ClaimClass, t.clt.heldQueue.filter (slotClass s · (· = k))
        = s.clt.heldQueue.filter (slotClass s · (· = k)) ++ taken.filter (slotClass s · (· = k)) := by
  have hclasses : (fun k : ClaimClass => decide (k = .comfort) || decide (k = .auxiliary)) = ClaimClass.crankHeld := by
    funext k
    cases k <;> rfl
  obtain ⟨hlif, hgens, hclaims, hgrants, hqueue⟩ := h
  simp only [hclasses]
  refine ⟨hlif, hgens, fun i => ?_, hgrants, hqueue⟩
  rw [hclaims]
  congr 1
  funext c
  obtain ⟨_, _, _, cls, _, _, _, _, state, _, _⟩ := c
  cases state with
  | held r => rfl
  | granted l => cases cls <;> rfl

/-- A scan at which START is accepted at 1 in RUN, with no crank running (R45). -/
theorem scan_cranks {levels : BitVec 26} {s : State} (hawake : Awake s) (hexact : CollectionsExact s)
    (haccepts : ∀ g : GroupIx, ((scanRecs s levels).get g).2 = decide (g = start)) (hrun : s.mdc.mode = .run)
    (hcode : ((scanRecs s levels).get start).1.accepted = some 1) (hcrank : s.sbu.crank ≠ .cranking) :
    ∃ t, exec (.switchScan levels) s = .next t ∧ t.sbu = { s.sbu with crank := .cranking } ∧ CrankHolds s t := by
  have hclt : (restartTimer (requestPass (scanned levels s))).clt = s.clt := by simp [scanned]
  have hlif : (restartTimer (requestPass (scanned levels s))).lif = s.lif := by simp [scanned]
  have hsbu : (restartTimer (requestPass (scanned levels s))).sbu = s.sbu := by simp [scanned]
  have hcode' : acceptedCode (restartTimer (requestPass (scanned levels s))) start = some 1 := by
    rw [acceptedCode_handed, acceptedCode_scanned, hcode]
  have hrun' : (restartTimer (requestPass (scanned levels s))).mdc.mode = .run := by simp [scanned, hrun]
  have hexec := exec_scan_start hawake (.inl hrun) haccepts
  generalize restartTimer (requestPass (scanned levels s)) = u at hclt hlif hsbu hcode' hrun' hexec
  have hstart : acceptStart u = beginCrank u := by
    unfold acceptStart
    rw [if_pos hcode', if_pos hrun']
  rw [hstart] at hexec
  refine ⟨_, hexec, ?_, ?_⟩
  · rw [settleTimer_sbu, beginRequested_sbu, beginCrank_sbu, hsbu]
  · exact (beginCrank_holds (by rwa [hsbu]) (collectionsExact_of_clt hclt hexact)).congr hclt hlif (by simp) (by simp)

/-- A scan at which START is accepted and no crank begins (R46). -/
theorem scan_calm {levels : BitVec 26} {s : State} (hawake : Awake s)
    (haccepts : ∀ g : GroupIx, ((scanRecs s levels).get g).2 = decide (g = start))
    (hmode : s.mdc.mode = .run ∨ s.mdc.mode = .quiesced)
    (hcalm : ((scanRecs s levels).get start).1.accepted ≠ some 1 ∨ s.mdc.mode = .quiesced ∨ s.sbu.crank = .cranking) :
    ∃ t, exec (.switchScan levels) s = .next t ∧ t.clt = s.clt ∧ t.lif = s.lif
      ∧ t.sbu = { s.sbu with
          crank := if ((scanRecs s levels).get start).1.accepted ≠ some 1 ∧ s.sbu.crank = .cranking
            then .recovery 6 else s.sbu.crank } := by
  have hclt : (restartTimer (requestPass (scanned levels s))).clt = s.clt := by simp [scanned]
  have hlif : (restartTimer (requestPass (scanned levels s))).lif = s.lif := by simp [scanned]
  have hsbu : (restartTimer (requestPass (scanned levels s))).sbu = s.sbu := by simp [scanned]
  have hcode' : acceptedCode (restartTimer (requestPass (scanned levels s))) start
    = ((scanRecs s levels).get start).1.accepted := by rw [acceptedCode_handed, acceptedCode_scanned]
  have hmode' : (restartTimer (requestPass (scanned levels s))).mdc.mode = s.mdc.mode := by simp [scanned]
  have hexec := exec_scan_start hawake hmode haccepts
  generalize restartTimer (requestPass (scanned levels s)) = u at hclt hlif hsbu hcode' hmode' hexec
  have hends := acceptStart_ends (s := u) (by
    rw [hcode', hmode', hsbu]
    exact hcalm.imp_right fun h => h.imp_left fun hq => by rw [hq]; decide)
  rw [hends] at hexec
  refine ⟨_, hexec, ?_, ?_, ?_⟩
  · rw [settleTimer_clt, beginRequested_clt, hclt]
  · rw [settleTimer_lif, beginRequested_lif, hlif]
  · rw [settleTimer_sbu, beginRequested_sbu, hcode', hsbu]

theorem enterRun_restarted {s : State} {restart : Bool} (h : restart = true) : SupplyEnters s (enterRun restart s) := by
  subst h
  exact supplyEnters_enterRun s

theorem enterRun_resumed {s : State} {restart : Bool} (h : restart = false) :
    (enterRun restart s).sbu = { s.sbu with crank := (enterRun restart s).sbu.crank } := by
  subst h
  rw [enterRun_sbu, entered_sbu]
  rfl

theorem enterRun_cranks {s : State} {restart : Bool} (hexact : CollectionsExact s)
    (hstart : acceptedCode s start = some 1) (hcrank : s.sbu.crank ≠ .cranking) :
    (enterRun restart s).sbu.crank = .cranking ∧ CrankHolds s (enterRun restart s) :=
  ⟨by rw [enterRun_sbu, if_pos hstart], crankHolds_enterRun hexact hstart hcrank⟩

theorem enterRun_mode (restart : Bool) (s : State) : (enterRun restart s).mdc.mode = .run := by rw [enterRun_mdc]

/-- Settles O29: a scan that accepts START alone, and an entry to RUN. -/
theorem crankRule : Obligations.CrankRule := by
  unfold Obligations.CrankRule
  intro holds
  refine ⟨?_, ?_⟩
  · intro levels s hawake hexact haccepts code
    refine ⟨fun hrun hcode hcrank => ?_, scan_calm hawake haccepts⟩
    obtain ⟨t, hexec, hsbu, hholds⟩ := scan_cranks hawake hexact haccepts hrun hcode hcrank
    exact ⟨t, hexec, hsbu, hholds.told⟩
  · intro restart s hexact
    have hmode := enterRun_mode restart s
    have hgauges := gaugesEnter_enterRun restart s
    have hrestarted := enterRun_restarted (s := s) (restart := restart)
    have hresumed := enterRun_resumed (s := s) (restart := restart)
    have hcranks := enterRun_cranks (restart := restart) hexact
    have hcalm := enterRun_calm (b := restart) (s := s)
    generalize enterRun restart s = t at *
    exact ⟨hmode, hgauges, hrestarted, hresumed, fun hstart hcrank =>
      ⟨(hcranks hstart hcrank).1, (hcranks hstart hcrank).2.told⟩, hcalm⟩

end Sys2Proof.Machine

/-! PROOFS. One channel's record changed, and the channels' own times (R88–R93, R99): O38. -/

namespace Sys2Proof.Machine

/-! ### One channel's record changed (R75) -/

theorem put_self {α : Type} {n : Nat} (v : Vector α n) (i : Fin n) : put v i (v.get i) = v := by
  refine tbl_ext fun j => ?_
  rw [put_get]
  split
  · next hij => rw [hij]
  · rfl

theorem upd_eq_put {α : Type} {n : Nat} (v : Vector α n) (i : Fin n) (f : α → α) : upd v i f = put v i (f (v.get i)) := rfl

/-- The count toward the bulb check discarded, in the phase. -/
theorem uncounted_eq (ch : Chan) (f : Flasher) :
    f.uncounted ch = { f with phase := f.phase.modifyCheck ch CheckEntry.discard } := by
  obtain ⟨phase, rateSet, fast, ticker, failed, tickPulse⟩ := f
  unfold Flasher.uncounted Phase.modifyCheck
  cases phase with
  | lit rate n checks =>
    have hself (h : (checks.get ch).map CheckEntry.discard = checks.get ch) :
        upd checks ch (fun e => e.map CheckEntry.discard) = checks := by
      rw [upd_eq_put, h, put_self]
    cases hentry : checks.get ch with
    | none => simp only [hentry, hself (by rw [hentry]; rfl)]
    | some e =>
      cases e with
      | pending joined t =>
        simp only [hentry, upd_eq_put, Option.map_some]
        rfl
      | pass | fail | unjudged => simp only [hentry, hself (by rw [hentry]; rfl)]
  | dark rate n => rfl
  | idle => rfl

theorem modifyCheck_twice (ch : Chan) (p : Phase) :
    (p.modifyCheck ch CheckEntry.discard).modifyCheck ch CheckEntry.discard = p.modifyCheck ch CheckEntry.discard := by
  cases p with
  | lit rate n checks =>
    have htwice : upd (upd checks ch fun e => e.map CheckEntry.discard) ch (fun e => e.map CheckEntry.discard)
        = upd checks ch fun e => e.map CheckEntry.discard := by
      refine tbl_ext fun j => ?_
      rw [upd_get, upd_get_same, upd_get]
      split
      · cases checks.get ch with
        | none => rfl
        | some e => cases e <;> rfl
      · rfl
    exact congrArg (Phase.lit rate n) htwice
  | dark rate n => rfl
  | idle => rfl

theorem uncounted_twice (ch : Chan) (f : Flasher) : (f.uncounted ch).uncounted ch = f.uncounted ch := by
  rw [uncounted_eq, uncounted_eq]
  dsimp only
  rw [modifyCheck_twice]

/-- A record changed: the others stand, and unless the channel stays in ON its count starts anew. -/
theorem modifyChannel_eq (ch : Chan) (f : Channel → Channel) (s : State) : modifyChannel ch f s = { s with
    chd := put s.chd ch (f (s.chd.get ch))
    fls := if ((s.chd.get ch).state.isOn && (f (s.chd.get ch)).state.isOn) = true then s.fls
      else s.fls.uncounted ch } := by
  unfold modifyChannel
  dsimp only
  split
  · rfl
  · rw [uncounted_eq]

theorem oneChannel_modifyChannel (ch : Chan) (f : Channel → Channel) (s : State) :
    OneChannel s (modifyChannel ch f s) ch (f (s.chd.get ch)) := by
  rw [modifyChannel_eq]
  refine ⟨put_get_same .., fun k hk => put_get_ne (Ne.symm hk), rfl, ?_⟩
  dsimp only
  split
  · exact .inl rfl
  · exact .inr rfl

theorem modifyChannel_congr {ch : Chan} {f g : Channel → Channel} {s : State}
    (h : f (s.chd.get ch) = g (s.chd.get ch)) : modifyChannel ch f s = modifyChannel ch g s := by
  rw [modifyChannel_eq, modifyChannel_eq, h]

/-! ### The events of the channels' times -/

section
variable {s : State} (hawake : Awake s)
include hawake

theorem exec_channelPeriodEnd (ch : Chan) :
    exec (.channelPeriodEnd ch) s = after (modifyChannel ch Channel.endPeriod s) := act_run hawake _

theorem exec_motorRampStep (ch : Chan) :
    exec (.motorRampStep ch) s = after (modifyChannel ch Channel.rampStep s) := act_run hawake _

theorem exec_inrushWindowEnd (ch : Chan) :
    exec (.inrushWindowEnd ch) s = after (modifyChannel ch Channel.endInrush s) := act_run hawake _

theorem exec_continuousOnForgive (ch : Chan) :
    exec (.continuousOnForgive ch) s = after (modifyChannel ch Channel.forgive s) := act_run hawake _

theorem exec_backOffExpiry (ch : Chan) : exec (.backOffExpiry ch) s
    = after (modifyChannel ch (Channel.endBackOff (s.mdc.mode == .run)) s) := act_run hawake _

end

section
variable {c : Channel}

theorem endPeriod_undriven (h : c.state.driven = false) : c.endPeriod = c := by
  unfold Channel.endPeriod
  rw [if_neg (by rw [h]; decide)]

theorem endPeriod_lamp (h : c.state.driven = true) (hkind : c.profile.kind ≠ .motor) :
    c.endPeriod = { c with applied := c.target, ramp := c.target } := by
  unfold Channel.endPeriod
  rw [if_pos h]
  cases hk : c.profile.kind with
  | motor => exact absurd hk hkind
  | unused | filament | led | telltale => rfl

theorem endPeriod_motor (h : c.state.driven = true) (hkind : c.profile.kind = .motor) :
    c.endPeriod = if c.state.isOn = false ∧ c.target ≤ c.ramp
      then { c with applied := min c.ramp c.target, ramp := min c.ramp c.target, state := .on 0, lowTime := 0, goodTime := 0 }
      else { c with applied := min c.ramp c.target, ramp := min c.ramp c.target } := by
  have hreached : (!c.state.isOn && decide (min c.ramp c.target = c.target)) = true
      ↔ c.state.isOn = false ∧ c.target ≤ c.ramp := by
    simp
  unfold Channel.endPeriod
  rw [if_pos h, hkind]
  dsimp only
  by_cases hon : c.state.isOn = false ∧ c.target ≤ c.ramp
  · rw [if_pos (hreached.mpr hon), if_pos hon]
    rfl
  · rw [if_neg (mt hreached.mp hon), if_neg hon]

theorem rampStep_none (h : c.profile.kind ≠ .motor ∨ c.state.driven = false ∨ c.target ≤ c.ramp) : c.rampStep = c := by
  refine if_neg fun ⟨hkind, hdriven, hlow⟩ => ?_
  rcases h with h | h | h
  · exact h hkind
  · rw [h] at hdriven
    exact absurd hdriven (by decide)
  · omega

theorem rampStep_motor (hkind : c.profile.kind = .motor) (h : c.state.driven = true) (hlow : c.ramp < c.target) :
    c.rampStep = if c.state.isOn = false ∧ c.target ≤ c.ramp + 10
      then { c with ramp := min (c.ramp + 10) c.target, state := .on 0, lowTime := 0, goodTime := 0 }
      else { c with ramp := min (c.ramp + 10) c.target } := by
  have hreached : (!c.state.isOn && decide (min (c.ramp + 10) c.target = c.target)) = true
      ↔ c.state.isOn = false ∧ c.target ≤ c.ramp + 10 := by
    simp
  unfold Channel.rampStep
  rw [if_pos ⟨hkind, h, hlow⟩]
  dsimp only
  by_cases hon : c.state.isOn = false ∧ c.target ≤ c.ramp + 10
  · rw [if_pos (hreached.mpr hon), if_pos hon]
    rfl
  · rw [if_neg (mt hreached.mp hon), if_neg hon]

theorem endInrush_filament {n : Option Nat} (h : c.state = .softstart n) (hkind : c.profile.kind = .filament) :
    c.endInrush = { c with state := .on 0, lowTime := 0, goodTime := 0 } := by
  unfold Channel.endInrush
  rw [h]
  exact if_pos hkind

theorem endInrush_none (h : (∀ n, c.state ≠ .softstart n) ∨ c.profile.kind ≠ .filament) : c.endInrush = c := by
  unfold Channel.endInrush
  split
  · next n hn => exact if_neg (h.resolve_left fun hall => hall n hn)
  all_goals rfl

theorem forgive_on {n : Nat} (h : c.state = .on n) : c.forgive = { c with state := .on 10000, tripCount := 0 } := by
  unfold Channel.forgive
  rw [h]
  rfl

theorem forgive_none (h : ∀ n, c.state ≠ .on n) : c.forgive = c := by
  unfold Channel.forgive
  split
  · next n hn => exact absurd hn (h n)
  all_goals rfl

theorem endBackOff_tripped {n : Nat} (run : Bool) (h : c.state = .tripped n) : c.endBackOff run
    = if run && decide (0 < c.demand) then { c with state := .off }.start else { c with state := .off } := by
  unfold Channel.endBackOff
  rw [h]

theorem endBackOff_none (run : Bool) (h : ∀ n, c.state ≠ .tripped n) : c.endBackOff run = c := by
  unfold Channel.endBackOff
  split
  · next n hn => exact absurd hn (h n)
  all_goals rfl

end

/-- Settles O38: what each event makes of its channel's record. -/
theorem channelTimes : Obligations.ChannelTimes := by
  intro s ch hawake c becomes same entered
  have hto {f : Channel → Channel} {x : Channel} (h : f c = x) : after (modifyChannel ch f s) = becomes x :=
    congrArg after (modifyChannel_congr (g := fun _ => x) h)
  have hrun : (s.mdc.mode == Mode.run) = decide (s.mdc.mode = .run) := by
    rw [Bool.eq_iff_iff]
    simp
  refine ⟨fun h => ?_, fun h hkind => ?_, fun h hkind => ?_, fun h => ?_, fun hkind h hlow => ?_, fun n h hkind => ?_,
    fun h => ?_, fun n h => ?_, fun h => ?_, fun n h => ?_, fun h => ?_, fun x => ?_⟩
  · exact (exec_channelPeriodEnd hawake ch).trans (hto (endPeriod_undriven h))
  · exact (exec_channelPeriodEnd hawake ch).trans (hto (endPeriod_lamp h hkind))
  · exact (exec_channelPeriodEnd hawake ch).trans (hto (endPeriod_motor h hkind))
  · exact (exec_motorRampStep hawake ch).trans (hto (rampStep_none h))
  · exact (exec_motorRampStep hawake ch).trans (hto (rampStep_motor hkind h hlow))
  · exact (exec_inrushWindowEnd hawake ch).trans (hto (endInrush_filament h hkind))
  · exact (exec_inrushWindowEnd hawake ch).trans (hto (endInrush_none h))
  · exact (exec_continuousOnForgive hawake ch).trans (hto (forgive_on h))
  · exact (exec_continuousOnForgive hawake ch).trans (hto (forgive_none h))
  · refine (exec_backOffExpiry hawake ch).trans (hto ((endBackOff_tripped _ h).trans ?_))
    simp only [hrun, Bool.and_eq_true, decide_eq_true_eq]
  · exact (exec_backOffExpiry hawake ch).trans (hto (endBackOff_none _ h))
  · exact oneChannel_modifyChannel ch (fun _ => x) s

end Sys2Proof.Machine

/-! PROOFS. Current samples and trips, and the demands handed to the channels (R87–R100): O36, O37. -/

namespace Sys2Proof.Machine

/-! ### Current samples and trips -/

section
variable {s : State} {ch : Chan}

/-- A change of the record after another of the same channel. -/
theorem oneChannel_trans {u t : State} {x y : Channel} (h : OneChannel s u ch x) (h' : OneChannel u t ch y) :
    OneChannel s t ch y := by
  obtain ⟨-, hothers, haside, hfls⟩ := h
  obtain ⟨hget, hothers', haside', hfls'⟩ := h'
  refine ⟨hget, fun k hk => (hothers' k hk).trans (hothers k hk), by rw [haside', haside], ?_⟩
  rcases hfls with hf | hf <;> rcases hfls' with hf' | hf'
  · exact .inl (hf'.trans hf)
  · exact .inr (by rw [hf', hf])
  · exact .inr (by rw [hf', hf])
  · exact .inr (by rw [hf', hf, uncounted_twice])

theorem tripChannel_eq (ch : Chan) (kind : TripKind) (s : State) : tripChannel ch kind s =
    { modifyChannel ch (Channel.trip kind) s with
      lif := { s.lif with
        status := s.lif.status ||| (if min 3 ((s.chd.get ch).tripCount + 1) = 3 then 0x300 else 0x100) } } := by
  have hcount : ((modifyChannel ch (Channel.trip kind) s).chd.get ch).tripCount
      = min 3 ((s.chd.get ch).tripCount + 1) := by
    obtain ⟨hget, -⟩ := oneChannel_modifyChannel ch (Channel.trip kind) s
    rw [hget]
    rfl
  have hlif : (modifyChannel ch (Channel.trip kind) s).lif = s.lif := by simp
  unfold tripChannel
  dsimp only
  rw [hcount]
  by_cases hlast : min 3 ((s.chd.get ch).tripCount + 1) = 3
  · rw [if_pos hlast, decide_eq_true hlast, setFlagIf_true, ← hlif,
      show (0x300 : BitVec 17) = Flag.bit .lock ||| Flag.bit .trip by decide, ← BitVec.or_assoc]
    rfl
  · rw [if_neg hlast, decide_eq_false hlast, setFlagIf_false, ← hlif]
    rfl

/-- A trip (R98), on a record that differs from the channel's in what a trip starts anew. -/
theorem trip_eq {kind : TripKind} {c d : Channel} (h : d = { c with
      samples := d.samples, overRun := d.overRun, stallTime := d.stallTime, lowTime := d.lowTime, goodTime := d.goodTime }) :
    d.trip kind = { c with
      state := if min 3 (c.tripCount + 1) = 1 then .tripped 500 else if min 3 (c.tripCount + 1) = 2 then .tripped 1000
        else .locked false
      target := 0, applied := 0, ramp := 0, samples := [], overRun := 0, stallTime := 0, lowTime := 0
      goodTime := 0, tripCount := min 3 (c.tripCount + 1), lifetime := min 65535 (c.lifetime + 1)
      lastTrip := some kind } := by
  rw [h]
  rfl

/-- A trip after a change of the record of the same channel that a trip starts anew. -/
theorem tripped_after {u : State} {kind : TripKind} {d : Channel} (hu : OneChannel s u ch d)
    (hd : d = { s.chd.get ch with samples := d.samples, overRun := d.overRun, stallTime := d.stallTime
                                  lowTime := d.lowTime, goodTime := d.goodTime }) :
    let c := s.chd.get ch
    let n := min 3 (c.tripCount + 1)
    ∃ v, OneChannel s v ch
        { c with
          state := if n = 1 then .tripped 500 else if n = 2 then .tripped 1000 else .locked false
          target := 0, applied := 0, ramp := 0, samples := [], overRun := 0, stallTime := 0, lowTime := 0
          goodTime := 0, tripCount := n, lifetime := min 65535 (c.lifetime + 1), lastTrip := some kind }
      ∧ tripChannel ch kind u
        = { v with lif := { s.lif with status := s.lif.status ||| (if n = 3 then 0x300 else 0x100) } } := by
  intro c n
  obtain ⟨hget, -, haside, -⟩ := id hu
  refine ⟨modifyChannel ch (Channel.trip kind) u, ?_, ?_⟩
  · have htrip := oneChannel_trans hu (oneChannel_modifyChannel ch (Channel.trip kind) u)
    rw [hget, trip_eq hd] at htrip
    exact htrip
  · have hcount : (u.chd.get ch).tripCount = c.tripCount := by rw [hget, hd]
    have hlif : u.lif = s.lif := by rw [haside]
    rw [tripChannel_eq, hcount, hlif]

variable (hawake : Awake s)
include hawake

theorem exec_currentSample_idle (h : (s.chd.get ch).conducts = false) (reading : Nat) :
    exec (.currentSample ch reading) s = after s := by
  change execCurrentSample ch reading s = _
  unfold execCurrentSample
  rw [act_run hawake]
  exact congrArg (fun t => Host.Outcome.next (settleTimer t)) (if_neg (by rw [h]; decide))

/-- A sample of a channel that conducts. -/
theorem exec_currentSample (h : (s.chd.get ch).conducts = true) (reading : Nat) :
    let u := modifyChannel ch (Channel.record (tripThreshold ch (s.chd.get ch)) (min 500 reading)) s
    exec (.currentSample ch reading) s = after (if 3 * Config.rating ch ≤ min 500 reading then tripChannel ch .hard u
      else if 40 ≤ (u.chd.get ch).overRun then tripChannel ch .ordinary u else u) := by
  intro u
  change execCurrentSample ch reading s = _
  unfold execCurrentSample
  rw [act_run hawake]
  exact congrArg (fun t => Host.Outcome.next (settleTimer t)) (if_pos h)

theorem exec_stallTrip (ch : Chan) : exec (.stallTrip ch) s
    = after (if (s.chd.get ch).stalling then tripChannel ch .stall s else s) := act_run hawake _

end

theorem oneChannel_self (s : State) (ch : Chan) : OneChannel s s ch (s.chd.get ch) :=
  ⟨rfl, fun _ _ => rfl, rfl, .inl rfl⟩

/-- Settles O36: a sample recorded and judged, and a stall. -/
theorem tripRule : Obligations.TripRule := by
  intro s ch hawake c rating trips
  have htrips {kind : TripKind} {event : Instr} {u : State} {d : Channel} (hu : OneChannel s u ch d)
      (hd : d = { s.chd.get ch with samples := d.samples, overRun := d.overRun, stallTime := d.stallTime
                                    lowTime := d.lowTime, goodTime := d.goodTime })
      (hexec : exec event s = after (tripChannel ch kind u)) : trips kind event := by
    obtain ⟨v, hone, hv⟩ := tripped_after (kind := kind) hu hd
    exact ⟨v, _, hexec, hone, hv⟩
  refine ⟨fun reading => ?_, ?_⟩
  · intro x threshold run history
    have hconducts : c.conducts = (c.state.driven && decide (0 < c.applied)) := rfl
    have hu := oneChannel_modifyChannel ch (Channel.record threshold x) s
    obtain ⟨hget, -⟩ := id hu
    refine ⟨fun h => ?_, fun hdriven happlied => ?_⟩
    · refine exec_currentSample_idle hawake ?_ reading
      rcases h with h | h
      · rw [hconducts, h, Bool.false_and]
      · rw [hconducts, h, decide_eq_false (Nat.lt_irrefl 0), Bool.and_false]
    · have hexec : exec (.currentSample ch reading) s = _ :=
        exec_currentSample hawake (by rw [hconducts, hdriven, decide_eq_true happlied]; rfl) reading
      have hover : ((modifyChannel ch (Channel.record threshold x) s).chd.get ch).overRun = run := by rw [hget]; rfl
      refine ⟨fun hhard => ?_, fun hsoft hrun => ?_, fun hsoft hrun => ?_⟩
      · exact htrips hu rfl (hexec.trans (congrArg after (if_pos hhard)))
      · refine htrips hu rfl (hexec.trans (congrArg after ((if_neg (Nat.not_le.mpr hsoft)).trans (if_pos ?_))))
        exact hover.symm ▸ hrun
      · refine ⟨_, hexec.trans (congrArg after ((if_neg (Nat.not_le.mpr hsoft)).trans (if_neg ?_))), ?_, hu⟩
        · exact fun hall => absurd (hover ▸ hall : 40 ≤ run) (by omega)
        · exact congrArg Channel.measured hget
  · intro stalls
    have hstalling : c.stalling = true ↔ stalls := stalling_iff c
    refine ⟨fun h => ?_, fun h => ?_⟩
    · exact (exec_stallTrip hawake ch).trans (congrArg after (if_neg (mt hstalling.mp h)))
    · exact htrips (oneChannel_self s ch) rfl
        ((exec_stallTrip hawake ch).trans (congrArg after (if_pos (hstalling.mpr h))))

end Sys2Proof.Machine

/-! PROOFS. The demands handed to the channels (R56, R62, R84, R88–R101): O37. -/

namespace Sys2Proof.Machine

/-! ### A start by the kind (R84, R90) -/

section
variable {c : Channel}

theorem targetFor_motor {p : Profile} (h : p.kind = .motor) (d : Nat) :
    p.targetFor d = if d = 0 then 0 else p.minDuty + (1000 - p.minDuty) * d / 1000 := by
  rw [Profile.targetFor, h]

theorem targetFor_plain {p : Profile} (h : p.kind = .filament ∨ p.kind = .led ∨ p.kind = .telltale) (d : Nat) :
    p.targetFor d = d := by
  rcases h with h | h | h <;> rw [Profile.targetFor, h]

/-- A record started in a state at a target and a duty. -/
def Channel.started (c : Channel) (st : ChanState) (target duty : Nat) : Channel :=
  { c with state := st, target := target, applied := duty, ramp := duty, samples := [], overRun := 0, stallTime := 0
           lowTime := 0, goodTime := 0 }

theorem start_filament (h : c.profile.kind = .filament) : c.start
    = c.started (if 0 < c.profile.inrush then .softstart (some 0) else .on 0) c.demand c.demand := by
  unfold Channel.start
  rw [targetFor_plain (.inl h), h]
  rfl

theorem start_plain (h : c.profile.kind = .led ∨ c.profile.kind = .telltale) :
    c.start = c.started (.on 0) c.demand c.demand := by
  unfold Channel.start
  rw [targetFor_plain (.inr h)]
  rcases h with h | h
  · rw [h]
    rfl
  · rw [h]
    rfl

theorem start_motor (h : c.profile.kind = .motor) : c.start
    = c.started (if c.profile.targetFor c.demand = c.profile.minDuty then .on 0 else .softstart none)
        (c.profile.targetFor c.demand) c.profile.minDuty := by
  unfold Channel.start
  rw [h]
  rfl

/-! ### A demand taken -/

theorem takeDemand_off (h : c.state = .off) (run : Bool) (d : Nat) :
    c.takeDemand run d = if run && decide (0 < d) then { c with demand := d }.start else { c with demand := d } := by
  unfold Channel.takeDemand
  rw [h]

theorem takeDemand_cut (h : c.state.driven = true) (run : Bool) :
    c.takeDemand run 0 = { c with demand := 0 }.cut .off := by
  unfold Channel.takeDemand
  cases hst : c.state with
  | softstart t => rfl
  | on t => rfl
  | off | tripped n | locked b => rw [hst] at h; contradiction

theorem takeDemand_retarget (h : c.state.driven = true) (run : Bool) {d : Nat} (hd : 0 < d) :
    c.takeDemand run d = { c with
      demand := d, target := c.profile.targetFor d, lowTime := if d < 1000 then 0 else c.lowTime
      goodTime := if d < 1000 then 0 else c.goodTime } := by
  unfold Channel.takeDemand
  cases hst : c.state with
  | softstart t => exact if_neg (Nat.ne_of_gt hd)
  | on t => exact if_neg (Nat.ne_of_gt hd)
  | off | tripped n | locked b => rw [hst] at h; contradiction

theorem takeDemand_tripped {n : Nat} (h : c.state = .tripped n) (run : Bool) (d : Nat) :
    c.takeDemand run d = { c with demand := d } := by
  unfold Channel.takeDemand
  rw [h]

theorem takeDemand_locked {cycle : Bool} (h : c.state = .locked cycle) (run : Bool) (d : Nat) :
    c.takeDemand run d = if d = 0 then { c with demand := d, state := .locked true }
      else if (cycle && run && c.profile.kind != .unused) = true then { c with demand := d, tripCount := 2 }.start
      else { c with demand := d } := by
  unfold Channel.takeDemand
  rw [h]

end

/-! ### The demands handed out -/

theorem oneChannel_handDemand (ch : Chan) (d : Nat) (s : State) :
    OneChannel s (handDemand ch d s) ch ((s.chd.get ch).takeDemand (s.mdc.mode == .run) d) :=
  oneChannel_modifyChannel ..

/-- A channel once its demand has been recomputed: a change is handed to it (R56). -/
def demandTaken (s : State) (ch : Chan) : Channel :=
  if channelDemand s ch = (s.chd.get ch).demand then s.chd.get ch
  else (s.chd.get ch).takeDemand (s.mdc.mode == .run) (channelDemand s ch)

theorem refreshDemand_get (s : State) (ch k : Chan) :
    (refreshDemand s ch).chd.get k = if ch = k then demandTaken s k else s.chd.get k := by
  unfold refreshDemand demandTaken
  by_cases hk : ch = k
  · subst hk
    rw [if_pos rfl]
    dsimp only
    split
    · rfl
    · rw [chd_handDemand, if_pos rfl]
  · rw [if_neg hk]
    dsimp only
    split
    · rfl
    · rw [chd_handDemand, if_neg hk]

theorem demandTaken_congr {s t : State} {k : Chan} (hread : DemandRead s t) (hmode : t.mdc = s.mdc)
    (hget : t.chd.get k = s.chd.get k) : demandTaken t k = demandTaken s k := by
  unfold demandTaken
  rw [hread.channelDemand, hget, hmode]

theorem foldl_refreshDemand_get (cs : List Chan) (hcs : cs.Nodup) (s : State) (k : Chan) :
    (cs.foldl refreshDemand s).chd.get k = if k ∈ cs then demandTaken s k else s.chd.get k := by
  induction cs generalizing s with
  | nil => simp
  | cons c cs ih =>
    obtain ⟨hc, hnodup⟩ := List.nodup_cons.mp hcs
    have hread := demandRead_refreshDemand s c
    have hmode : (refreshDemand s c).mdc = s.mdc := by simp
    rw [List.foldl_cons, ih hnodup]
    by_cases hk : k ∈ cs
    · have hne : c ≠ k := by rintro rfl; exact hc hk
      have hget : (refreshDemand s c).chd.get k = s.chd.get k := by rw [refreshDemand_get, if_neg hne]
      rw [if_pos hk, if_pos (List.mem_cons_of_mem _ hk), demandTaken_congr hread hmode hget]
    · rw [if_neg hk, refreshDemand_get]
      by_cases hck : c = k
      · rw [if_pos hck, if_pos (by simp [hck])]
      · rw [if_neg hck, if_neg (by simp [hk, Ne.symm hck])]

/-- Every channel once its demand has been recomputed. -/
theorem refreshDemands_get (s : State) (k : Chan) : (refreshDemands s).chd.get k = demandTaken s k := by
  rw [refreshDemands, foldl_refreshDemand_get _ (List.nodup_finRange 20), if_pos (List.mem_finRange k)]

theorem foldl_handDemand_taken (cs : List Chan) (hcs : cs.Nodup) (s : State) (k : Chan) :
    (cs.foldl (fun s ch => handDemand ch (channelDemand s ch) s) s).chd.get k
      = if k ∈ cs then (s.chd.get k).takeDemand (s.mdc.mode == .run) (channelDemand s k) else s.chd.get k := by
  induction cs generalizing s with
  | nil => simp
  | cons c cs ih =>
    obtain ⟨hc, hnodup⟩ := List.nodup_cons.mp hcs
    have hread := demandRead_handDemand c (channelDemand s c) s
    rw [List.foldl_cons, ih hnodup, hread.channelDemand, chd_handDemand, handDemand_mdc]
    by_cases hck : c = k
    · subst hck
      rw [if_pos rfl, if_neg hc, if_pos (by simp)]
    · rw [if_neg hck]
      simp only [List.mem_cons, Ne.symm hck, false_or]

/-- Every channel once each has been handed its demand (R62). -/
theorem handAllDemands_taken (s : State) (k : Chan) : (handAllDemands s).chd.get k
    = (s.chd.get k).takeDemand (s.mdc.mode == .run) (channelDemand s k) := by
  rw [handAllDemands, foldl_handDemand_taken _ (List.nodup_finRange 20), if_pos (List.mem_finRange k)]

theorem outputsAside_refreshDemands (s : State) : OutputsAside s (refreshDemands s) := by
  unfold OutputsAside
  simp

theorem outputsAside_handAllDemands (s : State) : OutputsAside s (handAllDemands s) := by
  unfold OutputsAside
  simp

theorem mode_beq_run (s : State) : (s.mdc.mode == Mode.run) = decide (s.mdc.mode = .run) := by
  rw [Bool.eq_iff_iff]
  simp

/-- What a demand handed to a channel makes of its record, by its state. -/
theorem takeDemand_rule (c : Channel) (run : Bool) (d : Nat) : let t := c.takeDemand run d
    let asked := { c with demand := d }
    t.demand = d
    ∧ (c.state = .off → t = if run && decide (0 < d) then asked.start else asked)
    ∧ (c.state.driven = true → d = 0 → t = { c with demand := 0 }.cut .off)
    ∧ (c.state.driven = true → 0 < d →
        t = { c with
            demand := d, target := t.target, lowTime := if d < 1000 then 0 else c.lowTime
            goodTime := if d < 1000 then 0 else c.goodTime }
          ∧ (c.profile.kind = .motor → t.target = c.profile.minDuty + (1000 - c.profile.minDuty) * d / 1000)
          ∧ (c.profile.kind = .filament ∨ c.profile.kind = .led ∨ c.profile.kind = .telltale → t.target = d))
    ∧ (∀ n, c.state = .tripped n → t = asked)
    ∧ ∀ cycle, c.state = .locked cycle →
        (d = 0 → t = { asked with state := .locked true })
        ∧ (0 < d → cycle = false ∨ run = false → t = asked)
        ∧ (0 < d → cycle = true → run = true → c.profile.kind ≠ .unused → t = { asked with tripCount := 2 }.start) := by
  intro t asked
  refine ⟨takeDemand_demand .., fun h => takeDemand_off h run d, fun h hd => ?_, fun h hd => ?_,
    fun n h => takeDemand_tripped h run d, fun cycle h => ?_⟩
  · subst hd
    exact takeDemand_cut h run
  · have ht : t = _ := takeDemand_retarget h run hd
    have htarget : t.target = c.profile.targetFor d := congrArg Channel.target ht
    refine ⟨by rw [htarget]; exact ht, fun hkind => ?_, fun hkind => ?_⟩
    · rw [htarget, targetFor_motor hkind, if_neg (Nat.ne_of_gt hd)]
    · rw [htarget, targetFor_plain hkind]
  · have ht : t = _ := takeDemand_locked h run d
    refine ⟨fun hd => ht.trans (if_pos hd), fun hd hnot => ht.trans ?_, fun hd hcycle hrun hkind => ht.trans ?_⟩
    · rw [if_neg (Nat.ne_of_gt hd), if_neg]
      rcases hnot with h | h <;> simp [h]
    · rw [if_neg (Nat.ne_of_gt hd), if_pos]
      simp [hcycle, hrun, hkind]

/-- Settles O37: a start by the kind, a demand by the state, and the channels that are handed one. -/
theorem demandActs : Obligations.DemandActs := by
  refine ⟨fun c => ?_, takeDemand_rule, fun s => ?_⟩
  · intro p target fresh
    have htarget (h : p.kind ≠ .motor) : target = c.demand := by
      change (match p.kind with | .motor => _ | _ => _) = _
      split
      · contradiction
      · rfl
    refine ⟨fun h => ?_, fun h => ?_, fun h => ?_⟩
    · rw [htarget (by rw [h]; decide)]
      refine (start_filament h).trans ?_
      rw [← htarget (by rw [h]; decide)]
      rfl
    · have hkind : p.kind ≠ .motor := by rcases h with h | h <;> (rw [h]; decide)
      rw [htarget hkind]
      refine (start_plain h).trans ?_
      rw [← htarget hkind]
      rfl
    · have hmotor : target = c.profile.targetFor c.demand := by
        rw [targetFor_motor h]
        change (match p.kind with | .motor => _ | _ => _) = _
        rw [h]
      rw [hmotor]
      refine (start_motor h).trans ?_
      rw [← hmotor]
      rfl
  · intro taken
    refine ⟨fun ch d => ?_, outputsAside_refreshDemands s, refreshDemands_crs s, fun ch => ?_,
      outputsAside_handAllDemands s, handAllDemands_crs s, fun ch => ?_⟩
    · have h := oneChannel_handDemand ch d s
      rwa [mode_beq_run] at h
    · have h := refreshDemands_get s ch
      rwa [demandTaken, mode_beq_run] at h
    · have h := handAllDemands_taken s ch
      rwa [mode_beq_run] at h

end Sys2Proof.Machine

/-! PROOFS. Steady open-load detection (R102, R103): O39. -/

namespace Sys2Proof.Machine

theorem outputsAside_trans {s t u : State} (h : OutputsAside s t) (h' : OutputsAside t u) : OutputsAside s u := by
  unfold OutputsAside at *
  simp_all

/-! ### The two events -/

/-- What the end of a low time makes of the state, the demands aside. -/
def openLoadFound (ch : Chan) (s : State) : State :=
  setFlagIf (!(s.chd.get ch).openLoadFlag) .openLoad (setOpenLoad ch true
    { s with chd := put s.chd ch { s.chd.get ch with lowTime := Config.openLoadTime, goodTime := 0 } })

/-- What the end of a good time makes of the state, the demands aside. -/
def openLoadLost (ch : Chan) (s : State) : State :=
  setOpenLoad ch false
    { s with chd := put s.chd ch { s.chd.get ch with goodTime := Config.openLoadTime, lowTime := 0 } }

section
variable {s : State} {ch : Chan} (hawake : Awake s)
include hawake

theorem exec_openLoadDetected : exec (.openLoadDetected ch) s = after
    (if watched s ch && decide ((s.chd.get ch).measured < (s.chd.get ch).profile.openLoad)
      then refreshDemands (openLoadFound ch s) else s) := act_run hawake _

theorem exec_openLoadCleared : exec (.openLoadCleared ch) s = after
    (if watched s ch && decide ((s.chd.get ch).profile.openLoad ≤ (s.chd.get ch).measured)
      then refreshDemands (openLoadLost ch s) else s) := act_run hawake _

end

section
variable (s : State) (ch : Chan)

/-- A recomputation of the demands leaves every open-load flag. -/
theorem refreshDemands_openLoadFlag (k : Chan) :
    ((refreshDemands s).chd.get k).openLoadFlag = (s.chd.get k).openLoadFlag := by
  rw [refreshDemands_get, demandTaken]
  split
  · rfl
  · exact takeDemand_openLoadFlag ..

theorem openLoadFound_lif : (openLoadFound ch s).lif
    = if (s.chd.get ch).openLoadFlag then s.lif else { s.lif with status := s.lif.status ||| 0x400 } := by
  unfold openLoadFound setFlagIf
  cases (s.chd.get ch).openLoadFlag with
  | true => rfl
  | false => rfl

theorem openLoadFound_flag (k : Chan) : ((openLoadFound ch s).chd.get k).openLoadFlag
    = (decide (k = ch) || (s.chd.get k).openLoadFlag) := by
  have hchd : (openLoadFound ch s).chd = (setOpenLoad ch true { s with
      chd := put s.chd ch { s.chd.get ch with lowTime := Config.openLoadTime, goodTime := 0 } }).chd := by
    simp [openLoadFound]
  rw [hchd]
  dsimp only [setOpenLoad]
  rw [upd_get]
  by_cases hk : k = ch
  · subst hk
    rw [if_pos rfl, decide_eq_true rfl, Bool.true_or]
  · rw [if_neg (Ne.symm hk), put_get_ne (Ne.symm hk), decide_eq_false hk, Bool.false_or]

theorem openLoadLost_flag (k : Chan) : ((openLoadLost ch s).chd.get k).openLoadFlag
    = (decide (k ≠ ch) && (s.chd.get k).openLoadFlag) := by
  dsimp only [openLoadLost, setOpenLoad]
  rw [upd_get]
  by_cases hk : k = ch
  · subst hk
    rw [if_pos rfl, decide_eq_false (not_not_intro rfl), Bool.false_and]
  · rw [if_neg (Ne.symm hk), put_get_ne (Ne.symm hk), decide_eq_true hk, Bool.true_and]

theorem outputsAside_openLoadFound :
    OutputsAside { s with lif := (openLoadFound ch s).lif } (openLoadFound ch s) := by
  unfold OutputsAside
  simp [openLoadFound, setOpenLoad]

theorem outputsAside_openLoadLost : OutputsAside s (openLoadLost ch s) := by
  unfold OutputsAside
  simp [openLoadLost, setOpenLoad]

end

/-- Settles O39: the two ends of steady open-load detection. -/
theorem openLoadRule : Obligations.OpenLoadRule := by
  intro s ch hawake c watched'
  have hguard (p : Prop) [Decidable p] : (watched s ch && decide p) = true ↔ watched' ∧ p := by
    rw [Bool.and_eq_true, decide_eq_true_iff, watched_iff]
  refine ⟨fun hnot => ?_, fun hw hlow => ?_, fun hnot => ?_, fun hw hgood => ?_⟩
  · exact (exec_openLoadDetected hawake).trans (congrArg after (if_neg (mt (hguard _).mp hnot)))
  · refine ⟨{ s with lif := (openLoadFound ch s).lif }, refreshDemands (openLoadFound ch s),
      (exec_openLoadDetected hawake).trans (congrArg after (if_pos ((hguard _).mpr ⟨hw, hlow⟩))), ?_, rfl, ?_,
      fun k => ?_, openLoadFound_lif s ch⟩
    · exact outputsAside_trans (outputsAside_openLoadFound s ch) (outputsAside_refreshDemands _)
    · rw [refreshDemands_crs]
      simp [openLoadFound, setOpenLoad]
    · rw [refreshDemands_openLoadFlag, openLoadFound_flag]
  · exact (exec_openLoadCleared hawake).trans (congrArg after (if_neg (mt (hguard _).mp hnot)))
  · refine ⟨refreshDemands (openLoadLost ch s),
      (exec_openLoadCleared hawake).trans (congrArg after (if_pos ((hguard _).mpr ⟨hw, hgood⟩))), ?_, ?_, fun k => ?_⟩
    · exact outputsAside_trans (outputsAside_openLoadLost s ch) (outputsAside_refreshDemands _)
    · rw [refreshDemands_crs]
      simp [openLoadLost, setOpenLoad]
    · rw [refreshDemands_openLoadFlag, openLoadLost_flag]

end Sys2Proof.Machine

/-! PROOFS. The channel requests (R106–R110): O40 and O41. -/

namespace Sys2Proof.Machine

theorem exec_channelRead (p : List Byte) (s : State) : exec (.channelRead p) s = serve .channelRead channelRead p s := rfl

theorem exec_channelRestore (p : List Byte) (s : State) :
    exec (.channelRestore p) s = serve .channelRestore channelRestore p s := rfl

theorem exec_profileRead (p : List Byte) (s : State) : exec (.profileRead p) s = serve .profileRead profileRead p s := rfl

theorem exec_profileWrite (p : List Byte) (s : State) :
    exec (.profileWrite p) s = serve .profileWrite profileWrite p s := rfl

section
variable {b : Byte}

theorem chanOf_none (h : 19 < b.toNat) : chanOf b = none := dif_neg (by omega)

theorem chanOf_some {ch : Chan} (h : b.toNat = ch.val) : chanOf b = some ch := by
  rw [chanOf, dif_pos (by omega)]
  exact congrArg some (Fin.ext h)

end

/-! ### CHANNEL.READ (R106) -/

theorem backOff_eq (st : ChanState) : st.backOff = match st with | .tripped n => n | _ => 0 := by cases st <;> rfl

theorem onTime_eq (st : ChanState) : st.onTime = match st with | .on n => n | _ => 0 := by cases st <;> rfl

theorem softTime_eq (st : ChanState) : st.softTime = match st with | .softstart (some n) => n | _ => 0 := by
  cases st with
  | softstart t => cases t <;> rfl
  | off | on _ | tripped _ | locked _ => rfl

theorem cycleFlag_iff (st : ChanState) : st.cycleFlag = true ↔ st = .locked true := by
  cases st with
  | locked b => simp [ChanState.cycleFlag]
  | off | on _ | tripped _ | softstart _ => simp [ChanState.cycleFlag]

theorem tripKindCode_eq (k : Option TripKind) : tripKindCode k
    = match k with | none => 0 | some .ordinary => 1 | some .hard => 2 | some .stall => 3 := by
  cases k with
  | none => rfl
  | some k => cases k <;> rfl

/-- A channel's fields with the absent times and marks at 0. -/
theorem channelFields_eq (s : State) (ch : Chan) : let c := s.chd.get ch
    channelFields s ch = [c.state.code] ++ be16 c.demand ++ be16 c.target ++ be16 c.applied ++ be16 c.measured
      ++ [byte c.tripCount, match c.lastTrip with
          | none => 0 | some .ordinary => 1 | some .hard => 2 | some .stall => 3]
      ++ be16 (match c.state with | .tripped n => n | _ => 0)
      ++ [byte (match c.state with | .softstart (some n) => n | _ => 0)]
      ++ be16 (match c.state with | .on n => n | _ => 0)
      ++ [byte ((if c.openLoadFlag then 1 else 0) + (if c.state = .locked true then 2 else 0)
          + (if s.crs.flashSet.get ch then 4 else 0))]
      ++ be16 c.lifetime := by
  intro c
  unfold channelFields
  simp only [backOff_eq, onTime_eq, softTime_eq, cycleFlag_iff, tripKindCode_eq] <;> rfl

section
variable {channel clear : Byte} {s : State}

theorem channelRead_undefined (h : 1 < clear.toNat) :
    channelRead [channel, clear] s = (s, { code := .badRequest, fields := [] }) := if_pos h

theorem channelRead_noChannel (hclear : clear.toNat ≤ 1) (h : 19 < channel.toNat) :
    channelRead [channel, clear] s = (s, { code := .badIndex, fields := [] }) := by
  rw [channelRead, if_neg (Nat.not_lt.mpr hclear), chanOf_none h]
  rfl

theorem channelRead_ok {ch : Chan} (hclear : clear.toNat ≤ 1) (h : channel.toNat = ch.val) :
    channelRead [channel, clear] s
      = (if clear = 1 then { s with chd := put s.chd ch { s.chd.get ch with lifetime := 0 } } else s,
          { code := .ok, fields := channelFields s ch }) := by
  rw [channelRead, if_neg (Nat.not_lt.mpr hclear), chanOf_some h]
  rfl

end

/-! ### CHANNEL.RESTORE (R107) -/

theorem restore_eq (c : Channel) (run : Bool) : c.restore run = match c.state with
    | .locked _ => if run && decide (0 < c.demand) then { c with tripCount := 0, state := .off }.start
        else { c with tripCount := 0, state := .off }
    | _ => { c with tripCount := 0 } := by
  unfold Channel.restore
  cases c.state <;> rfl

section
variable {channel : Byte} {s : State}

theorem channelRestore_noChannel (h : 19 < channel.toNat) :
    channelRestore [channel] s = (s, { code := .badIndex, fields := [] }) := by
  rw [channelRestore, chanOf_none h]
  rfl

theorem channelRestore_ok {ch : Chan} (h : channel.toNat = ch.val) {y : Channel}
    (hy : (s.chd.get ch).restore (s.mdc.mode == .run) = y) :
    channelRestore [channel] s = (modifyChannel ch (fun _ => y) s, { code := .ok, fields := [y.state.code] }) := by
  obtain ⟨hget, -⟩ := oneChannel_modifyChannel ch (fun _ => y) s
  rw [channelRestore, chanOf_some h]
  dsimp only
  rw [modifyChannel_congr (g := fun _ => y) hy, hget]

theorem profileRead_noChannel (h : 19 < channel.toNat) :
    profileRead [channel] s = (s, { code := .badIndex, fields := [] }) := by
  rw [profileRead, chanOf_none h]
  rfl

theorem profileRead_ok {ch : Chan} (h : channel.toNat = ch.val) : profileRead [channel] s
    = (s, { code := .ok, fields := (if ch.val < 16 then 80 else 160) :: profileBytes (s.chd.get ch).profile }) := by
  rw [profileRead, chanOf_some h]
  dsimp only [Config.rating]
  split
  · rfl
  · rfl

end

/-- Settles O40: the checks of the three requests, and what each answers and changes. -/
theorem channelRequests : Obligations.ChannelRequests := by
  intro s channel
  refine ⟨fun ch x => oneChannel_modifyChannel ch (fun _ => x) s, fun clear h => ⟨fun hbad => ?_,
    fun hclear hbad => ?_, fun ch hclear hch => ?_⟩, fun h => ⟨fun hbad => ?_, fun ch hch => ?_⟩,
    fun h => ⟨fun hbad => ?_, fun ch hch => ?_⟩⟩
  · exact (exec_channelRead ..).trans (serve_handed h (channelRead_undefined hbad))
  · exact (exec_channelRead ..).trans (serve_handed h (channelRead_noChannel hclear hbad))
  · intro c
    refine (exec_channelRead ..).trans (serve_handed h ((channelRead_ok hclear hch).trans ?_))
    exact congrArg (fun fields => (_, ({ code := .ok, fields := fields } : Reply))) (channelFields_eq s ch)
  · exact (exec_channelRestore ..).trans (serve_handed h (channelRestore_noChannel hbad))
  · intro c x y
    refine (exec_channelRestore ..).trans (serve_handed h (channelRestore_ok hch ?_))
    rw [restore_eq, mode_beq_run]
    simp only [Bool.and_eq_true, decide_eq_true_eq] <;> rfl
  · exact (exec_profileRead ..).trans (serve_handed h (profileRead_noChannel hbad))
  · exact (exec_profileRead ..).trans (serve_handed h (profileRead_ok hch))

end Sys2Proof.Machine

/-! PROOFS. PROFILE.WRITE (R109, R110): O41. -/

namespace Sys2Proof.Machine

/-! ### The currents and the sources -/

theorem currentsFit_iff (ch : Chan) (nominal trip openLoad : Nat) : profileCurrentsFit ch nominal trip openLoad = true
    ↔ nominal ≤ (if ch.val < 16 then 80 else 160) ∧ 10 ≤ trip ∧ trip ≤ (if ch.val < 16 then 80 else 160)
      ∧ openLoad ≤ trip := by
  unfold profileCurrentsFit Config.rating
  simp only [Bool.and_eq_true, decide_eq_true_eq, and_assoc]

section
variable {src arg : Byte} {th : Nat}

theorem judgeTellSource_circuit {c : Circ} (hsrc : src = 1) (harg : arg.toNat = c.val) :
    judgeTellSource src arg th = some (.circuit c, false) := by
  rw [judgeTellSource, if_pos hsrc, dif_pos (by omega)]
  exact congrArg (fun c => some (TellSource.circuit c, false)) (Fin.ext harg)

theorem judgeTellSource_gauge {g : GaugeIx} (hsrc : src = 4) (harg : arg.toNat = g.val) :
    judgeTellSource src arg th = some (.gaugeHigh g (clampNat 1 1000 th), clampNat 1 1000 th != th) := by
  subst hsrc
  rw [judgeTellSource, if_neg (by decide), if_neg (by decide), if_neg (by decide), if_pos rfl, dif_pos (by omega)]
  exact congrArg (fun g => some (TellSource.gaugeHigh g (clampNat 1 1000 th), clampNat 1 1000 th != th)) (Fin.ext harg)

theorem judgeTellSource_undefined (h : src = 0 ∨ 5 < src.toNat) : judgeTellSource src arg th = none := by
  have hne {b : Byte} (hb : 0 < b.toNat ∧ b.toNat ≤ 5) : src ≠ b := by
    rintro rfl
    rcases h with h | h
    · subst h
      exact absurd hb.1 (by decide)
    · exact absurd hb.2 (by omega)
  rw [judgeTellSource, if_neg (hne (by decide)), if_neg (hne (by decide)), if_neg (hne (by decide)),
    if_neg (hne (by decide)), if_neg (hne (by decide))]

/-- The sources without an argument or with one in range are all defined. -/
theorem judgeTellSource_defined
    (h : src = 1 ∧ arg.toNat ≤ 15 ∨ src = 2 ∨ src = 3 ∨ src = 4 ∧ arg.toNat ≤ 2 ∨ src = 5) :
    ∃ p, judgeTellSource src arg th = some p := by
  rcases h with ⟨h, harg⟩ | h | h | ⟨h, harg⟩ | h
  · exact ⟨_, judgeTellSource_circuit (c := ⟨arg.toNat, by omega⟩) h rfl⟩
  · exact ⟨(.flash, false), by rw [h]; rfl⟩
  · exact ⟨(.charge, false), by rw [h]; rfl⟩
  · exact ⟨_, judgeTellSource_gauge (g := ⟨arg.toNat, by omega⟩) h rfl⟩
  · exact ⟨(.openLoad, false), by rw [h]; rfl⟩

end

theorem clampNat_one_thousand_ne (th : Nat) : (clampNat 1 1000 th != th) = decide (th = 0 ∨ 1000 < th) := by
  rw [Bool.eq_iff_iff, bne_iff_ne, decide_eq_true_iff]
  unfold clampNat
  omega

/-! ### The judgement of a profile by its kind -/

/-- A profile with its three currents and no more. -/
def currentsProfile (nom trp ol : Byte) : Profile :=
  { kind := .unused, nominal := nom.toNat, trip := trp.toNat, openLoad := ol.toNat
    inrush := 0, minDuty := 0, stall := 0, source := none }

section
variable {ch : Chan} {kind nom trp ol inr md1 md0 st src arg th1 th0 : Byte}

/-- The judgement below the check of the source's argument. -/
theorem judgeProfile_argument (h : ¬(kind = 4 ∧ ((src = 1 ∧ 15 < arg.toNat) ∨ (src = 4 ∧ 2 < arg.toNat)))) :
    judgeProfile ch [kind, nom, trp, ol, inr, md1, md0, st, src, arg, th1, th0]
      = (let fit := profileCurrentsFit ch nom.toNat trp.toNat ol.toNat
        let base := currentsProfile nom trp ol
        if kind = 0 then if fit then .ok (base, false) else .error .badTable
        else if kind = 1 then
          if fit then .ok ({ base with kind := .filament, inrush := min inr.toNat 250 }, decide (250 < inr.toNat))
          else .error .badTable
        else if kind = 2 then if fit then .ok ({ base with kind := .led }, false) else .error .badTable
        else if kind = 3 then
          if 16 ≤ ch.val ∧ fit = true ∧ st.toNat ≤ Config.rating ch then
            .ok ({ base with kind := .motor, minDuty := min (word16 md1 md0) 900, stall := st.toNat },
              decide (900 < word16 md1 md0))
          else .error .badTable
        else if kind = 4 then
          match judgeTellSource src arg (word16 th1 th0) with
          | none => .error .badRequest
          | some (source, c) =>
            if fit then .ok ({ base with kind := .telltale, source := some source }, c) else .error .badTable
        else .error .badRequest) := (if_neg h).trans rfl

theorem judgeProfile_badArgument (hkind : kind = 4)
    (h : src = 1 ∧ 15 < arg.toNat ∨ src = 4 ∧ 2 < arg.toNat) :
    judgeProfile ch [kind, nom, trp, ol, inr, md1, md0, st, src, arg, th1, th0] = .error .badIndex :=
  if_pos ⟨hkind, h⟩

theorem not_telltale {b : Byte} {p : Prop} (hb : b ≠ 4) (h : kind = b) : ¬(kind = 4 ∧ p) := by
  rintro ⟨h4, -⟩
  exact hb (h.symm.trans h4)

theorem judgeProfile_badKind (h : 4 < kind.toNat) :
    judgeProfile ch [kind, nom, trp, ol, inr, md1, md0, st, src, arg, th1, th0] = .error .badRequest := by
  have hne {b : Byte} (hb : b.toNat ≤ 4) : kind ≠ b := by
    rintro rfl
    omega
  rw [judgeProfile_argument fun h => hne (by decide) h.1]
  dsimp only
  rw [if_neg (hne (by decide)), if_neg (hne (by decide)), if_neg (hne (by decide)), if_neg (hne (by decide)),
    if_neg (hne (by decide))]

theorem judgeProfile_unused (hkind : kind = 0) (hfit : profileCurrentsFit ch nom.toNat trp.toNat ol.toNat = true) :
    judgeProfile ch [kind, nom, trp, ol, inr, md1, md0, st, src, arg, th1, th0]
      = .ok (currentsProfile nom trp ol, false) := by
  rw [judgeProfile_argument (not_telltale (by decide) hkind)]
  exact (if_pos hkind).trans (if_pos hfit)

theorem judgeProfile_filament (hkind : kind = 1) (hfit : profileCurrentsFit ch nom.toNat trp.toNat ol.toNat = true) :
    judgeProfile ch [kind, nom, trp, ol, inr, md1, md0, st, src, arg, th1, th0]
      = .ok ({ currentsProfile nom trp ol with kind := .filament, inrush := min inr.toNat 250 },
          decide (250 < inr.toNat)) := by
  rw [judgeProfile_argument (not_telltale (by decide) hkind)]
  subst hkind
  exact if_pos hfit

theorem judgeProfile_led (hkind : kind = 2) (hfit : profileCurrentsFit ch nom.toNat trp.toNat ol.toNat = true) :
    judgeProfile ch [kind, nom, trp, ol, inr, md1, md0, st, src, arg, th1, th0]
      = .ok ({ currentsProfile nom trp ol with kind := .led }, false) := by
  rw [judgeProfile_argument (not_telltale (by decide) hkind)]
  subst hkind
  exact if_pos hfit

theorem judgeProfile_motor (hkind : kind = 3) : judgeProfile ch [kind, nom, trp, ol, inr, md1, md0, st, src, arg, th1, th0]
    = if 16 ≤ ch.val ∧ profileCurrentsFit ch nom.toNat trp.toNat ol.toNat = true ∧ st.toNat ≤ Config.rating ch then
        .ok ({ currentsProfile nom trp ol with
          kind := .motor, minDuty := min (word16 md1 md0) 900, stall := st.toNat }, decide (900 < word16 md1 md0))
      else .error .badTable := by
  rw [judgeProfile_argument (not_telltale (by decide) hkind)]
  subst hkind
  rfl

/-- A profile that is no tell-tale's is refused for a current out of its bounds. -/
theorem judgeProfile_unfit (hkind : kind.toNat ≤ 3) (hfit : ¬profileCurrentsFit ch nom.toNat trp.toNat ol.toNat = true) :
    judgeProfile ch [kind, nom, trp, ol, inr, md1, md0, st, src, arg, th1, th0] = .error .badTable := by
  have hcases : kind = 0 ∨ kind = 1 ∨ kind = 2 ∨ kind = 3 := by bv_omega
  rcases hcases with h | h | h | h
  · rw [judgeProfile_argument (not_telltale (by decide) h)]
    exact (if_pos h).trans (if_neg hfit)
  · rw [judgeProfile_argument (not_telltale (by decide) h)]
    subst h
    exact if_neg hfit
  · rw [judgeProfile_argument (not_telltale (by decide) h)]
    subst h
    exact if_neg hfit
  · rw [judgeProfile_motor h, if_neg fun h => hfit h.2.1]

/-- A tell-tale's profile whose argument is in range. -/
theorem judgeProfile_telltale (hkind : kind = 4) (h : ¬(src = 1 ∧ 15 < arg.toNat ∨ src = 4 ∧ 2 < arg.toNat)) :
    judgeProfile ch [kind, nom, trp, ol, inr, md1, md0, st, src, arg, th1, th0]
      = match judgeTellSource src arg (word16 th1 th0) with
        | none => .error .badRequest
        | some (source, c) =>
          if profileCurrentsFit ch nom.toNat trp.toNat ol.toNat then
            .ok ({ currentsProfile nom trp ol with kind := .telltale, source := some source }, c)
          else .error .badTable := by
  rw [judgeProfile_argument fun h4 => h h4.2]
  subst hkind
  rfl

theorem judgeProfile_source {source : TellSource} {clamped : Bool} (hkind : kind = 4)
    (h : ¬(src = 1 ∧ 15 < arg.toNat ∨ src = 4 ∧ 2 < arg.toNat))
    (hsource : judgeTellSource src arg (word16 th1 th0) = some (source, clamped))
    (hfit : profileCurrentsFit ch nom.toNat trp.toNat ol.toNat = true) :
    judgeProfile ch [kind, nom, trp, ol, inr, md1, md0, st, src, arg, th1, th0]
      = .ok ({ currentsProfile nom trp ol with kind := .telltale, source := some source }, clamped) := by
  rw [judgeProfile_telltale hkind h, hsource]
  exact if_pos hfit

theorem judgeProfile_sourceUnfit {p : TellSource × Bool} (hkind : kind = 4)
    (h : ¬(src = 1 ∧ 15 < arg.toNat ∨ src = 4 ∧ 2 < arg.toNat))
    (hsource : judgeTellSource src arg (word16 th1 th0) = some p)
    (hfit : ¬profileCurrentsFit ch nom.toNat trp.toNat ol.toNat = true) :
    judgeProfile ch [kind, nom, trp, ol, inr, md1, md0, st, src, arg, th1, th0] = .error .badTable := by
  rw [judgeProfile_telltale hkind h, hsource]
  exact if_neg hfit

theorem judgeProfile_noSource (hkind : kind = 4)
    (h : ¬(src = 1 ∧ 15 < arg.toNat ∨ src = 4 ∧ 2 < arg.toNat))
    (hsource : judgeTellSource src arg (word16 th1 th0) = none) :
    judgeProfile ch [kind, nom, trp, ol, inr, md1, md0, st, src, arg, th1, th0] = .error .badRequest := by
  rw [judgeProfile_telltale hkind h, hsource]

end

/-! ### The request -/

theorem storeBusy_iff (s : State) : storeBusy s = true ↔ s.mdc.op ≠ .none := by
  unfold storeBusy
  exact bne_iff_ne

section
variable {s : State} {channel : Byte} {bytes : List Byte} {ch : Chan}

theorem profileWrite_mode (h : s.mdc.mode ≠ .quiesced) (p : List Byte) :
    profileWrite p s = (s, { code := .wrongMode, fields := [] }) := if_pos h

theorem profileWrite_busy (hmode : s.mdc.mode = .quiesced) (h : s.mdc.op ≠ .none) (p : List Byte) :
    profileWrite p s = (s, { code := .storeBusy, fields := [] }) :=
  (if_neg (not_not_intro hmode)).trans (if_pos ((storeBusy_iff s).mpr h))

variable (hmode : s.mdc.mode = .quiesced) (hop : s.mdc.op = .none) (hlen : bytes.length = 12)
include hmode hop hlen

theorem profileWrite_noChannel (h : 19 < channel.toNat) :
    profileWrite (channel :: bytes) s = (s, { code := .badIndex, fields := [] }) := by
  rw [profileWrite, if_neg (not_not_intro hmode), if_neg (mt (storeBusy_iff s).mp (not_not_intro hop)),
    if_neg (not_not_intro hlen), chanOf_none h]
  rfl

theorem profileWrite_refused {e : ReplyCode} (h : channel.toNat = ch.val) (hjudged : judgeProfile ch bytes = .error e) :
    profileWrite (channel :: bytes) s = (s, { code := e, fields := [] }) := by
  rw [profileWrite, if_neg (not_not_intro hmode), if_neg (mt (storeBusy_iff s).mp (not_not_intro hop)),
    if_neg (not_not_intro hlen), chanOf_some h]
  dsimp only
  rw [hjudged]
  rfl

theorem profileWrite_stored {q : Profile} {clamped : Bool} (h : channel.toNat = ch.val)
    (hjudged : judgeProfile ch bytes = .ok (q, clamped)) : profileWrite (channel :: bytes) s
      = ({ s with chd := put s.chd ch { s.chd.get ch with profile := q, openLoadFlag := false } },
          { code := okOr clamped, fields := profileBytes q }) := by
  rw [profileWrite, if_neg (not_not_intro hmode), if_neg (mt (storeBusy_iff s).mp (not_not_intro hop)),
    if_neg (not_not_intro hlen), chanOf_some h]
  dsimp only
  rw [hjudged]
  rfl

end

/-- Settles O41: the checks in order, and the profile stored by its kind. -/
theorem profileWriteRule : Obligations.ProfileWriteRule := by
  intro s channel kind nom trp ol inr md1 md0 st src arg th1 th0 p h
  refine ⟨fun hmode => ?_, fun hmode hop => ?_, fun hmode hop => ⟨fun hbad => ?_, fun ch hch => ?_⟩⟩
  · exact (exec_profileWrite ..).trans (serve_handed h (profileWrite_mode hmode p))
  · exact (exec_profileWrite ..).trans (serve_handed h (profileWrite_busy hmode hop p))
  · exact (exec_profileWrite ..).trans (serve_handed h (profileWrite_noChannel hmode hop rfl hbad))
  intro rating fits base stored
  have hfits : profileCurrentsFit ch nom.toNat trp.toNat ol.toNat = true ↔ fits := currentsFit_iff ..
  have hrefused {e : ReplyCode}
      (hj : judgeProfile ch [kind, nom, trp, ol, inr, md1, md0, st, src, arg, th1, th0] = .error e) :
      exec (.profileWrite p) s = replied e [] s :=
    (exec_profileWrite ..).trans (serve_handed h (profileWrite_refused hmode hop rfl hch hj))
  have hstored (clamped : Prop) [Decidable clamped] {q : Profile}
      (hj : judgeProfile ch [kind, nom, trp, ol, inr, md1, md0, st, src, arg, th1, th0] = .ok (q, decide clamped)) :
      stored clamped q := by
    refine (exec_profileWrite ..).trans (serve_handed h ((profileWrite_stored hmode hop rfl hch hj).trans ?_))
    rw [okOr_decide]
  refine ⟨fun hk => hrefused (judgeProfile_badKind hk), fun hk hnot => hrefused (judgeProfile_unfit hk (mt hfits.mp hnot)),
    fun hk hfit => hstored False (judgeProfile_unused hk (hfits.mpr hfit)),
    fun hk hfit => hstored _ (judgeProfile_filament hk (hfits.mpr hfit)),
    fun hk hfit => hstored False (judgeProfile_led hk (hfits.mpr hfit)), fun hk hnot => ?_,
    fun hk hch16 hst hfit => ?_, fun hk hbad => hrefused (judgeProfile_badArgument hk hbad), fun hk hsrc hnot => ?_,
    fun hk hsrc => ?_, fun source hk hfit => ⟨fun hsrc => ?_, fun g hsrc harg => ?_⟩⟩
  · refine hrefused ((judgeProfile_motor hk).trans (if_neg ?_))
    rintro ⟨hch16, -, hst⟩
    rcases hnot with hlow | hover
    · omega
    · exact absurd hst (Nat.not_le.mpr hover)
  · exact hstored _ ((judgeProfile_motor hk).trans (if_pos ⟨hch16, hfits.mpr hfit, hst⟩))
  · obtain ⟨q, hq⟩ := judgeTellSource_defined (th := word16 th1 th0) hsrc
    exact hrefused (judgeProfile_sourceUnfit hk (by bv_omega) hq (mt hfits.mp hnot))
  · refine hrefused (judgeProfile_noSource hk ?_ (judgeTellSource_undefined hsrc))
    bv_omega
  · rcases hsrc with ⟨hsrc, c, harg, rfl⟩ | ⟨hsrc, rfl⟩ | ⟨hsrc, rfl⟩ | ⟨hsrc, rfl⟩
    · refine hstored False (judgeProfile_source hk ?_ (judgeTellSource_circuit hsrc harg) (hfits.mpr hfit))
      have := c.isLt
      bv_omega
    · exact hstored False (judgeProfile_source hk (by bv_omega) (by rw [hsrc]; rfl) (hfits.mpr hfit))
    · exact hstored False (judgeProfile_source hk (by bv_omega) (by rw [hsrc]; rfl) (hfits.mpr hfit))
    · exact hstored False (judgeProfile_source hk (by bv_omega) (by rw [hsrc]; rfl) (hfits.mpr hfit))
  · intro th
    have hsource := judgeTellSource_gauge (th := th) hsrc harg
    rw [clampNat_one_thousand_ne] at hsource
    refine hstored _ (judgeProfile_source hk ?_ hsource (hfits.mpr hfit))
    have := g.isLt
    bv_omega

end Sys2Proof.Machine

/-! PROOFS. The circuit requests (R64, R65): O32. -/

namespace Sys2Proof.Machine

theorem exec_circuitRead (p : List Byte) (s : State) : exec (.circuitRead p) s = serve .circuitRead circuitRead p s := rfl

theorem exec_circuitWrite (p : List Byte) (s : State) :
    exec (.circuitWrite p) s = serve .circuitWrite circuitWrite p s := rfl

/-! ### The listed channels -/

theorem channelsOf_none {bs : List Byte} (h : ∃ b ∈ bs, 19 < b.toNat) : channelsOf bs = none := by
  induction bs with
  | nil => simp at h
  | cons b bs ih =>
    unfold channelsOf
    split
    · next hb =>
      have hrest : ∃ b ∈ bs, 19 < b.toNat := by
        obtain ⟨x, hx, hover⟩ := h
        rcases List.mem_cons.mp hx with rfl | hx
        · exact absurd hover (by omega)
        · exact ⟨x, hx, hover⟩
      rw [ih hrest]
      rfl
    · rfl

theorem channelsOf_some {bs : List Byte} (h : ∀ b ∈ bs, b.toNat ≤ 19) : ∃ cs, channelsOf bs = some cs := by
  induction bs with
  | nil => exact ⟨[], rfl⟩
  | cons b bs ih =>
    obtain ⟨cs, hcs⟩ := ih fun x hx => h x (List.mem_cons_of_mem _ hx)
    have hb : b.toNat < 20 := Nat.lt_succ_of_le (h b List.mem_cons_self)
    exact ⟨⟨b.toNat, hb⟩ :: cs, by rw [channelsOf, dif_pos hb, hcs]; rfl⟩

theorem chan_byte_toNat (ch : Chan) : (byte ch.val).toNat = ch.val := by
  rw [byte_toNat]
  exact Nat.mod_eq_of_lt (by omega)

theorem channelsOf_map (list : List Chan) : channelsOf (list.map fun ch => byte ch.val) = some list := by
  induction list with
  | nil => rfl
  | cons ch list ih =>
    have hch := chan_byte_toNat ch
    rw [List.map_cons, channelsOf, dif_pos (by rw [hch]; exact ch.isLt), ih]
    exact congrArg (fun c => some (c :: list)) (Fin.ext hch)

theorem judgeCircuit_badIndex {channels : List Byte} {m : Byte} (h : ∃ b ∈ channels, 19 < b.toNat) :
    judgeCircuit channels m = .error .badIndex := by
  rw [judgeCircuit, channelsOf_none h]

theorem judgeCircuit_map {list : List Chan} (hlen : list.length ≤ 4) (m : Byte) :
    judgeCircuit (list.map fun ch => byte ch.val) m = if list.Nodup then
        .ok ({ channels := list, maxLevel := clampNat 1 15 m.toNat }, clampNat 1 15 m.toNat != m.toNat)
      else .error .badTable := by
  rw [judgeCircuit, channelsOf_map]
  dsimp only
  by_cases hn : list.Nodup
  · rw [if_pos hn, if_neg (by simp [hn, hlen])]
  · rw [if_neg hn, if_pos (.inr hn)]

/-- The judgement of all the bytes that a count of at most 4 takes. -/
theorem judgeCircuit_listed {channels : List Byte} {list : List Chan} {n : Nat} (hn : n ≤ 4) (hlen : channels.length = n)
    (hlist : channels = list.map fun ch => byte ch.val) (m : Byte) :
    judgeCircuit (channels.take n) m = if list.Nodup then
        .ok ({ channels := list, maxLevel := clampNat 1 15 m.toNat }, clampNat 1 15 m.toNat != m.toNat)
      else .error .badTable := by
  subst hlist
  rw [← hlen, List.take_length]
  rw [List.length_map] at hlen
  exact judgeCircuit_map (hlen.trans_le hn) m

theorem clampNat_fifteen (m : Nat) : clampNat 1 15 m = max 1 (min 15 m) := by
  unfold clampNat
  omega

theorem okOr_ne (m n : Nat) : okOr (m != n) = if m = n then .ok else .clamped := by
  unfold okOr
  by_cases h : m = n
  · rw [if_pos h, if_neg (by simp [h])]
  · rw [if_neg h, if_pos (by simp [h])]

/-! ### The fields of a read (R64, R172) -/

/-- The slots of the live claims on a circuit, in slot order. -/
theorem slotsOn_eq (s : State) (c : Circ) :
    slotsOn s c = (List.finRange 32).filter fun i : SlotIx => (claimAt s i).any fun x => decide (x.circuit = c) := by
  rw [slotsOn, liveSlots, List.filter_filter]
  refine List.filter_congr fun i _ => ?_
  have hclaim : (s.clt.slots.get i).claim = claimAt s i := rfl
  rw [hclaim]
  cases claimAt s i with
  | none => simp
  | some x => simp

theorem length_flatMap_be16 {α : Type} (f : α → Nat) (xs : List α) :
    (xs.flatMap fun x => be16 (f x)).length = 2 * xs.length := by
  induction xs with
  | nil => rfl
  | cons x xs ih =>
    rw [List.flatMap_cons, List.length_append, ih, List.length_cons, be16]
    simp only [List.length_cons, List.length_nil]
    omega

theorem padZeros_short {n : Nat} {xs : List Byte} (h : xs.length ≤ n) :
    padZeros n xs = xs ++ List.replicate (n - xs.length) 0 := by
  rw [padZeros, List.take_of_length_le h]

theorem padZeros_handles (s : State) (slots : List SlotIx) :
    padZeros 16 ((slots.take 8).flatMap fun i => be16 (handleAt s i).toNat)
      = ((slots.take 8).flatMap fun i => be16 (handleAt s i).toNat)
        ++ List.replicate (16 - ((slots.take 8).flatMap fun i => be16 (handleAt s i).toNat).length) 0 := by
  refine padZeros_short ?_
  rw [length_flatMap_be16, List.length_take]
  omega

theorem resolved_demand_eq (r : Resolved) : r.demand = match r with | .steady d => d | _ => 0 := by cases r <;> rfl

theorem inForceFields_eq (s : State) (c : Circ) : let e := s.crs.inForce.get c
    let slots := (List.finRange 32).filter fun i : SlotIx => (claimAt s i).any fun x => decide (x.circuit = c)
    let handles := (slots.take 8).flatMap fun i => be16 (i.val * 16 + (s.clt.slots.get i).gen.val)
    inForceFields s c = listBytes e.channels ++ [byte e.maxLevel, byte (nominalShare s e.channels),
        (s.crs.resolved.get c).code] ++ be16 (match s.crs.resolved.get c with | .steady d => d | _ => 0)
      ++ [boolByte (s.crs.pendingEntry.get c).isSome, byte slots.length]
      ++ handles ++ List.replicate (16 - handles.length) 0 := by
  intro e slots handles
  unfold inForceFields
  dsimp only
  rw [slotsOn_eq, resolved_demand_eq, padZeros_handles, ← List.append_assoc] <;> rfl

section
variable {circuit view : Byte} {s : State}

theorem circuitRead_undefined (h : 1 < view.toNat) :
    circuitRead [circuit, view] s = (s, { code := .badRequest, fields := [] }) := if_pos h

theorem circuitRead_noCircuit (hview : view.toNat ≤ 1) (h : 15 < circuit.toNat) :
    circuitRead [circuit, view] s = (s, { code := .badIndex, fields := [] }) :=
  (if_neg (Nat.not_lt.mpr hview)).trans (dif_neg (by omega))

theorem circuitRead_ok {c : Circ} (hview : view.toNat ≤ 1) (h : circuit.toNat = c.val) : circuitRead [circuit, view] s
    = (s, { code := .ok, fields := if view = 0 then inForceFields s c else pendingFields s c }) := by
  have hc : (⟨circuit.toNat, by omega⟩ : Circ) = c := Fin.ext h
  rw [circuitRead, if_neg (Nat.not_lt.mpr hview), dif_pos (by omega), hc]

end

/-! ### CIRCUIT.WRITE (R65) -/

section
variable {s : State} {circuit maxLevel count : Byte} {channels : List Byte}

theorem circuitWrite_mode (h : s.mdc.mode ≠ .quiesced) (p : List Byte) :
    circuitWrite p s = (s, { code := .wrongMode, fields := [] }) := if_pos h

theorem circuitWrite_busy (hmode : s.mdc.mode = .quiesced) (h : s.mdc.op ≠ .none) (p : List Byte) :
    circuitWrite p s = (s, { code := .storeBusy, fields := [] }) :=
  (if_neg (not_not_intro hmode)).trans (if_pos ((storeBusy_iff s).mpr h))

variable (hmode : s.mdc.mode = .quiesced) (hop : s.mdc.op = .none)
include hmode hop

theorem circuitWrite_length (hcount : count.toNat ≤ 4) (hlen : channels.length ≠ count.toNat) :
    circuitWrite (circuit :: maxLevel :: count :: channels) s = (s, { code := .badRequest, fields := [] }) := by
  rw [circuitWrite, if_neg (not_not_intro hmode), if_neg (mt (storeBusy_iff s).mp (not_not_intro hop)),
    if_pos ⟨hcount, hlen⟩]
  rfl

variable (hfits : ¬(count.toNat ≤ 4 ∧ channels.length ≠ count.toNat))
include hfits

theorem circuitWrite_noCircuit (h : 15 < circuit.toNat) :
    circuitWrite (circuit :: maxLevel :: count :: channels) s = (s, { code := .badIndex, fields := [] }) := by
  rw [circuitWrite, if_neg (not_not_intro hmode), if_neg (mt (storeBusy_iff s).mp (not_not_intro hop)), if_neg hfits,
    dif_neg (by omega)]
  rfl

theorem circuitWrite_refused {e : ReplyCode} (h : circuit.toNat < 16)
    (hjudged : judgeCircuit (channels.take count.toNat) maxLevel = .error e) :
    circuitWrite (circuit :: maxLevel :: count :: channels) s = (s, { code := e, fields := [] }) := by
  rw [circuitWrite, if_neg (not_not_intro hmode), if_neg (mt (storeBusy_iff s).mp (not_not_intro hop)), if_neg hfits,
    dif_pos h, hjudged]
  cases e <;> rfl

theorem circuitWrite_overlong {e : CircuitEntry} {clamped : Bool} (h : circuit.toNat < 16)
    (hjudged : judgeCircuit (channels.take count.toNat) maxLevel = .ok (e, clamped)) (hcount : 4 < count.toNat) :
    circuitWrite (circuit :: maxLevel :: count :: channels) s = (s, { code := .badTable, fields := [] }) := by
  rw [circuitWrite, if_neg (not_not_intro hmode), if_neg (mt (storeBusy_iff s).mp (not_not_intro hop)), if_neg hfits,
    dif_pos h, hjudged]
  exact if_pos hcount

theorem circuitWrite_stored {c : Circ} {e : CircuitEntry} {clamped : Bool} (h : circuit.toNat = c.val)
    (hjudged : judgeCircuit (channels.take count.toNat) maxLevel = .ok (e, clamped)) (hcount : count.toNat ≤ 4) :
    circuitWrite (circuit :: maxLevel :: count :: channels) s
      = ({ s with crs := { s.crs with pendingEntry := put s.crs.pendingEntry c (some e) } },
          { code := okOr clamped, fields := circuitBytes e ++ [circuit] }) := by
  have hc : (⟨circuit.toNat, by omega⟩ : Circ) = c := Fin.ext h
  rw [circuitWrite, if_neg (not_not_intro hmode), if_neg (mt (storeBusy_iff s).mp (not_not_intro hop)), if_neg hfits,
    dif_pos (by omega), hjudged, hc]
  exact if_neg (Nat.not_lt.mpr hcount)

/-- A listed channel above 19, at any count, is refused at the index check. -/
theorem circuitWrite_badIndex (h : 15 < circuit.toNat ∨ channels.length = count.toNat ∧ ∃ b ∈ channels, 19 < b.toNat) :
    circuitWrite (circuit :: maxLevel :: count :: channels) s = (s, { code := .badIndex, fields := [] }) := by
  by_cases hc : circuit.toNat < 16
  · obtain ⟨hlen, hbad⟩ := h.resolve_left (by omega)
    refine circuitWrite_refused hmode hop hfits hc ?_
    rw [← hlen, List.take_length, judgeCircuit_badIndex hbad]
  · exact circuitWrite_noCircuit hmode hop hfits (by omega)

/-- A count above 4 of channels in range is refused at the list check. -/
theorem circuitWrite_badCount (hcount : 4 < count.toNat) (hc : circuit.toNat ≤ 15) (h : ∀ b ∈ channels, b.toNat ≤ 19) :
    circuitWrite (circuit :: maxLevel :: count :: channels) s = (s, { code := .badTable, fields := [] }) := by
  obtain ⟨cs, hcs⟩ := channelsOf_some fun b hb => h b (List.mem_of_mem_take (i := count.toNat) hb)
  by_cases hbad : 4 < cs.length ∨ ¬cs.Nodup
  · exact circuitWrite_refused hmode hop hfits (by omega) (by rw [judgeCircuit, hcs]; exact if_pos hbad)
  · exact circuitWrite_overlong hmode hop hfits (by omega) (by rw [judgeCircuit, hcs]; exact if_neg hbad) hcount

end

/-- Settles O32: the two views of a circuit, and the checks of its write in their order. -/
theorem circuitRequests : Obligations.CircuitRequests := by
  unfold Obligations.CircuitRequests
  intro spread
  refine ⟨fun circuit view s h => ⟨fun hbad => ?_, fun hview hbad => ?_, fun c hc => ?_⟩, ?_⟩
  · exact (exec_circuitRead ..).trans (serve_handed h (circuitRead_undefined hbad))
  · exact (exec_circuitRead ..).trans (serve_handed h (circuitRead_noCircuit hview hbad))
  · intro e q nominal slots handles
    refine ⟨fun hview => ?_, fun hview => ?_⟩
    · refine (exec_circuitRead ..).trans (serve_handed h ((circuitRead_ok (by simp [hview]) hc).trans ?_))
      rw [if_pos hview, inForceFields_eq]
      rfl
    · refine (exec_circuitRead ..).trans (serve_handed h ((circuitRead_ok (by simp [hview]) hc).trans ?_))
      rw [if_neg (by simp [hview])]
      rfl
  · intro circuit maxLevel count channels s p h
    refine ⟨fun hmode => ?_, fun hmode hop => ?_, fun hmode hop => ⟨fun hcount hlen => ?_,
      fun hcount hlen => ⟨fun hbad => ?_, fun c list hc hlist => ?_⟩, fun hcount hbad => ?_, fun hcount hc hok => ?_⟩⟩
    · exact (exec_circuitWrite ..).trans (serve_handed h (circuitWrite_mode hmode p))
    · exact (exec_circuitWrite ..).trans (serve_handed h (circuitWrite_busy hmode hop p))
    · exact (exec_circuitWrite ..).trans (serve_handed h (circuitWrite_length hmode hop hcount hlen))
    · exact (exec_circuitWrite ..).trans (serve_handed h (circuitWrite_badIndex hmode hop (fun hno => hno.2 hlen)
        (hbad.imp_right fun hbad => ⟨hlen, hbad⟩)))
    · have hfits : ¬(count.toNat ≤ 4 ∧ channels.length ≠ count.toNat) := fun hno => hno.2 hlen
      have hjudged := judgeCircuit_listed hcount hlen hlist maxLevel
      refine ⟨fun hdup => ?_, fun hnodup => ?_⟩
      · exact (exec_circuitWrite ..).trans (serve_handed h
          (circuitWrite_refused hmode hop hfits (by omega) (hjudged.trans (if_neg hdup))))
      · intro m
        refine (exec_circuitWrite ..).trans (serve_handed h
          ((circuitWrite_stored hmode hop hfits hc (hjudged.trans (if_pos hnodup)) hcount).trans ?_))
        rw [okOr_ne, clampNat_fifteen]
        simp only [circuitBytes, List.append_assoc] <;> rfl
    · exact (exec_circuitWrite ..).trans (serve_handed h (circuitWrite_badIndex hmode hop (by omega) hbad))
    · exact (exec_circuitWrite ..).trans (serve_handed h (circuitWrite_badCount hmode hop (by omega) hcount hc hok))

end Sys2Proof.Machine

/-! PROOFS. The Flasher's start and stop and its phase expiries (R69–R73, R79): O33. -/

namespace Sys2Proof.Machine

/-! ### Start and stop (R56, R69–R71) -/

theorem pulse_eq (f : Flasher) : f.pulse = { f with tickPulse := if f.ticker then some 4 else f.tickPulse } := by
  unfold Flasher.pulse
  split
  · next h => simp [h, Config.tickTime]
  · rfl

/-- The check list that a LIT phase begins with: every channel of the flash set PENDING. -/
def pendingChecks (flashSet : Vector Bool 20) : Vector (Option CheckEntry) 20 :=
  tabulate fun ch => if flashSet.get ch then some (.pending false 0) else none

theorem beginLit_eq (flashSet : Vector Bool 20) (f : Flasher) : f.beginLit flashSet = { f with
    phase := .lit f.rateSet (litTime f.rateSet f.fast) (pendingChecks flashSet)
    tickPulse := if f.ticker then some 4 else f.tickPulse } := by
  have hchecks : mapTbl (fun b => if b then some (CheckEntry.pending false 0) else none) flashSet
      = pendingChecks flashSet := by
    refine tbl_ext fun ch => ?_
    simp [pendingChecks]
  unfold Flasher.beginLit
  rw [hchecks, pulse_eq]

theorem runs_iff (s : State) : (s.crs.flashPresent && s.mdc.mode == .run) = true
    ↔ s.crs.flashPresent = true ∧ s.mdc.mode = .run := by
  simp

section
variable {s : State}

theorem syncFlasher_start (hruns : s.crs.flashPresent = true ∧ s.mdc.mode = .run) (hidle : s.fls.phase = .idle) :
    syncFlasher s = { s with fls := { s.fls with
      phase := .lit s.fls.rateSet (60000 / s.fls.rateSet / 2) (pendingChecks s.crs.flashSet)
      fast := false, failed := tabulate fun _ => false
      tickPulse := if s.fls.ticker then some 4 else s.fls.tickPulse } } := by
  unfold syncFlasher
  rw [if_pos ((runs_iff s).mpr hruns), if_pos hidle, Flasher.start, beginLit_eq]
  rfl

theorem syncFlasher_stop (hnot : ¬(s.crs.flashPresent = true ∧ s.mdc.mode = .run)) (hidle : s.fls.phase ≠ .idle) :
    syncFlasher s = { s with fls := { s.fls with
      phase := .idle, fast := false, failed := tabulate fun _ => false } } := by
  unfold syncFlasher
  rw [if_neg (mt (runs_iff s).mp hnot), if_neg hidle]
  rfl

theorem syncFlasher_stands (h : (s.crs.flashPresent = true ∧ s.mdc.mode = .run) ↔ s.fls.phase ≠ .idle) :
    syncFlasher s = s := by
  unfold syncFlasher
  by_cases hruns : s.crs.flashPresent = true ∧ s.mdc.mode = .run
  · rw [if_pos ((runs_iff s).mpr hruns), if_neg (h.mp hruns)]
  · rw [if_neg (mt (runs_iff s).mp hruns), if_pos (not_not.mp (mt h.mpr hruns))]

end

theorem indicate_eq (s : State) : indicate s
    = syncFlasher { s with crs := { s.crs with flashPresent := decide (∃ c, s.crs.resolved.get c = .flashing) } } := by
  have hany : (s.crs.resolved.toList.any fun r => decide (r = .flashing))
      = decide (∃ c, s.crs.resolved.get c = .flashing) := by
    rw [Bool.eq_iff_iff, any_toList_iff, decide_eq_true_iff]
    simp only [decide_eq_true_eq]
  unfold indicate
  rw [hany]

/-! ### A recomputation of the demands under a Flasher with no time counted (R75) -/

/-- A Flasher on which no time is counted toward a bulb check. -/
abbrev Uncounted (f : Flasher) : Prop := ∀ ch, f.uncounted ch = f

theorem refreshDemand_fls {s : State} (h : Uncounted s.fls) (ch : Chan) : (refreshDemand s ch).fls = s.fls := by
  unfold refreshDemand
  dsimp only
  split
  · rfl
  · obtain ⟨-, -, -, hfls⟩ := oneChannel_handDemand ch (channelDemand s ch) s
    exact hfls.elim id fun hfls => hfls.trans (h ch)

theorem foldl_refreshDemand_fls (cs : List Chan) {s : State} (h : Uncounted s.fls) :
    (cs.foldl refreshDemand s).fls = s.fls := by
  induction cs generalizing s with
  | nil => rfl
  | cons c cs ih =>
    have hc := refreshDemand_fls h c
    rw [List.foldl_cons, ih (by rwa [hc]), hc]

theorem refreshDemands_fls {s : State} (h : Uncounted s.fls) : (refreshDemands s).fls = s.fls :=
  foldl_refreshDemand_fls _ h

theorem uncounted_dark {f : Flasher} {rate n : Nat} (h : f.phase = .dark rate n) : Uncounted f := by
  intro ch
  rw [Flasher.uncounted, h]

theorem uncounted_begun {f : Flasher} {rate n : Nat} {flashSet : Vector Bool 20}
    (h : f.phase = .lit rate n (pendingChecks flashSet)) : Uncounted f := by
  intro ch
  rw [uncounted_eq, h]
  have hchecks : upd (pendingChecks flashSet) ch (fun e => e.map CheckEntry.discard) = pendingChecks flashSet := by
    refine tbl_ext fun k => ?_
    rw [upd_get]
    split
    · next hk =>
      subst hk
      rw [pendingChecks, tabulate_get]
      split <;> rfl
    · rfl
  rw [Phase.modifyCheck, hchecks, ← h]

/-! ### The end of a LIT phase (R72, R75, R76) -/

/-- An entry whose time ends with the phase, unmarked and unjudged, so that the verdict is FAIL. -/
def overdue (checks : Vector (Option CheckEntry) 20) (ch : Chan) : Bool :=
  match checks.get ch with
  | some (.pending false _) => true
  | _ => false

theorem actFinal_eq (checks : Vector (Option CheckEntry) 20) (s : State) (ch : Chan) : actFinal checks s ch
    = if overdue checks ch then setFlag .openLoad (setOpenLoad ch true s) else s := by
  unfold actFinal overdue
  cases checks.get ch with
  | none => rfl
  | some e =>
    cases e with
    | pending joined t => cases joined <;> rfl
    | pass | fail | unjudged => rfl

theorem status_again {w : Nat} (x y : BitVec w) : x ||| y ||| y = x ||| y := by
  rw [BitVec.or_assoc, BitVec.or_self]

theorem foldl_actFinal_lif (checks : Vector (Option CheckEntry) 20) (cs : List Chan) (s : State) :
    (cs.foldl (actFinal checks) s).lif
      = { s.lif with status := if cs.any (overdue checks) then s.lif.status ||| 0x400 else s.lif.status } := by
  induction cs generalizing s with
  | nil => rfl
  | cons c cs ih =>
    rw [List.foldl_cons, ih, actFinal_eq, List.any_cons]
    cases overdue checks c with
    | false => rw [if_neg (by decide), Bool.false_or]
    | true =>
      rw [if_pos rfl, Bool.true_or, if_pos rfl]
      have hstatus : (setFlag .openLoad (setOpenLoad c true s)).lif.status = s.lif.status ||| 0x400 := rfl
      rw [hstatus, status_again, ite_self]
      rfl

theorem foldl_actFinal_flag (checks : Vector (Option CheckEntry) 20) (cs : List Chan) (s : State) (k : Chan) :
    ((cs.foldl (actFinal checks) s).chd.get k).openLoadFlag
      = ((s.chd.get k).openLoadFlag || (decide (k ∈ cs) && overdue checks k)) := by
  induction cs generalizing s with
  | nil => simp
  | cons c cs ih =>
    have hflag : ((actFinal checks s c).chd.get k).openLoadFlag
        = ((s.chd.get k).openLoadFlag || (decide (k = c) && overdue checks k)) := by
      rw [actFinal_eq]
      by_cases hk : k = c
      · subst hk
        cases overdue checks k with
        | false => simp
        | true => simp [setOpenLoad]
      · split
        · simp [setOpenLoad, upd_get, hk, Ne.symm hk]
        · simp [hk]
    rw [List.foldl_cons, ih, hflag, Bool.or_assoc, ← Bool.and_or_distrib_right, List.decide_mem_cons]
    rfl

theorem foldl_actFinal_eq (checks : Vector (Option CheckEntry) 20) (cs : List Chan) (s : State) :
    cs.foldl (actFinal checks) s = { s with
      chd := (cs.foldl (actFinal checks) s).chd, lif := (cs.foldl (actFinal checks) s).lif } := by
  induction cs generalizing s with
  | nil => rfl
  | cons c cs ih =>
    rw [List.foldl_cons, ih, actFinal_eq]
    split
    · rfl
    · rfl

/-- Entries that stand at FAIL or will at the phase's end. -/
def failing (checks : Vector (Option CheckEntry) 20) (ch : Chan) : Bool :=
  match checks.get ch with
  | some .fail => true
  | some (.pending false _) => true
  | _ => false

theorem failedSet_eq (checks : Vector (Option CheckEntry) 20) : failedSet checks = tabulate (failing checks) := by
  refine tbl_ext fun ch => ?_
  rw [failedSet, mapTbl_get, tabulate_get, failing]
  cases checks.get ch with
  | none => rfl
  | some e =>
    cases e with
    | pending joined t => cases joined <;> rfl
    | pass | fail | unjudged => rfl

theorem any_failedSet (checks : Vector (Option CheckEntry) 20) :
    (failedSet checks).toList.any id = (List.finRange 20).any (failing checks) := by
  rw [Bool.eq_iff_iff, any_toList_iff, failedSet_eq]
  simp

/-- The state at the end of a LIT phase once the verdicts have acted, the demands aside. -/
def litEnded (rate : Nat) (checks : Vector (Option CheckEntry) 20) (s : State) : State :=
  { (List.finRange 20).foldl (actFinal checks) s with fls := { s.fls with
      phase := .dark rate (darkTime rate ((List.finRange 20).any (failing checks)))
      failed := tabulate (failing checks), fast := (List.finRange 20).any (failing checks)
      tickPulse := if s.fls.ticker then some 4 else s.fls.tickPulse } }

section
variable {s : State} {rate n : Nat} {checks : Vector (Option CheckEntry) 20}

theorem endLit_lit (h : s.fls.phase = .lit rate n checks) : endLit s = refreshDemands (litEnded rate checks s) := by
  have hfls : ((List.finRange 20).foldl (actFinal checks) s).fls = s.fls :=
    (congrArg State.fls (foldl_actFinal_eq checks (List.finRange 20) s)).trans rfl
  unfold endLit
  rw [h]
  dsimp only
  rw [pulse_eq, any_failedSet, failedSet_eq]
  dsimp only
  rw [hfls]
  rfl

theorem endLit_other (h : ∀ rate n checks, s.fls.phase ≠ .lit rate n checks) : endLit s = s := by
  unfold endLit
  cases hp : s.fls.phase with
  | lit rate n checks => exact absurd hp (h rate n checks)
  | dark rate n => rfl
  | idle => rfl

theorem litEnded_eq : litEnded rate checks s = { s with
    chd := (litEnded rate checks s).chd, lif := (litEnded rate checks s).lif, fls := (litEnded rate checks s).fls } := by
  unfold litEnded
  rw [foldl_actFinal_eq]

theorem outputsAside_litEnded : OutputsAside
    { s with chd := (litEnded rate checks s).chd, lif := (litEnded rate checks s).lif } (litEnded rate checks s) := by
  rw [litEnded_eq]
  exact ⟨rfl, rfl, rfl, rfl, rfl, rfl, rfl, rfl, rfl, rfl, rfl, rfl, rfl⟩

theorem litEnded_flag (k : Chan) : ((litEnded rate checks s).chd.get k).openLoadFlag
    = ((s.chd.get k).openLoadFlag || overdue checks k) := by
  have h := foldl_actFinal_flag checks (List.finRange 20) s k
  rwa [decide_eq_true (List.mem_finRange k), Bool.true_and] at h

theorem litEnded_lif : (litEnded rate checks s).lif = { s.lif with
    status := if (List.finRange 20).any (overdue checks) then s.lif.status ||| 0x400 else s.lif.status } :=
  foldl_actFinal_lif checks (List.finRange 20) s

/-! ### The end of a DARK phase (R73) -/

theorem endDark_dark (h : s.fls.phase = .dark rate n) :
    endDark s = refreshDemands { s with fls := s.fls.beginLit s.crs.flashSet } := by
  unfold endDark
  rw [h]

theorem endDark_other (h : ∀ rate n, s.fls.phase ≠ .dark rate n) : endDark s = s := by
  unfold endDark
  cases hp : s.fls.phase with
  | lit rate n checks => rfl
  | dark rate n => exact absurd hp (h rate n)
  | idle => rfl

end

section
variable {s : State} (hawake : Awake s)
include hawake

theorem exec_litExpiry : exec .litExpiry s = after (endLit s) := act_run hawake _

theorem exec_darkExpiry : exec .darkExpiry s = after (endDark s) := act_run hawake _

theorem exec_tickPulseEnd : exec .tickPulseEnd s = after { s with fls := { s.fls with tickPulse := none } } :=
  act_run hawake fun s => { s with fls := { s.fls with tickPulse := none } }

end

/-- Settles O33: the Flasher handed its indication, and the two ends of a phase. -/
theorem phaseExpiries : Obligations.PhaseExpiries := by
  refine ⟨fun s => ⟨indicate_eq s, syncFlasher_start, syncFlasher_stop, syncFlasher_stands⟩, fun s hawake => ?_⟩
  intro period pulse
  refine ⟨fun hnot => ?_, fun hnot => ?_, fun rate n checks h => ?_, fun rate n h => ?_, exec_tickPulseEnd hawake⟩
  · rw [exec_litExpiry hawake, endLit_other hnot]
  · rw [exec_darkExpiry hawake, endDark_other hnot]
  · intro fails fast
    have hfls : (refreshDemands (litEnded rate checks s)).fls = (litEnded rate checks s).fls :=
      refreshDemands_fls (uncounted_dark rfl)
    refine ⟨{ s with chd := (litEnded rate checks s).chd, lif := (litEnded rate checks s).lif },
      refreshDemands (litEnded rate checks s), ?_, ?_, rfl, ?_, hfls, fun ch => ?_, ?_, ?_⟩
    · rw [exec_litExpiry hawake, endLit_lit h]
    · exact outputsAside_trans outputsAside_litEnded (outputsAside_refreshDemands _)
    · rw [refreshDemands_crs, litEnded_eq]
    · rw [refreshDemands_openLoadFlag]
      exact litEnded_flag ch
    · dsimp only
      rw [litEnded_lif]
    · exact congrArg LinkIf.status (litEnded_lif (rate := rate))
  · have hfls := refreshDemands_fls (s := { s with fls := s.fls.beginLit s.crs.flashSet })
      (uncounted_begun (rate := s.fls.rateSet) (n := litTime s.fls.rateSet s.fls.fast) (flashSet := s.crs.flashSet)
        (congrArg Flasher.phase (beginLit_eq ..)))
    refine ⟨refreshDemands { s with fls := s.fls.beginLit s.crs.flashSet }, ?_, ?_, ?_, ?_⟩
    · rw [exec_darkExpiry hawake, endDark_dark h]
    · refine outputsAside_trans (t := { s with fls := s.fls.beginLit s.crs.flashSet }) ?_ (outputsAside_refreshDemands _)
      exact ⟨rfl, rfl, rfl, rfl, rfl, rfl, rfl, rfl, rfl, rfl, rfl, rfl, rfl⟩
    · rw [refreshDemands_crs]
    · rw [hfls]
      exact beginLit_eq ..

end Sys2Proof.Machine

/-! PROOFS. The bulb check (R74–R76, R102): O34. -/

namespace Sys2Proof.Machine

/-! ### One entry of the check list -/

theorem check_modifyCheck (ch k : Chan) (f : CheckEntry → CheckEntry) (p : Phase) :
    (p.modifyCheck ch f).check k = if ch = k then (p.check k).map f else p.check k := by
  cases p with
  | lit rate n checks =>
    change (upd checks ch _).get k = if ch = k then (checks.get k).map f else checks.get k
    rw [upd_get]
    split
    · next h => rw [h]
    · rfl
  | dark rate n => exact (ite_self _).symm
  | idle => exact (ite_self _).symm

/-- A verdict given stands while a channel's record changes. -/
theorem check_uncounted {f : Flasher} {ch k : Chan} {v : CheckEntry} (hv : v.discard = v)
    (h : f.phase.check k = some v) : (f.uncounted ch).phase.check k = some v := by
  rw [uncounted_eq]
  dsimp only
  rw [check_modifyCheck, h]
  split
  · exact congrArg some hv
  · rfl

section
variable {s : State} {k : Chan} {v : CheckEntry} (hv : v.discard = v)
include hv

theorem check_refreshDemand (h : s.fls.phase.check k = some v) (ch : Chan) :
    (refreshDemand s ch).fls.phase.check k = some v := by
  unfold refreshDemand
  dsimp only
  split
  · exact h
  · obtain ⟨-, -, -, hfls | hfls⟩ := oneChannel_handDemand ch (channelDemand s ch) s
    · rw [hfls]
      exact h
    · rw [hfls]
      exact check_uncounted hv h

theorem check_foldl_refreshDemand (cs : List Chan) (h : s.fls.phase.check k = some v) :
    (cs.foldl refreshDemand s).fls.phase.check k = some v := by
  induction cs generalizing s with
  | nil => exact h
  | cons c cs ih => exact ih (check_refreshDemand hv h c)

theorem check_refreshDemands (h : s.fls.phase.check k = some v) : (refreshDemands s).fls.phase.check k = some v := by
  unfold refreshDemands
  exact check_foldl_refreshDemand hv _ h

end

/-! ### The reading (R75, R76) -/

theorem readingVerdict_eq (c : Channel) :
    readingVerdict c = if decide (c.profile.openLoad ≤ c.measured) then .pass else .fail := by
  unfold readingVerdict
  simp only [decide_eq_true_eq]

/-- The state once the reading's verdict stands and has acted, the demands aside. -/
def judged (ch : Chan) (v : CheckEntry) (s : State) : State :=
  actVerdict ch v { s with fls := { s.fls with phase := s.fls.phase.modifyCheck ch fun _ => v } }

section
variable {s : State} {ch : Chan} (hawake : Awake s)
include hawake

theorem exec_bulbCheckReading_idle (h : ∀ joined time, s.fls.phase.check ch ≠ some (.pending joined time)) :
    exec (.bulbCheckReading ch) s = after s := by
  change execBulbCheckReading ch s = _
  unfold execBulbCheckReading
  rw [act_run hawake]
  refine congrArg (fun t => Host.Outcome.next (settleTimer t)) ?_
  cases hc : s.fls.phase.check ch with
  | none => rfl
  | some e =>
    cases e with
    | pending joined time => exact absurd hc (h joined time)
    | pass | fail | unjudged => rfl

theorem exec_bulbCheckReading_pending {joined : Bool} {time : Nat}
    (h : s.fls.phase.check ch = some (.pending joined time)) : exec (.bulbCheckReading ch) s
      = after (if (s.chd.get ch).state.isOn then refreshDemands (judged ch (readingVerdict (s.chd.get ch)) s) else s) := by
  change execBulbCheckReading ch s = _
  unfold execBulbCheckReading
  rw [act_run hawake]
  refine congrArg (fun t => Host.Outcome.next (settleTimer t)) ?_
  dsimp only
  rw [h] <;> rfl

theorem exec_bulbCheckReading_off (h : ∀ n, (s.chd.get ch).state ≠ .on n) : exec (.bulbCheckReading ch) s = after s := by
  have hoff : (s.chd.get ch).state.isOn = false := by
    cases hst : (s.chd.get ch).state with
    | on n => exact absurd hst (h n)
    | off | softstart _ | tripped _ | locked _ => rfl
  by_cases hp : ∃ joined time, s.fls.phase.check ch = some (.pending joined time)
  · obtain ⟨joined, time, hp⟩ := hp
    rw [exec_bulbCheckReading_pending hawake hp, hoff]
    rfl
  · exact exec_bulbCheckReading_idle hawake fun joined time hc => hp ⟨joined, time, hc⟩

end

/-- What a verdict changes, PASS and FAIL apart: the list's entry, the open-load flag and status OPEN_LOAD. -/
theorem judged_eq (ch : Chan) (passes : Bool) (s : State) :
    judged ch (if passes then .pass else .fail) s = { s with
      fls := { s.fls with phase := s.fls.phase.modifyCheck ch fun _ => if passes then .pass else .fail }
      chd := upd s.chd ch fun c => { c with openLoadFlag := !passes }
      lif := if passes then s.lif else { s.lif with status := s.lif.status ||| 0x400 } } := by
  cases passes with
  | true => rfl
  | false => rfl

section
variable (s : State) (ch : Chan) (passes : Bool)

theorem judged_check {joined : Bool} {time : Nat} (h : s.fls.phase.check ch = some (.pending joined time)) :
    (judged ch (if passes then .pass else .fail) s).fls.phase.check ch = some (if passes then .pass else .fail) := by
  rw [judged_eq]
  dsimp only
  rw [check_modifyCheck, if_pos rfl, h]
  rfl

theorem judged_flag (k : Chan) : ((judged ch (if passes then .pass else .fail) s).chd.get k).openLoadFlag
    = if k = ch then !passes else (s.chd.get k).openLoadFlag := by
  rw [judged_eq]
  dsimp only
  rw [upd_get]
  by_cases hk : k = ch
  · rw [if_pos hk.symm, if_pos hk]
  · rw [if_neg (Ne.symm hk), if_neg hk]

theorem outputsAside_judged : OutputsAside
    { s with
      chd := (judged ch (if passes then .pass else .fail) s).chd
      lif := (judged ch (if passes then .pass else .fail) s).lif }
    (judged ch (if passes then .pass else .fail) s) := by
  rw [judged_eq]
  exact ⟨rfl, rfl, rfl, rfl, rfl, rfl, rfl, rfl, rfl, rfl, rfl, rfl, rfl⟩

end

/-! ### Joiners and leavers (R74) -/

theorem follow_check (s : State) (ch : Chan) {rate n : Nat} {checks : Vector (Option CheckEntry) 20}
    (h : s.fls.phase = .lit rate n checks) : (reformFlashSet s).fls.phase.check ch
      = if flashes s ch && !s.crs.flashSet.get ch then some (.pending true 0)
        else if s.crs.flashSet.get ch && !flashes s ch then none else checks.get ch := by
  unfold reformFlashSet
  dsimp only
  rw [h, Phase.follow, Phase.check, tabulate_get, tabulate_get]

/-- Settles O34: the reading's verdict, the channels that join and leave, and the time counted. -/
theorem bulbCheckRule : Obligations.BulbCheckRule := by
  refine ⟨fun s ch hawake => ⟨exec_bulbCheckReading_idle hawake, exec_bulbCheckReading_off hawake,
    fun joined time n hp hon => ?_⟩, fun s ch => ?_, fun s ch f joined time hp => ?_⟩
  · intro passes
    have hverdict : (if passes then CheckEntry.pass else .fail).discard = if passes then .pass else .fail := by
      cases passes with
      | true => rfl
      | false => rfl
    refine ⟨{ s with
        chd := (judged ch (if passes then .pass else .fail) s).chd
        lif := (judged ch (if passes then .pass else .fail) s).lif },
      refreshDemands (judged ch (if passes then .pass else .fail) s), ?_, ?_, rfl, ?_, ?_, fun k => ?_, ?_⟩
    · rw [exec_bulbCheckReading_pending hawake hp, readingVerdict_eq, hon]
      exact congrArg after (if_pos rfl)
    · exact outputsAside_trans (outputsAside_judged s ch passes) (outputsAside_refreshDemands _)
    · rw [refreshDemands_crs, judged_eq]
    · exact check_refreshDemands hverdict (judged_check s ch passes hp)
    · rw [refreshDemands_openLoadFlag, judged_flag]
    · rw [judged_eq]
  · intro t
    refine ⟨reformFlashSet_member s ch, ?_, fun rate n checks h => ?_⟩
    · rw [chd_reformFlashSet]
      cases s.crs.flashSet.get ch <;> cases flashes s ch <;> rfl
    · rw [follow_check s ch h]
      cases s.crs.flashSet.get ch <;> cases flashes s ch <;> rfl
  · rw [modifyChannel_eq]
    dsimp only
    split
    · exact hp
    · rw [uncounted_eq]
      dsimp only
      rw [check_modifyCheck, if_pos rfl, hp]
      rfl

end Sys2Proof.Machine

/-! PROOFS. The records that a scan brings up to date (R111, R112, R114): O42. -/

namespace Sys2Proof.Machine

/-! ### What acceptances leave of the switches -/

section
variable (s : State)

theorem resumeRun_sws : (resumeRun s).1.sws = s.sws := by
  rw [resumeRun_eq, enterRun_sws, requestPass_sws, (move_refitted s).sws]
  rfl

theorem acceptIgnition_sws : (acceptIgnition s).sws = s.sws := by
  unfold acceptIgnition
  split
  · split
    · simp
    · simp
  · simp

theorem acceptStart_sws : (acceptStart s).sws = s.sws := by
  unfold acceptStart
  split
  · split
    · simp
    · rfl
  · simp

theorem handAcceptance_sws (g : GroupIx) : (handAcceptance s g).sws = s.sws := by
  have hwoken : (if (restartTimer s).mdc.mode = .sleep then wake (restartTimer s) else restartTimer s).sws = s.sws := by
    split
    · simp
    · simp
  unfold handAcceptance
  dsimp only
  generalize (if (restartTimer s).mdc.mode = .sleep then wake (restartTimer s) else restartTimer s) = u at hwoken ⊢
  have hresumed : (if g = ign ∧ ignitionOn u = true ∧ u.mdc.mode = .quiesced then (resumeRun (abandonLoad u)).1
      else u).sws = s.sws := by
    split
    · rw [resumeRun_sws, abandonLoad_sws, hwoken]
    · exact hwoken
  generalize (if g = ign ∧ ignitionOn u = true ∧ u.mdc.mode = .quiesced then (resumeRun (abandonLoad u)).1
    else u) = v at hresumed ⊢
  split
  · rw [acceptIgnition_sws, hresumed]
  · split
    · rw [acceptStart_sws, hresumed]
    · exact hresumed

theorem foldl_handAcceptance_sws (gs : List GroupIx) : (gs.foldl handAcceptance s).sws = s.sws := by
  induction gs generalizing s with
  | nil => rfl
  | cons g gs ih => rw [List.foldl_cons, ih, handAcceptance_sws]

end

/-- A scan outside LOADING leaves the definitions and brings the records up to date. -/
theorem scan_sws {levels : BitVec 26} {s : State} (hawake : Awake s) (h : s.mdc.mode ≠ .loading) :
    ∃ t, exec (.switchScan levels) s = .next t
      ∧ t.sws = { s.sws with recs := mapTbl Prod.fst (scanRecs s levels), levels := levels } := by
  refine ⟨_, exec_switchScan hawake h, ?_⟩
  rw [settleTimer_sws, beginRequested_sws, foldl_handAcceptance_sws]
  split
  · rfl
  · rfl

/-! ### The raw code (R112) -/

/-- The bits of a sum of distinct powers of two. -/
theorem sum_powers_bits (b : Nat → Bool) (w : Nat) :
    ((List.range w).map fun i => if b i then 2 ^ i else 0).sum < 2 ^ w
      ∧ ∀ i, (((List.range w).map fun i => if b i then 2 ^ i else 0).sum).testBit i = (decide (i < w) && b i) := by
  induction w with
  | zero => simp
  | succ w ih =>
    obtain ⟨hlt, hbits⟩ := ih
    rw [List.range_succ, List.map_append, List.sum_append, List.map_singleton, List.sum_singleton]
    generalize ((List.range w).map fun i => if b i then 2 ^ i else 0).sum = n at hlt hbits
    refine ⟨?_, fun i => ?_⟩
    · rw [Nat.pow_succ]
      split
      · omega
      · omega
    · cases hb : b w with
      | false =>
        rw [if_neg (by decide), Nat.add_zero, hbits]
        by_cases hi : i = w
        · simp [hi, hb]
        · have : i < w + 1 ↔ i < w := by omega
          simp [this]
      | true =>
        rw [if_pos rfl, Nat.add_comm]
        rcases Nat.lt_trichotomy i w with hi | hi | hi
        · rw [Nat.testBit_two_pow_add_gt hi, hbits]
          simp [hi, Nat.lt_succ_of_lt hi]
        · subst hi
          rw [Nat.testBit_two_pow_add_eq, hbits]
          simp [hb]
        · have hover : 2 ^ w + n < 2 ^ i := calc
            2 ^ w + n < 2 ^ (w + 1) := by rw [Nat.pow_succ]; omega
            _ ≤ 2 ^ i := Nat.pow_le_pow_right (by decide) hi
          rw [Nat.testBit_lt_two_pow hover]
          simp [show ¬i < w + 1 by omega]

theorem activeInput_eq (p : Polarity) (level : Bool) : activeInput p level = (level == decide (p = .activeHigh)) := by
  cases p <;> cases level <;> rfl

theorem rawCode_bits (d : GroupDef) (levels : BitVec 26) (i : Nat) (hi : i < 4) :
    (rawCode d levels).getLsbD i
      = (decide (i < d.width) && (levels.getLsbD (d.first + i) == decide (d.polarity = .activeHigh))) := by
  obtain ⟨-, hbits⟩ := sum_powers_bits (fun i => activeInput d.polarity (levels.getLsbD (d.first + i))) d.width
  rw [rawCode, BitVec.getLsbD_ofNat, hbits, activeInput_eq, decide_eq_true hi, Bool.true_and]

/-! ### A group's record (R114) -/

section
variable {n : Nat} {raw : BitVec 4} {r : GroupRec}

theorem scan_accepts_iff : (r.scan n raw).2 = true
    ↔ r.accepted ≠ some raw ∧ n ≤ if r.candidate = some raw then r.run + 1 else 1 := by
  unfold GroupRec.scan
  dsimp only
  by_cases hacc : r.accepted = some raw
  · simp [hacc]
  · rw [if_neg hacc]
    by_cases hn : n ≤ if r.candidate = some raw then r.run + 1 else 1
    · rw [if_pos hn]
      simp [hacc, hn]
    · rw [if_neg hn]
      simp [hn]

theorem scan_stands (h : r.accepted = some raw) :
    (r.scan n raw).1 = { accepted := r.accepted, raw := some raw, candidate := none, run := 0 } := by
  unfold GroupRec.scan
  dsimp only
  rw [if_pos h]

theorem scan_moves (h : r.accepted ≠ some raw) : (r.scan n raw).1
    = if n ≤ (if r.candidate = some raw then r.run + 1 else 1) then
        { accepted := some raw, raw := some raw, candidate := none, run := 0 }
      else { accepted := r.accepted, raw := some raw, candidate := some raw
             run := if r.candidate = some raw then r.run + 1 else 1 } := by
  unfold GroupRec.scan
  dsimp only
  rw [if_neg h]
  generalize (if r.candidate = some raw then r.run + 1 else 1) = run
  split
  · rfl
  · rfl

end

theorem scanRecs_get (s : State) (levels : BitVec 26) (g : GroupIx) : (scanRecs s levels).get g
    = (s.sws.recs.get g).scan (groupDef s g).debounce (rawCode (groupDef s g) levels) := tabulate_get ..

/-- The definition that a group is read under, from the clauses that name it (R112). -/
theorem groupDef_of {s : State} {g : GroupIx} {d : GroupDef} (hgroup : ∀ i : Fin 16, g.val = i.val → d = s.sws.defs.get i)
    (hign : g = ign → d = { first := 24, width := 1, polarity := .activeHigh, debounce := 4 })
    (hstart : g = start → d = { first := 25, width := 1, polarity := .activeHigh, debounce := 4 }) : groupDef s g = d := by
  unfold groupDef
  by_cases h : g.val < 16
  · rw [dif_pos h, hgroup ⟨g.val, h⟩ rfl]
  · rw [dif_neg h, fixedGroup]
    by_cases hg : g = ign
    · rw [if_pos hg, hign hg]
    · have hlast : g = start := by
        have hne : g.val ≠ 16 := fun h16 => hg (Fin.ext h16)
        exact Fin.ext (by change g.val = 17; omega)
      rw [if_neg hg, hstart hlast]

/-- Settles O42: the record of each group after a scan. -/
theorem scanRecords : Obligations.ScanRecords := by
  intro levels s hawake
  refine ⟨exec_switchScan_loading hawake, fun hmode => ?_⟩
  obtain ⟨t, hexec, hsws⟩ := scan_sws (levels := levels) hawake hmode
  refine ⟨t, hexec, by rw [hsws], by rw [hsws], fun g d hgroup hign hstart _ => ?_⟩
  intro old
  have hdef := groupDef_of hgroup hign hstart
  have hget : t.sws.recs.get g = ((scanRecs s levels).get g).1 := by rw [hsws, mapTbl_get]
  rw [hget, scanRecs_get, hdef]
  exact ⟨rawCode d levels, fun i hi => rawCode_bits d levels i hi, rfl, scan_accepts_iff, scan_stands, scan_moves⟩

end Sys2Proof.Machine

/-! PROOFS. The group requests (R128–R130): O44. -/

namespace Sys2Proof.Machine

theorem exec_groupRead (p : List Byte) (s : State) : exec (.groupRead p) s = serve .groupRead groupRead p s := rfl

theorem exec_groupWrite (p : List Byte) (s : State) : exec (.groupWrite p) s = serve .groupWrite groupWrite p s := rfl

/-! ### GROUP.READ (R128) -/

/-- The codes, the run and the levels of GROUP.READ (R172). -/
def groupRecordBytes (s : State) (g : GroupIx) : List Byte :=
  let r := s.sws.recs.get g
  [groupCodeByte r.accepted, groupCodeByte r.raw, groupCodeByte r.candidate, byte r.run,
   byte (s.sws.levels.toNat / 2 ^ 24), byte (s.sws.levels.toNat / 2 ^ 16), byte (s.sws.levels.toNat / 2 ^ 8),
   byte s.sws.levels.toNat]

theorem groupFields_eq (s : State) (g : GroupIx) : groupFields s g = groupDefBytes s g ++ groupRecordBytes s g := by
  have hhigh : s.sws.levels.toNat / 65536 / 256 = s.sws.levels.toNat / 2 ^ 24 := Nat.div_div_eq_div_mul ..
  unfold groupFields levelBytes be16
  dsimp only
  rw [hhigh, List.append_assoc]
  rfl

theorem groupDefBytes_group (s : State) (i : Fin 16) :
    groupDefBytes s (i.castLE (by decide)) = groupBytes (s.sws.defs.get i) := by
  have hdef : groupDef s (i.castLE (by decide)) = s.sws.defs.get i := dif_pos i.isLt
  rw [groupDefBytes, if_pos (show (i.castLE (by decide) : GroupIx).val < 16 from i.isLt), hdef]

theorem groupDefBytes_fixed (s : State) {g : GroupIx} (h : g = ign ∨ g = start) :
    groupDefBytes s g = [Config.fixedFirstInput g, 1, 1, 4] := by
  rcases h with rfl | rfl
  · rfl
  · rfl

section
variable {group : Byte} {s : State}

theorem groupRead_noGroup (h : 17 < group.toNat) : groupRead [group] s = (s, { code := .badIndex, fields := [] }) :=
  dif_neg (by omega)

theorem groupRead_ok {g : GroupIx} (h : group.toNat = g.val) :
    groupRead [group] s = (s, { code := .ok, fields := groupDefBytes s g ++ groupRecordBytes s g }) := by
  have hg : (⟨group.toNat, by omega⟩ : GroupIx) = g := Fin.ext h
  rw [groupRead, dif_pos (by omega), hg, groupFields_eq]

end

/-! ### GROUP.WRITE (R129, R130) -/

section
variable {f w pol n : Byte}

theorem judgeGroup_badIndex (h : 23 < f.toNat) : judgeGroup [f, w, pol, n] = .error .badIndex := if_pos h

theorem judgeGroup_badPolarity (hf : f.toNat ≤ 23) (h : 1 < pol.toNat) :
    judgeGroup [f, w, pol, n] = .error .badRequest := (if_neg (by omega)).trans (if_pos h)

theorem judgeGroup_badWidth (hf : f.toNat ≤ 23) (hpol : pol.toNat ≤ 1)
    (h : w = 0 ∨ 4 < w.toNat ∨ 24 < f.toNat + w.toNat) : judgeGroup [f, w, pol, n] = .error .badTable :=
  (if_neg (by omega)).trans ((if_neg (by omega)).trans (if_pos h))

theorem judgeGroup_ok (hpol : pol.toNat ≤ 1) (hw : 1 ≤ w.toNat) (hw4 : w.toNat ≤ 4) (hfit : f.toNat + w.toNat ≤ 24) :
    judgeGroup [f, w, pol, n] = .ok ({ first := f.toNat, width := w.toNat
                                       polarity := if pol = 0 then .activeLow else .activeHigh
                                       debounce := clampNat 2 16 n.toNat }, clampNat 2 16 n.toNat != n.toNat) := by
  have hzero : w ≠ 0 := by rintro rfl; exact absurd hw (by decide)
  have hok : ¬(w = 0 ∨ 4 < w.toNat ∨ 24 < f.toNat + w.toNat) := by
    rintro (h | h | h)
    · exact hzero h
    · omega
    · omega
  exact (if_neg (by omega)).trans ((if_neg (by omega)).trans (if_neg hok))

theorem groupBytes_given {m : Nat} (hpol : pol.toNat ≤ 1) : groupBytes { first := f.toNat, width := w.toNat
                                                                         polarity := if pol = 0 then .activeLow else .activeHigh
                                                                         debounce := m } = [f, w, pol, byte m] := by
  have hcode : (if pol = 0 then Polarity.activeLow else .activeHigh).code = pol := by
    have hpols : pol = 0 ∨ pol = 1 := by bv_omega
    rcases hpols with rfl | rfl
    · rfl
    · rfl
  unfold groupBytes
  dsimp only
  rw [hcode, byte_of_toNat, byte_of_toNat]

end

section
variable {group : Byte} {bytes : List Byte} {s : State}

theorem groupWrite_mode (h : s.mdc.mode ≠ .quiesced) (p : List Byte) :
    groupWrite p s = (s, { code := .wrongMode, fields := [] }) := if_pos h

theorem groupWrite_busy (hmode : s.mdc.mode = .quiesced) (h : s.mdc.op ≠ .none) (p : List Byte) :
    groupWrite p s = (s, { code := .storeBusy, fields := [] }) :=
  (if_neg (not_not_intro hmode)).trans (if_pos ((storeBusy_iff s).mpr h))

variable (hmode : s.mdc.mode = .quiesced) (hop : s.mdc.op = .none) (hlen : bytes.length = 4)
include hmode hop hlen

theorem groupWrite_noGroup (h : 15 < group.toNat) :
    groupWrite (group :: bytes) s = (s, { code := .badIndex, fields := [] }) := by
  rw [groupWrite, if_neg (not_not_intro hmode), if_neg (mt (storeBusy_iff s).mp (not_not_intro hop)),
    if_neg (not_not_intro hlen), dif_neg (by omega)]
  rfl

theorem groupWrite_refused {e : ReplyCode} (h : group.toNat < 16) (hjudged : judgeGroup bytes = .error e) :
    groupWrite (group :: bytes) s = (s, { code := e, fields := [] }) := by
  rw [groupWrite, if_neg (not_not_intro hmode), if_neg (mt (storeBusy_iff s).mp (not_not_intro hop)),
    if_neg (not_not_intro hlen), dif_pos h, hjudged]
  rfl

theorem groupWrite_stored {i : Fin 16} {d : GroupDef} {clamped : Bool} (h : group.toNat = i.val)
    (hjudged : judgeGroup bytes = .ok (d, clamped)) :
    groupWrite (group :: bytes) s = (defineGroup i d s, { code := okOr clamped, fields := groupBytes d }) := by
  have hi : (⟨group.toNat, by omega⟩ : Fin 16) = i := Fin.ext h
  rw [groupWrite, if_neg (not_not_intro hmode), if_neg (mt (storeBusy_iff s).mp (not_not_intro hop)),
    if_neg (not_not_intro hlen), dif_pos (by omega), hjudged, hi]

end

theorem clampNat_debounce (n : Nat) : clampNat 2 16 n = max 2 (min 16 n) := rfl

/-- Settles O44: the two requests of a group. -/
theorem groupRequests : Obligations.GroupRequests := by
  unfold Obligations.GroupRequests
  intro code record
  have hrecord (s : State) (g : GroupIx) : groupRecordBytes s g = record s g := by
    have hcode (o : Option (BitVec 4)) : groupCodeByte o = code o := by cases o <;> rfl
    unfold groupRecordBytes
    simp only [hcode]
    rfl
  refine ⟨fun group s h => ⟨fun hbad => ?_, fun i hi => ?_, fun g hg hfixed => ?_⟩, ?_⟩
  · exact (exec_groupRead ..).trans (serve_handed h (groupRead_noGroup hbad))
  · intro d
    refine (exec_groupRead ..).trans (serve_handed h ((groupRead_ok (g := i.castLE (by decide)) hi).trans ?_))
    rw [groupDefBytes_group, hrecord]
    rfl
  · refine ⟨Config.fixedFirstInput g, (exec_groupRead ..).trans (serve_handed h ((groupRead_ok hg).trans ?_))⟩
    rw [groupDefBytes_fixed s hfixed, hrecord]
  · intro group f w pol n s p h
    refine ⟨fun hmode => ?_, fun hmode hop => ?_, fun hmode hop => ⟨fun hbad => ?_, fun hgroup hf hbad => ?_,
      fun hgroup hf hpol hbad => ?_, fun i hi hpol hw hw4 hfit => ?_⟩⟩
    · exact (exec_groupWrite ..).trans (serve_handed h (groupWrite_mode hmode p))
    · exact (exec_groupWrite ..).trans (serve_handed h (groupWrite_busy hmode hop p))
    · refine (exec_groupWrite ..).trans (serve_handed h ?_)
      by_cases hgroup : 15 < group.toNat
      · exact groupWrite_noGroup hmode hop rfl hgroup
      · exact groupWrite_refused hmode hop rfl (by omega) (judgeGroup_badIndex (hbad.resolve_left hgroup))
    · exact (exec_groupWrite ..).trans (serve_handed h
        (groupWrite_refused hmode hop rfl (by omega) (judgeGroup_badPolarity hf hbad)))
    · exact (exec_groupWrite ..).trans (serve_handed h
        (groupWrite_refused hmode hop rfl (by omega) (judgeGroup_badWidth hf hpol hbad)))
    · intro m
      refine (exec_groupWrite ..).trans (serve_handed h
        ((groupWrite_stored hmode hop rfl hi (judgeGroup_ok hpol hw hw4 hfit)).trans ?_))
      rw [okOr_ne, groupBytes_given hpol, clampNat_debounce] <;> rfl

end Sys2Proof.Machine

/-! PROOFS. The acceptances of a scan handed on: the walk over the groups, and what IGN and START bring (R115, R148). -/

namespace Sys2Proof.Machine

/-! ### What a crank and an entry to RUN leave -/

theorem noClaims_crankWalk (s : State) : noClaims (crankWalk s).clt = noClaims s.clt := by
  refine Keeps.foldl (P := fun u => noClaims u.clt = noClaims s.clt) (fun i u h => ?_) _ s rfl
  refine (noClaims_congr fun j => ?_).trans h
  have hclaim : claimAt (makeHeld i crankReasons u) j = _ := claimAt_makeHeld i j crankReasons u
  change (claimAt (makeHeld i crankReasons u) j).isSome = (claimAt u j).isSome
  rw [hclaim]
  split
  · next hij => rw [Option.isSome_map, hij]
  · rfl

theorem noClaims_beginCrank (s : State) : noClaims (beginCrank s).clt = noClaims s.clt := by
  by_cases h : s.sbu.crank = .cranking
  · rw [beginCrank_running h]
  · rw [beginCrank_begins h, setFlag_clt, withHandOver_clt, noClaims_crankWalk]

theorem beginCrank_lif {s : State} (h : s.sbu.crank ≠ .cranking) : (beginCrank s).lif = (setFlag .crank s).lif := by
  rw [beginCrank_begins h, setFlag_lif, withHandOver_lif, crankWalk_lif]
  rfl

/-- A status flag that is set stays set when a crank begins. -/
theorem hasFlag_beginCrank {f : Flag} {s : State} (hf : hasFlag f s = true) : hasFlag f (beginCrank s) = true := by
  by_cases h : s.sbu.crank = .cranking
  · rwa [beginCrank_running h]
  · rw [hasFlag_congr f (beginCrank_lif h), hasFlag_setFlag, hf, Bool.true_or]

theorem hasFlag_crank_beginCrank {s : State} (h : s.sbu.crank ≠ .cranking) : hasFlag .crank (beginCrank s) = true := by
  rw [hasFlag_congr .crank (beginCrank_lif h), hasFlag_setFlag, decide_eq_true rfl, Bool.or_true]

section
variable (b : Bool) {s : State}

theorem noClaims_enterRun (s : State) : noClaims (enterRun b s).clt = noClaims s.clt := by
  rw [(enterRun_clt_lif b s).1]
  unfold crankCheck
  split
  · rw [noClaims_beginCrank, entered_clt]
  · rw [entered_clt]

theorem hasFlag_enterRun {f : Flag} (hf : hasFlag f s = true) : hasFlag f (enterRun b s) = true := by
  have hentered : hasFlag f (entered b s) = true := by rwa [hasFlag_congr f (entered_lif b s)]
  rw [hasFlag_congr f (enterRun_clt_lif b s).2]
  unfold crankCheck
  split
  · exact hasFlag_beginCrank hentered
  · exact hentered

/-- An entry to RUN with START standing accepted at 1: a crank runs, and status CRANK tells of one that begins (R45). -/
theorem cranks_enterRun (hcode : acceptedCode s start = some 1) : (enterRun b s).sbu.crank = .cranking
    ∧ (s.sbu.crank ≠ .cranking → hasFlag .crank (enterRun b s) = true) := by
  refine ⟨by rw [enterRun_sbu, if_pos hcode], fun hcrank => ?_⟩
  have hcode' : acceptedCode (entered b s) start = some 1 := by rw [acceptedCode, entered_sws, ← hcode]; rfl
  have hcrank' : (entered b s).sbu.crank ≠ .cranking := by rw [entered_sbu]; cases b <;> exact hcrank
  rw [hasFlag_congr .crank (enterRun_clt_lif b s).2, crankCheck, if_pos hcode']
  exact hasFlag_crank_beginCrank hcrank'

end

/-! ### What IGN and START bring and leave (R46, R61, R148) -/

section
variable (s : State)

theorem acceptIgnition_frame : (acceptIgnition s).clt = s.clt ∧ (acceptIgnition s).sbu = s.sbu
    ∧ (acceptIgnition s).bde = s.bde ∧ (acceptIgnition s).lif = s.lif ∧ (acceptIgnition s).pins = s.pins
    ∧ (acceptIgnition s).crs.inForce = s.crs.inForce ∧ (acceptIgnition s).crs.pendingEntry = s.crs.pendingEntry := by
  unfold acceptIgnition
  split
  · split
    · simp
    · simp
  · simp

theorem gaugesOff_gau : (gaugesOff s).gau = mapTbl Gauge.turnOff s.gau := by simp [gaugesOff]

theorem gaugesActive_gau : (gaugesActive s).gau = mapTbl Gauge.activate s.gau := by simp [gaugesActive]

theorem acceptIgnition_off (h : ignitionOn s = false) : (acceptIgnition s).gau = mapTbl Gauge.turnOff s.gau := by
  unfold acceptIgnition
  rw [h, if_neg (by decide), gaugesOff_gau]

theorem acceptIgnition_on (h : ignitionOn s = true) (hrun : s.mdc.mode = .run) :
    (acceptIgnition s).gau = mapTbl Gauge.activate s.gau := by
  unfold acceptIgnition
  rw [if_pos h, if_pos hrun, gaugesActive_gau]

theorem acceptStart_frame : (acceptStart s).bde = s.bde ∧ (acceptStart s).gau = s.gau ∧ (acceptStart s).pins = s.pins
    ∧ (acceptStart s).lif.link = s.lif.link ∧ (acceptStart s).crs.inForce = s.crs.inForce
    ∧ (acceptStart s).crs.pendingEntry = s.crs.pendingEntry ∧ noClaims (acceptStart s).clt = noClaims s.clt
    ∧ (acceptStart s).sbu = { s.sbu with crank := (acceptStart s).sbu.crank } := by
  have hend : (endCrank s).sbu = { s.sbu with crank := (endCrank s).sbu.crank } := by
    unfold endCrank
    split
    · rfl
    · rfl
  unfold acceptStart
  split
  · split
    · simp [noClaims_beginCrank, beginCrank_sbu]
    · simp
  · exact ⟨by simp, by simp, by simp, by simp, by simp, by simp, by simp, hend⟩

theorem acceptStart_clt (h : s.mdc.mode ≠ .run) : (acceptStart s).clt = s.clt := by
  unfold acceptStart
  by_cases hcode : acceptedCode s start = some 1
  · rw [if_pos hcode, if_neg h]
  · rw [if_neg hcode, endCrank_clt]

variable {s}

theorem hasFlag_acceptStart {f : Flag} (hf : hasFlag f s = true) : hasFlag f (acceptStart s) = true := by
  unfold acceptStart
  split
  · split
    · exact hasFlag_beginCrank hf
    · exact hf
  · rwa [hasFlag_congr f (endCrank_lif s)]

theorem acceptStart_cranking (hcode : acceptedCode s start = some 1) (h : s.sbu.crank = .cranking) : acceptStart s = s := by
  unfold acceptStart
  rw [if_pos hcode, beginCrank_running h, ite_self]

end

/-! ### The walk over the groups that accept (R115) -/

/-- The sleep entry timer does not run or stands at its full time. -/
abbrev Prompt (s : State) : Prop := s.mdc.sleepTimer.map (fun _ => Config.sleepTime) = s.mdc.sleepTimer

theorem restartTimer_of_prompt {s : State} (h : Prompt s) : restartTimer s = s := by
  unfold restartTimer
  rw [h]

theorem prompt_restartTimer (s : State) : Prompt (restartTimer s) := by
  change (s.mdc.sleepTimer.map fun _ => Config.sleepTime).map (fun _ => Config.sleepTime)
    = s.mdc.sleepTimer.map fun _ => Config.sleepTime
  cases s.mdc.sleepTimer with
  | none => rfl
  | some n => rfl

theorem Prompt.of_timer {s t : State} (h : t.mdc.sleepTimer = s.mdc.sleepTimer) (hs : Prompt s) : Prompt t := by
  unfold Prompt
  rw [h, hs]

/-- IGN's acceptance by a part that is awake: at 1 in QUIESCED it forces RESUME, a load in flight abandoned (R184). -/
def ignitionHanded (s : State) : State :=
  acceptIgnition (if ignitionOn s = true ∧ s.mdc.mode = .quiesced then (resumeRun (abandonLoad s)).1 else s)

theorem resumeRun_mdc (s : State) : (resumeRun s).1.mdc = { s.mdc with mode := .run } := by
  rw [resumeRun_eq, enterRun_mdc, requestPass_mdc, refitted_mdc]

theorem resumed_timer (s : State) : (resumeRun (abandonLoad s)).1.mdc.sleepTimer = s.mdc.sleepTimer := by
  rw [resumeRun_mdc]
  unfold abandonLoad
  split
  · rfl
  · rfl

section
variable {s : State}

theorem ignitionHanded_awake (hmode : s.mdc.mode ≠ .sleep) : (ignitionHanded s).mdc.mode ≠ .sleep := by
  unfold ignitionHanded
  rw [acceptIgnition_mdc]
  split
  · rw [resumeRun_mdc]
    exact fun h => nomatch h
  · exact hmode

theorem ignitionHanded_prompt (h : Prompt s) : Prompt (ignitionHanded s) := by
  refine h.of_timer ?_
  unfold ignitionHanded
  rw [acceptIgnition_mdc]
  split
  · exact resumed_timer s
  · rfl

theorem handAcceptance_restarted (g : GroupIx) : handAcceptance (restartTimer s) g = handAcceptance s g := by
  unfold handAcceptance
  rw [restartTimer_of_prompt (prompt_restartTimer s)]

variable (hprompt : Prompt s) (hmode : s.mdc.mode ≠ .sleep)
include hprompt hmode

theorem handAcceptance_plain {g : GroupIx} (hign : g ≠ ign) (hstart : g ≠ start) : handAcceptance s g = s := by
  unfold handAcceptance
  rw [restartTimer_of_prompt hprompt]
  dsimp only
  rw [if_neg hmode, if_neg hign, if_neg hstart, if_neg fun h => hign h.1]

theorem handAcceptance_ignition : handAcceptance s ign = ignitionHanded s := by
  unfold handAcceptance ignitionHanded
  rw [restartTimer_of_prompt hprompt]
  dsimp only
  rw [if_neg hmode, if_pos rfl]
  simp only [true_and]

theorem handAcceptance_starter : handAcceptance s start = acceptStart s := by
  rw [handAcceptance_start hmode, restartTimer_of_prompt hprompt]

theorem foldl_plain (gs : List GroupIx) (hgs : ∀ g ∈ gs, g ≠ ign ∧ g ≠ start) : gs.foldl handAcceptance s = s := by
  induction gs with
  | nil => rfl
  | cons g gs ih =>
    obtain ⟨hign, hstart⟩ := hgs g List.mem_cons_self
    rw [List.foldl_cons, handAcceptance_plain hprompt hmode hign hstart, ih fun k hk => hgs k (List.mem_cons_of_mem _ hk)]

end

/-- What the acceptances of a scan make of a state: first IGN's, if it accepts, then START's. -/
def accepted (ignites starts : Bool) (s : State) : State :=
  let u := if ignites then ignitionHanded s else s
  if starts then acceptStart u else u

/-- IGN and START stand last among the groups. -/
theorem filter_groups (p : GroupIx → Bool) : (List.finRange 18).filter p
    = ((List.finRange 16).map (Fin.castLE (by decide))).filter p
      ++ ((if p ign then [ign] else []) ++ if p start then [start] else []) := by
  have hgroups : List.finRange 18 = ((List.finRange 16).map (Fin.castLE (by decide)) ++ [ign, start] : List GroupIx) := by
    decide
  rw [hgroups, List.filter_append, List.filter_cons, List.filter_cons, List.filter_nil]
  refine congrArg (List.append _) ?_
  cases p ign <;> cases p start <;> rfl

theorem plain_group {p : GroupIx → Bool} {g : GroupIx}
    (hg : g ∈ ((List.finRange 16).map (Fin.castLE (by decide))).filter p) : g ≠ ign ∧ g ≠ start := by
  obtain ⟨i, -, rfl⟩ := List.mem_map.mp (List.mem_filter.mp hg).1
  exact ⟨Fin.ne_of_lt i.isLt, Fin.ne_of_lt (i.isLt.trans (by decide))⟩

theorem foldl_optional (b : Bool) (g : GroupIx) (u : State) :
    (if b then [g] else []).foldl handAcceptance u = if b then handAcceptance u g else u := by
  cases b with
  | false => rfl
  | true => rfl

theorem foldl_accepting {levels : BitVec 26} {s u : State} (hprompt : Prompt u) (hmode : u.mdc.mode ≠ .sleep) :
    (acceptingGroups levels s).foldl handAcceptance u
      = accepted ((scanRecs s levels).get ign).2 ((scanRecs s levels).get start).2 u := by
  rw [acceptingGroups, filter_groups, List.foldl_append, foldl_plain hprompt hmode _ (fun g => plain_group),
    List.foldl_append, foldl_optional,
    foldl_optional, handAcceptance_ignition hprompt hmode]
  unfold accepted
  dsimp only
  generalize hv : (if ((scanRecs s levels).get ign).2 = true then ignitionHanded u else u) = v
  have hready : Prompt v ∧ v.mdc.mode ≠ .sleep := by
    rw [← hv]
    split
    · exact ⟨ignitionHanded_prompt hprompt, ignitionHanded_awake hmode⟩
    · exact ⟨hprompt, hmode⟩
  rw [handAcceptance_starter hready.1 hready.2]

/-- The state that an acceptance finds: the timer set back, and a part in SLEEP woken (R187, R188). -/
def roused (s : State) : State := if s.mdc.mode = .sleep then wake (restartTimer s) else restartTimer s

theorem roused_ready (s : State) : Prompt (roused s) ∧ (roused s).mdc.mode ≠ .sleep := by
  unfold roused
  split
  · refine ⟨(prompt_restartTimer s).of_timer (by rw [wake_mdc]), ?_⟩
    rw [wake_mdc]
    exact fun h => nomatch h
  · next hmode => exact ⟨prompt_restartTimer s, hmode⟩

/-- The first acceptance is taken as by the part once roused. -/
theorem handAcceptance_roused (s : State) (g : GroupIx) : handAcceptance s g = handAcceptance (roused s) g := by
  unfold roused
  split
  · next hmode =>
    have hwoken : (wake (restartTimer s)).mdc.mode = .run := by rw [wake_mdc]
    have hprompt : Prompt (wake (restartTimer s)) := (prompt_restartTimer s).of_timer (by rw [wake_mdc])
    have hmode' : (restartTimer s).mdc.mode = .sleep := hmode
    have hnotsleep : ¬(wake (restartTimer s)).mdc.mode = .sleep := fun h => nomatch hwoken.symm.trans h
    unfold handAcceptance
    dsimp only
    rw [if_pos hmode', restartTimer_of_prompt hprompt, if_neg hnotsleep]
  · exact (handAcceptance_restarted g).symm

theorem foldl_roused {gs : List GroupIx} (hgs : gs ≠ []) (s : State) :
    gs.foldl handAcceptance s = gs.foldl handAcceptance (roused s) := by
  cases gs with
  | nil => exact absurd rfl hgs
  | cons g gs => rw [List.foldl_cons, List.foldl_cons, ← handAcceptance_roused]

/-! ### A scan at which a group accepts -/

section
variable {levels : BitVec 26} {s : State}

theorem acceptingGroups_isEmpty_iff :
    (acceptingGroups levels s).isEmpty = true ↔ ∀ g, ¬((scanRecs s levels).get g).2 = true := by
  rw [List.isEmpty_iff, acceptingGroups, List.filter_eq_nil_iff]
  simp

theorem exec_scan_quiet (hawake : Awake s) (hmode : s.mdc.mode ≠ .loading)
    (h : ∀ g, ¬((scanRecs s levels).get g).2 = true) :
    exec (.switchScan levels) s = after (beginRequested (scanned levels s)) := by
  have hempty : (acceptingGroups levels s).isEmpty = true := acceptingGroups_isEmpty_iff.mpr h
  rw [exec_switchScan hawake hmode, if_pos hempty, List.isEmpty_iff.mp hempty, List.foldl_nil]

theorem exec_scan_accepts (hawake : Awake s) (hmode : s.mdc.mode ≠ .loading)
    (h : ∃ g, ((scanRecs s levels).get g).2 = true) : exec (.switchScan levels) s
      = after (beginRequested (accepted ((scanRecs s levels).get ign).2 ((scanRecs s levels).get start).2
          (roused (requestPass (scanned levels s))))) := by
  have hsome : ¬(acceptingGroups levels s).isEmpty = true := by
    rw [acceptingGroups_isEmpty_iff]
    exact fun hnone => h.elim fun g hg => hnone g hg
  have hne : acceptingGroups levels s ≠ [] := fun hnil => hsome (List.isEmpty_iff.mpr hnil)
  obtain ⟨hprompt, hawake'⟩ := roused_ready (requestPass (scanned levels s))
  rw [exec_switchScan hawake hmode, if_neg hsome, foldl_roused hne, foldl_accepting hprompt hawake']

end

end Sys2Proof.Machine

/-! PROOFS. What acceptances bring in RUN, in SLEEP and in QUIESCED (R115, R126, R184, R187, R188): O43. -/

namespace Sys2Proof.Machine

/-! ### The acceptances but for a forced RESUME -/

/-- What IGN's and START's acceptances bring, no RESUME being forced. -/
def calmly (ignites starts : Bool) (s : State) : State :=
  let u := if ignites then acceptIgnition s else s
  if starts then acceptStart u else u

section
variable (a b : Bool) {s : State}

theorem accepted_calm (h : a = true → ¬(ignitionOn s = true ∧ s.mdc.mode = .quiesced)) : accepted a b s = calmly a b s := by
  unfold accepted calmly
  cases a with
  | false => rfl
  | true => rw [if_pos rfl, if_pos rfl, ignitionHanded, if_neg (h rfl)]

theorem accepted_resume (hon : ignitionOn s = true) (hmode : s.mdc.mode = .quiesced) :
    accepted true b s = calmly true b (resumeRun (abandonLoad s)).1 := by
  have hforced : (if ignitionOn s = true ∧ s.mdc.mode = .quiesced then (resumeRun (abandonLoad s)).1 else s)
      = (resumeRun (abandonLoad s)).1 := if_pos ⟨hon, hmode⟩
  unfold accepted calmly ignitionHanded
  simp only [↓reduceIte, hforced]

variable (s)

theorem calmly_frame : (calmly a b s).mdc = s.mdc ∧ (calmly a b s).bde = s.bde ∧ (calmly a b s).sws = s.sws
    ∧ (calmly a b s).lif.link = s.lif.link ∧ noClaims (calmly a b s).clt = noClaims s.clt
    ∧ (calmly a b s).sbu = { s.sbu with crank := (calmly a b s).sbu.crank }
    ∧ (calmly a b s).crs.inForce = s.crs.inForce ∧ (calmly a b s).crs.pendingEntry = s.crs.pendingEntry := by
  have hign : let u := if a then acceptIgnition s else s
      u.mdc = s.mdc ∧ u.bde = s.bde ∧ u.sws = s.sws ∧ u.lif.link = s.lif.link ∧ u.clt = s.clt ∧ u.sbu = s.sbu
        ∧ u.crs.inForce = s.crs.inForce ∧ u.crs.pendingEntry = s.crs.pendingEntry := by
    obtain ⟨hclt, hsbu, hbde, hlif, -, hin, hpend⟩ := acceptIgnition_frame s
    cases a with
    | false => exact ⟨rfl, rfl, rfl, rfl, rfl, rfl, rfl, rfl⟩
    | true => exact ⟨acceptIgnition_mdc s, hbde, acceptIgnition_sws s, congrArg LinkIf.link hlif, hclt, hsbu, hin, hpend⟩
  unfold calmly
  dsimp only at hign ⊢
  generalize (if a = true then acceptIgnition s else s) = u at hign
  obtain ⟨hmdc, hbde, hsws, hlink, hclt, hsbu, hin, hpend⟩ := hign
  obtain ⟨hbde', -, -, hlink', hin', hpend', hlive, hsbu'⟩ := acceptStart_frame u
  cases b with
  | false =>
    have hself : u.sbu = { s.sbu with crank := u.sbu.crank } := by rw [hsbu]
    exact ⟨hmdc, hbde, hsws, hlink, congrArg noClaims hclt, hself, hin, hpend⟩
  | true =>
    refine ⟨(acceptStart_mdc u).trans hmdc, hbde'.trans hbde, (acceptStart_sws u).trans hsws, hlink'.trans hlink,
      hlive.trans (congrArg noClaims hclt), hsbu'.trans ?_, hin'.trans hin, hpend'.trans hpend⟩
    rw [hsbu]
    rfl

theorem calmly_gau : (calmly a b s).gau = if a then (acceptIgnition s).gau else s.gau := by
  have hstart (u : State) : (if b then acceptStart u else u).gau = u.gau := by
    cases b with
    | false => rfl
    | true => exact (acceptStart_frame u).2.1
  unfold calmly
  rw [hstart]
  cases a with
  | false => rfl
  | true => rfl

theorem calmly_clt (h : s.mdc.mode ≠ .run) : (calmly a b s).clt = s.clt := by
  have hign : let u := if a then acceptIgnition s else s
      u.mdc = s.mdc ∧ u.clt = s.clt := by
    cases a with
    | false => exact ⟨rfl, rfl⟩
    | true => exact ⟨acceptIgnition_mdc s, (acceptIgnition_frame s).1⟩
  unfold calmly
  dsimp only at hign ⊢
  generalize (if a = true then acceptIgnition s else s) = u at hign
  cases b with
  | false => exact hign.2
  | true => exact (acceptStart_clt u (by rwa [hign.1])).trans hign.2

variable {s}

/-- With IGN's acceptance told, START's leaves a crank that runs, and every status flag set. -/
theorem calmly_ignition : let u := if a then acceptIgnition s else s
    u.sbu = s.sbu ∧ u.lif = s.lif ∧ u.sws = s.sws := by
  obtain ⟨-, hsbu, -, hlif, -⟩ := acceptIgnition_frame s
  cases a with
  | false => exact ⟨rfl, rfl, rfl⟩
  | true => exact ⟨hsbu, hlif, acceptIgnition_sws s⟩

theorem hasFlag_calmly {f : Flag} (hf : hasFlag f s = true) : hasFlag f (calmly a b s) = true := by
  obtain ⟨-, hlif, -⟩ := calmly_ignition a (s := s)
  unfold calmly
  dsimp only at hlif ⊢
  generalize (if a = true then acceptIgnition s else s) = u at hlif
  have hu : hasFlag f u = true := by rwa [hasFlag_congr f hlif]
  cases b with
  | false => exact hu
  | true => exact hasFlag_acceptStart hu

theorem calmly_cranking (hcode : acceptedCode s start = some 1) (hcrank : s.sbu.crank = .cranking) :
    (calmly a b s).sbu.crank = .cranking := by
  obtain ⟨hsbu, -, hsws⟩ := calmly_ignition a (s := s)
  unfold calmly
  dsimp only at hsbu hsws ⊢
  generalize (if a = true then acceptIgnition s else s) = u at hsbu hsws
  have hu : u.sbu.crank = .cranking := by rw [hsbu, hcrank]
  cases b with
  | false => exact hu
  | true =>
    have hsame : acceptStart u = u := acceptStart_cranking (by rw [acceptedCode, hsws]; exact hcode) hu
    rw [if_pos rfl, hsame, hu]

end

/-! ### The timer and the pass after a scan (R126, R187) -/

theorem settled_prompt {t : State} (h : Prompt t) :
    (settleTimer t).mdc.sleepTimer = if mayDoze t then some 30000 else none := by
  have hfull : t.mdc.sleepTimer.getD Config.sleepTime = 30000 := by
    unfold Prompt at h
    cases htimer : t.mdc.sleepTimer with
    | none => rfl
    | some n =>
      rw [htimer] at h
      exact (Option.some.inj h).symm
  unfold settleTimer
  rw [hfull]

/-- The conditions of the timer after a scan, in the words of R187. -/
theorem mayDoze_told {s t : State} {code : Option (BitVec 4)} (hmode : t.mdc.mode = .run)
    (hcode : acceptedCode t ign = code) (hlive : noClaims t.clt = noClaims s.clt) (hop : t.mdc.op = s.mdc.op)
    (hlink : t.lif.link = s.lif.link) : mayDoze t = true ↔ code = some 0 ∧ (∀ i, claimAt s i = none)
      ∧ (∀ image, s.mdc.op ≠ .save image) ∧ ∀ r, s.lif.link ≠ .working r := by
  have hsaving : saving t = false ↔ ∀ image, s.mdc.op ≠ .save image := by
    unfold saving
    rw [hop]
    cases s.mdc.op <;> simp
  rw [mayDoze_iff, hcode, hlive, noClaims_iff_claimAt, hsaving, hlink]
  simp only [hmode, true_and]

/-- The pass that a scan's acceptances request (R126). -/
def scanPass (levels : BitVec 26) (s : State) : Pass :=
  { next := 0, codes := tabulate fun g => ((scanRecs s levels).get g).1.accepted, gate := .none, chain := none
    touched := tabulate fun _ => false }

theorem freshPass_scanned {levels : BitVec 26} {s t : State} (h : t.sws = (scanned levels s).sws) :
    freshPass t = scanPass levels s := by
  have hcodes : mapTbl GroupRec.accepted t.sws.recs = tabulate fun g => ((scanRecs s levels).get g).1.accepted := by
    refine tbl_ext fun g => ?_
    rw [h, mapTbl_get, tabulate_get, scanned, mapTbl_get]
  unfold freshPass scanPass
  rw [hcodes]

theorem enterRun_bde (b : Bool) (s : State) : (enterRun b s).bde
    = if s.bde.pass = none ∧ s.bde.passRequested = true then
        { s.bde with pass := some (freshPass s), passRequested := false } else s.bde := by
  have hmode : (crankCheck (entered b s)).mdc.mode = .run := by simp
  have hbde : (crankCheck (entered b s)).bde = s.bde := by simp
  have hfresh : freshPass (crankCheck (entered b s)) = freshPass s := freshPass_congr (by simp)
  rw [enterRun_eq, beginRequested_bde, hbde, hfresh]
  simp only [hmode, true_and]

/-! ### The claims refitted at RESUME leave the other blocks (R184) -/

theorem foldl_retire_frame (xs : List SlotIx) (s : State) : (xs.foldl (fun s i => retire i s) s).sbu = s.sbu
    ∧ (xs.foldl (fun s i => retire i s) s).lif = s.lif ∧ (xs.foldl (fun s i => retire i s) s).pins = s.pins :=
  Keeps.foldl (P := fun u => u.sbu = s.sbu ∧ u.lif = s.lif ∧ u.pins = s.pins)
    (fun i u h => ⟨(retire_sbu i u).trans h.1, (retire_lif i u).trans h.2.1, (retire_pins i u).trans h.2.2⟩) xs s
    ⟨rfl, rfl, rfl⟩

theorem refitted_frame (s : State) : (refitted s).sbu = s.sbu ∧ (refitted s).lif = s.lif ∧ (refitted s).pins = s.pins := by
  obtain ⟨hsbu, hlif, hpins⟩ := foldl_retire_frame (strandedSlots (applyPending s)) (applyPending s)
  unfold refitted
  simp only [mapClaims_sbu, mapClaims_lif, mapClaims_pins, hsbu, hlif, hpins]
  exact ⟨rfl, rfl, rfl⟩

end Sys2Proof.Machine

/-! PROOFS. A scan's acceptances by the mode they find (R115, R126, R184, R187, R188): O43. -/

namespace Sys2Proof.Machine

/-! ### What the records of a scan leave of the state -/

/-- A state that a scan has brought up to date, a pass requested and the timer set back. -/
structure ScanBase (read s u : State) : Prop where
  bde : u.bde = { s.bde with passRequested := true }
  sbu : u.sbu = s.sbu
  clt : u.clt = s.clt
  lif : u.lif = s.lif
  gau : u.gau = s.gau
  crs : u.crs = s.crs
  sws : u.sws = read.sws
  senders : u.pins.senders = s.pins.senders
  supply : u.pins.supply = s.pins.supply
  mdc : u.mdc = { s.mdc with sleepTimer := u.mdc.sleepTimer }
  prompt : Prompt u

theorem scanned_frame (levels : BitVec 26) (s : State) : (scanned levels s).bde = s.bde ∧ (scanned levels s).sbu = s.sbu
    ∧ (scanned levels s).clt = s.clt ∧ (scanned levels s).lif = s.lif ∧ (scanned levels s).gau = s.gau
    ∧ (scanned levels s).crs = s.crs ∧ (scanned levels s).mdc = s.mdc
    ∧ (scanned levels s).pins.senders = s.pins.senders ∧ (scanned levels s).pins.supply = s.pins.supply := by
  simp [scanned]

theorem scanBase (levels : BitVec 26) (s : State) :
    ScanBase (scanned levels s) s (restartTimer (requestPass (scanned levels s))) := by
  obtain ⟨hbde, hsbu, hclt, hlif, hgau, hcrs, hmdc, hsenders, hsupply⟩ := scanned_frame levels s
  generalize scanned levels s = v at *
  exact {
    bde := by rw [← hbde]; rfl
    sbu := hsbu
    clt := hclt
    lif := hlif
    gau := hgau
    crs := hcrs
    sws := rfl
    senders := hsenders
    supply := hsupply
    mdc := by rw [← hmdc]; rfl
    prompt := prompt_restartTimer _ }

namespace ScanBase

variable {levels : BitVec 26} {s u : State} (h : ScanBase (scanned levels s) s u)
include h

theorem code (g : GroupIx) : acceptedCode u g = ((scanRecs s levels).get g).1.accepted := by
  rw [acceptedCode, h.sws]
  exact acceptedCode_scanned g

theorem mode : u.mdc.mode = s.mdc.mode := by rw [h.mdc]

theorem op : u.mdc.op = s.mdc.op := by rw [h.mdc]

end ScanBase

theorem ignitionOn_iff (s : State) : ignitionOn s = true ↔ acceptedCode s ign = some 1 := by simp [ignitionOn]

theorem ignitionOn_eq_false {s : State} (h : acceptedCode s ign ≠ some 1) : ignitionOn s = false := by
  rw [Bool.eq_false_iff]
  exact mt (ignitionOn_iff s).mp h

/-! ### The end of a scan in RUN -/

/-- A step's state that follows from one in RUN by the acceptances, a pass that begins and the timer settled. -/
structure Finished (a b : Bool) (r t : State) : Prop where
  mode : t.mdc.mode = .run
  op : t.mdc.op = r.mdc.op
  sbu : t.sbu = { r.sbu with crank := t.sbu.crank }
  gau : t.gau = if a then (acceptIgnition r).gau else r.gau
  bde : t.bde = if r.bde.pass = none ∧ r.bde.passRequested = true then
      { r.bde with pass := some (freshPass r), passRequested := false } else r.bde
  inForce : t.crs.inForce = r.crs.inForce
  pendingEntry : t.crs.pendingEntry = r.crs.pendingEntry
  flags : ∀ f, hasFlag f r = true → hasFlag f t = true
  crank : acceptedCode r start = some 1 → r.sbu.crank = .cranking → t.sbu.crank = .cranking
  timer : ∀ (s : State) (code : Option (BitVec 4)), acceptedCode r ign = code → noClaims r.clt = noClaims s.clt →
    r.mdc.op = s.mdc.op → r.lif.link = s.lif.link →
    let dozes := code = some 0 ∧ (∀ i, claimAt s i = none) ∧ (∀ image, s.mdc.op ≠ .save image)
      ∧ ∀ q, s.lif.link ≠ .working q
    (dozes → t.mdc.sleepTimer = some 30000) ∧ (¬dozes → t.mdc.sleepTimer = none)

theorem finished (a b : Bool) {r : State} (hrun : r.mdc.mode = .run) (hprompt : Prompt r) :
    Finished a b r (settleTimer (beginRequested (calmly a b r))) := by
  obtain ⟨hmdc, hbde, hsws, hlink, hlive, hsbu, hin, hpend⟩ := calmly_frame a b r
  have hgau := calmly_gau a b r
  have hflag (f : Flag) := hasFlag_calmly a b (s := r) (f := f)
  have hcrank := calmly_cranking a b (s := r)
  have hprompt' : Prompt (beginRequested (calmly a b r)) := hprompt.of_timer (by rw [beginRequested_mdc, hmdc])
  generalize calmly a b r = u at hmdc hbde hsws hlink hlive hsbu hin hpend hgau hflag hcrank hprompt' ⊢
  exact {
    mode := by rw [settleTimer_mode, beginRequested_mdc, hmdc, hrun]
    op := by rw [settleTimer_op, beginRequested_mdc, hmdc]
    sbu := by rw [settleTimer_sbu, beginRequested_sbu, ← hsbu]
    gau := by rw [settleTimer_gau, beginRequested_gau, hgau]
    bde := by
      rw [settleTimer_bde, beginRequested_bde, hbde, hmdc, freshPass_congr hsws]
      simp only [hrun, true_and]
    inForce := by rw [settleTimer_crs, beginRequested_crs, hin]
    pendingEntry := by rw [settleTimer_crs, beginRequested_crs, hpend]
    flags := fun f hf => by
      rw [hasFlag_congr f (settleTimer_lif _), hasFlag_congr f (beginRequested_lif u)]
      exact hflag f hf
    crank := fun hcode hc => by
      rw [settleTimer_sbu, beginRequested_sbu]
      exact hcrank hcode hc
    timer := fun s code hcode hclt hop hlk => by
      have htold := mayDoze_told (s := s) (t := beginRequested u) (code := code) (by rw [beginRequested_mdc, hmdc, hrun])
        (by rw [acceptedCode, beginRequested_sws, hsws]; exact hcode) (by rw [beginRequested_clt, hlive, hclt])
        (by rw [beginRequested_mdc, hmdc, hop]) (by rw [beginRequested_lif, hlink, hlk])
      rw [settled_prompt hprompt']
      exact ⟨fun h => if_pos (htold.mpr h), fun h => if_neg (mt htold.mp h)⟩ }

/-! ### The gauges by IGN's accepted code (R148, R149) -/

theorem gauges_off {s : State} (h : acceptedCode s ign ≠ some 1) (g : GaugeIx) : let x := (acceptIgnition s).gau.get g
    x.state = .off ∧ x.target = 0 ∧ x.filtered = 0 ∧ x.duty = 0 ∧ x.applied = 0 ∧ x.undervolt = false := by
  rw [acceptIgnition_off s (ignitionOn_eq_false h), mapTbl_get]
  exact ⟨rfl, rfl, rfl, rfl, rfl, rfl⟩

theorem activate_get {s : State} (hon : acceptedCode s ign = some 1) (hrun : s.mdc.mode = .run) (g : GaugeIx) :
    (acceptIgnition s).gau.get g = (s.gau.get g).activate := by
  rw [acceptIgnition_on s ((ignitionOn_iff s).mpr hon) hrun, mapTbl_get]

theorem activate_entered (x : Gauge) : (if true = true ∧ x.state = .off then
      { x with state := .active, target := 0, lastGood := 0, filtered := 0, duty := 0, undervolt := false } else x).activate
    = if true = true ∧ x.state = .off then
      { x with state := .active, target := 0, lastGood := 0, filtered := 0, duty := 0, undervolt := false } else x := by
  unfold Gauge.activate
  by_cases h : x.state = .off
  · simp [h]
  · simp [h]

theorem gaugesEnter_congr {on : Bool} {s s' t t' : State} (h : GaugesEnter on s' t') (hgau : s'.gau = s.gau)
    (hsenders : s'.pins.senders = s.pins.senders) (ht : ∀ g, t.gau.get g = t'.gau.get g) : GaugesEnter on s t := by
  intro g
  have hg := h g
  rw [hgau, hsenders] at hg
  rw [ht g]
  exact hg

/-- Gauges just entered with the ignition on stand when they are made ACTIVE again. -/
theorem gaugesEnter_ignition {s r : State} (h : GaugesEnter true s r) (hon : acceptedCode r ign = some 1)
    (hrun : r.mdc.mode = .run) (g : GaugeIx) : (acceptIgnition r).gau.get g = r.gau.get g := by
  rw [activate_get hon hrun, h g]
  exact activate_entered _

theorem entered_samples {on : Bool} {s r : State} (h : GaugesEnter on s r) (g : GaugeIx) :
    (r.gau.get g).samples = [(s.pins.senders.get g).toNat] := by
  rw [h g]
  dsimp only
  split
  · rfl
  · rfl

theorem acceptIgnition_samples {s : State} (hrun : s.mdc.mode = .run) (g : GaugeIx) :
    ((acceptIgnition s).gau.get g).samples = (s.gau.get g).samples := by
  by_cases hon : acceptedCode s ign = some 1
  · rw [activate_get hon hrun]
    unfold Gauge.activate
    split
    · rfl
    · rfl
  · rw [acceptIgnition_off s (ignitionOn_eq_false hon), mapTbl_get]
    rfl

end Sys2Proof.Machine

/-! PROOFS. The acceptance rules settled: O43. -/

namespace Sys2Proof.Machine

section
variable {levels : BitVec 26} {s : State}

/-! ### The form of the step -/

theorem scan_awake (hawake : Awake s) (hmode : s.mdc.mode ≠ .loading) (hsleep : s.mdc.mode ≠ .sleep)
    (h : ∃ g, ((scanRecs s levels).get g).2 = true)
    (hcalm : ((scanRecs s levels).get ign).2 = true → ((scanRecs s levels).get ign).1.accepted = some 1 →
      s.mdc.mode ≠ .quiesced) :
    ∃ u, ScanBase (scanned levels s) s u ∧ exec (.switchScan levels) s
      = .next (settleTimer (beginRequested
          (calmly ((scanRecs s levels).get ign).2 ((scanRecs s levels).get start).2 u))) := by
  have hexec := exec_scan_accepts hawake hmode h
  have hroused : roused (requestPass (scanned levels s)) = restartTimer (requestPass (scanned levels s)) :=
    if_neg hsleep
  have hbase := scanBase levels s
  rw [hroused] at hexec
  generalize restartTimer (requestPass (scanned levels s)) = u at hexec hbase
  refine ⟨u, hbase, ?_⟩
  rw [accepted_calm] at hexec
  · exact hexec
  · rintro ha ⟨hon, hquiesced⟩
    rw [ignitionOn_iff, hbase.code] at hon
    exact hcalm ha hon (hbase.mode.symm.trans hquiesced)

theorem scan_asleep (hawake : Awake s) (hsleep : s.mdc.mode = .sleep) (h : ∃ g, ((scanRecs s levels).get g).2 = true) :
    ∃ u, ScanBase (scanned levels s) s u ∧ exec (.switchScan levels) s
      = .next (settleTimer (beginRequested
          (calmly ((scanRecs s levels).get ign).2 ((scanRecs s levels).get start).2 (wake u)))) := by
  have hexec := exec_scan_accepts hawake (by rw [hsleep]; decide) h
  have hroused : roused (requestPass (scanned levels s)) = wake (restartTimer (requestPass (scanned levels s))) :=
    if_pos hsleep
  have hbase := scanBase levels s
  rw [hroused] at hexec
  generalize restartTimer (requestPass (scanned levels s)) = u at hexec hbase
  refine ⟨u, hbase, ?_⟩
  rw [accepted_calm] at hexec
  · exact hexec
  · rintro - ⟨-, hquiesced⟩
    rw [wake_mdc] at hquiesced
    exact nomatch hquiesced

theorem scan_resumes (hawake : Awake s) (hmode : s.mdc.mode = .quiesced) (hign : ((scanRecs s levels).get ign).2 = true)
    (hcode : ((scanRecs s levels).get ign).1.accepted = some 1) :
    ∃ u, ScanBase (scanned levels s) s u ∧ exec (.switchScan levels) s
      = .next (settleTimer (beginRequested
          (calmly true ((scanRecs s levels).get start).2 (resumeRun (abandonLoad u)).1))) := by
  have hexec := exec_scan_accepts (levels := levels) hawake (by rw [hmode]; decide) ⟨ign, hign⟩
  have hroused : roused (requestPass (scanned levels s)) = restartTimer (requestPass (scanned levels s)) :=
    if_neg (by change s.mdc.mode ≠ .sleep; rw [hmode]; decide)
  have hbase := scanBase levels s
  rw [hroused, hign] at hexec
  generalize restartTimer (requestPass (scanned levels s)) = u at hexec hbase
  refine ⟨u, hbase, ?_⟩
  rw [accepted_resume _ ((ignitionOn_iff u).mpr (by rw [hbase.code, hcode])) (hbase.mode.trans hmode)] at hexec
  exact hexec

/-! ### What the step brings, by the mode -/

/-- The conditions of the sleep entry timer as a scan leaves them (R187). -/
abbrev ScanDozes (levels : BitVec 26) (s : State) : Prop :=
  ((scanRecs s levels).get ign).1.accepted = some 0 ∧ (∀ i, claimAt s i = none)
    ∧ (∀ image, s.mdc.op ≠ .save image) ∧ ∀ r, s.lif.link ≠ .working r

/-- Every gauge OFF at rest (R148). -/
abbrev GaugesAtRest (t : State) : Prop := ∀ g : GaugeIx, let x := t.gau.get g
  x.state = .off ∧ x.target = 0 ∧ x.filtered = 0 ∧ x.duty = 0 ∧ x.applied = 0 ∧ x.undervolt = false

theorem accepts_run (hawake : Awake s) (hrun : s.mdc.mode = .run) (h : ∃ g, ((scanRecs s levels).get g).2 = true) :
    let code := ((scanRecs s levels).get ign).1.accepted
    let ignites := ((scanRecs s levels).get ign).2 = true
    ∃ t, exec (.switchScan levels) s = .next t
      ∧ ((ScanDozes levels s → t.mdc.sleepTimer = some 30000) ∧ (¬ScanDozes levels s → t.mdc.sleepTimer = none))
      ∧ t.sbu = { s.sbu with crank := t.sbu.crank } ∧ (¬ignites → t.gau = s.gau) ∧ t.mdc.mode = .run
      ∧ t.bde = (if s.bde.pass = none then { s.bde with pass := some (scanPass levels s), passRequested := false }
          else { s.bde with passRequested := true })
      ∧ (ignites → code ≠ some 1 → GaugesAtRest t)
      ∧ (ignites → code = some 1 → ∀ g : GaugeIx, t.gau.get g = (s.gau.get g).activate) := by
  intro code ignites
  obtain ⟨u, hb, hexec⟩ := scan_awake (levels := levels) hawake (by rw [hrun]; decide) (by rw [hrun]; decide) h
    fun _ _ => by rw [hrun]; decide
  have hurun : u.mdc.mode = .run := hb.mode.trans hrun
  have hf := finished ((scanRecs s levels).get ign).2 ((scanRecs s levels).get start).2 hurun hb.prompt
  have hfresh := freshPass_scanned (levels := levels) (s := s) hb.sws
  have hcode := hb.code ign
  refine ⟨_, hexec, ?_, ?_, fun hno => ?_, hf.mode, ?_, fun hign hne => ?_, fun hign hon g => ?_⟩
  · exact hf.timer s _ hcode (congrArg noClaims hb.clt) hb.op (congrArg LinkIf.link hb.lif)
  · rw [← hb.sbu]
    exact hf.sbu
  · rw [hf.gau, if_neg hno, hb.gau]
  · rw [hf.bde, hb.bde, hfresh]
    simp only [and_true]
  · intro g
    rw [hf.gau, if_pos hign]
    exact gauges_off (by rwa [hcode]) g
  · rw [hf.gau, if_pos hign, activate_get (hcode.trans hon) hurun, hb.gau]

theorem wake_bde {u : State} (hpass : u.bde.pass = none) (hrequested : u.bde.passRequested = true) :
    (wake u).bde = { u.bde with pass := some (freshPass u), passRequested := false } := by
  have hfresh : freshPass (setFlag .wake u) = freshPass u := freshPass_congr (setFlag_sws _ _)
  rw [wake, enterRun_bde, setFlag_bde, hfresh, if_pos ⟨hpass, hrequested⟩]

theorem accepts_sleep (hawake : Awake s) (hsound : PassesSound s) (hsleep : s.mdc.mode = .sleep)
    (h : ∃ g, ((scanRecs s levels).get g).2 = true) :
    let code := ((scanRecs s levels).get ign).1.accepted
    let ignites := ((scanRecs s levels).get ign).2 = true
    ∃ t, exec (.switchScan levels) s = .next t
      ∧ ((ScanDozes levels s → t.mdc.sleepTimer = some 30000) ∧ (¬ScanDozes levels s → t.mdc.sleepTimer = none))
      ∧ t.mdc.mode = .run ∧ hasFlag .wake t = true
      ∧ t.bde = { s.bde with pass := some (scanPass levels s), passRequested := false }
      ∧ (((scanRecs s levels).get start).1.accepted = some 1 →
          t.sbu.crank = .cranking ∧ (s.sbu.crank ≠ .cranking → hasFlag .crank t = true))
      ∧ SupplyEnters s t ∧ (∀ g, (t.gau.get g).samples = [(s.pins.senders.get g).toNat])
      ∧ (¬ignites ∨ code = some 1 → GaugesEnter (decide (code = some 1)) s t)
      ∧ (ignites → code ≠ some 1 → GaugesAtRest t) := by
  intro code ignites
  obtain ⟨u, hb, hexec⟩ := scan_asleep (levels := levels) hawake hsleep h
  have hpass : s.bde.pass = none := by
    by_contra hsome
    have hmode := hsound.1 (Option.isSome_iff_ne_none.mpr hsome)
    exact nomatch hsleep.symm.trans hmode
  have hbde := wake_bde (u := u) (by rw [hb.bde]; exact hpass) (by rw [hb.bde])
  rw [freshPass_scanned (levels := levels) (s := s) hb.sws, hb.bde] at hbde
  have hcode (g : GroupIx) : acceptedCode (wake u) g = ((scanRecs s levels).get g).1.accepted := by
    rw [acceptedCode, wake_sws]
    exact hb.code g
  have hcode' (g : GroupIx) : acceptedCode (setFlag .wake u) g = ((scanRecs s levels).get g).1.accepted := hb.code g
  have hwrun : (wake u).mdc.mode = .run := by rw [wake_mdc]
  have hwop : (wake u).mdc.op = s.mdc.op := by rw [wake_mdc]; exact hb.op
  have hwlink : (wake u).lif.link = s.lif.link := by rw [wake_link, hb.lif]
  have hwlive : noClaims (wake u).clt = noClaims s.clt := by
    rw [wake, noClaims_enterRun, setFlag_clt, hb.clt]
  have hwflag : hasFlag .wake (wake u) = true :=
    hasFlag_enterRun true (by rw [hasFlag_setFlag, decide_eq_true rfl, Bool.or_true])
  have hwcrank (hstart : ((scanRecs s levels).get start).1.accepted = some 1) : (wake u).sbu.crank = .cranking
      ∧ (s.sbu.crank ≠ .cranking → hasFlag .crank (wake u) = true) := by
    have hcranks := cranks_enterRun true (s := setFlag .wake u) ((hcode' start).trans hstart)
    rwa [setFlag_sbu, hb.sbu, ← wake] at hcranks
  have hwgau : GaugesEnter (decide (((scanRecs s levels).get ign).1.accepted = some 1)) s (wake u) := by
    have henter := gaugesEnter_enterRun true (setFlag .wake u)
    rw [hcode' ign, ← wake] at henter
    exact gaugesEnter_congr henter (by rw [setFlag_gau, hb.gau]) (by rw [setFlag_pins, hb.senders]) fun g => rfl
  have hwsbu : SupplyEnters s (wake u) := by
    have henter := supplyEnters_enterRun (setFlag .wake u)
    unfold SupplyEnters at henter ⊢
    rw [setFlag_sbu, setFlag_pins, hb.sbu, hb.supply, ← wake] at henter
    exact henter
  have hwprompt : Prompt (wake u) := hb.prompt.of_timer (by rw [wake_mdc])
  generalize wake u = w at *
  have hf := finished ((scanRecs s levels).get ign).2 ((scanRecs s levels).get start).2 hwrun hwprompt
  refine ⟨_, hexec, ?_, hf.mode, hf.flags _ hwflag, ?_, fun hstart => ⟨?_, fun hne => ?_⟩, ?_, fun g => ?_, fun hcalm => ?_,
    fun hign hne => ?_⟩
  · exact hf.timer s _ (hcode ign) hwlive hwop hwlink
  · rw [hf.bde, hbde]
    rfl
  · exact hf.crank ((hcode start).trans hstart) (hwcrank hstart).1
  · exact hf.flags _ ((hwcrank hstart).2 hne)
  · have hsbu := hf.sbu
    rw [hwsbu] at hsbu
    exact hsbu
  · rw [hf.gau]
    split
    · rw [acceptIgnition_samples hwrun, entered_samples hwgau]
    · exact entered_samples hwgau g
  · by_cases hign : ((scanRecs s levels).get ign).2 = true
    · have hon := hcalm.resolve_left (not_not_intro hign)
      intro g
      rw [hf.gau, if_pos hign, gaugesEnter_ignition (s := s) ?_ ((hcode ign).trans hon) hwrun g]
      · exact hwgau g
      · rwa [decide_eq_true hon] at hwgau
    · intro g
      rw [hf.gau, if_neg hign]
      exact hwgau g
  · intro g
    rw [hf.gau, if_pos hign]
    exact gauges_off (by rwa [hcode ign]) g

end

end Sys2Proof.Machine

/-! PROOFS. Acceptances in QUIESCED, and the rules together: O43. -/

namespace Sys2Proof.Machine

section
variable {levels : BitVec 26} {s : State}

theorem settleTimer_stopped {t : State} (h : t.mdc.mode ≠ .run) : (settleTimer t).mdc = { t.mdc with sleepTimer := none } := by
  have hno : ¬mayDoze t = true := fun hdoze => h ((mayDoze_iff t).mp hdoze).1
  unfold settleTimer
  rw [if_neg hno]

theorem accepts_quiesced (hawake : Awake s) (hmode : s.mdc.mode = .quiesced)
    (h : ∃ g, ((scanRecs s levels).get g).2 = true)
    (hcalm : ¬(((scanRecs s levels).get ign).2 = true ∧ ((scanRecs s levels).get ign).1.accepted = some 1)) :
    let code := ((scanRecs s levels).get ign).1.accepted
    let ignites := ((scanRecs s levels).get ign).2 = true
    ∃ t, exec (.switchScan levels) s = .next t ∧ t.sbu = { s.sbu with crank := t.sbu.crank }
      ∧ (¬ignites → t.gau = s.gau) ∧ t.mdc = { s.mdc with sleepTimer := none }
      ∧ t.bde = { s.bde with passRequested := true } ∧ t.clt = s.clt ∧ (ignites → code ≠ some 1 → GaugesAtRest t) := by
  intro code ignites
  obtain ⟨u, hb, hexec⟩ := scan_awake (levels := levels) hawake (by rw [hmode]; decide) (by rw [hmode]; decide) h
    fun hign hon => absurd ⟨hign, hon⟩ hcalm
  have humode : u.mdc.mode ≠ .run := by rw [hb.mode, hmode]; decide
  obtain ⟨hmdc, hbde, -, -, -, hsbu, -⟩ := calmly_frame ((scanRecs s levels).get ign).2 ((scanRecs s levels).get start).2 u
  have hgau := calmly_gau ((scanRecs s levels).get ign).2 ((scanRecs s levels).get start).2 u
  have hclt := calmly_clt ((scanRecs s levels).get ign).2 ((scanRecs s levels).get start).2 u humode
  generalize calmly ((scanRecs s levels).get ign).2 ((scanRecs s levels).get start).2 u = f at hexec hmdc hbde hsbu hgau hclt
  have hfmode : (beginRequested f).mdc.mode ≠ .run := by rw [beginRequested_mdc, hmdc]; exact humode
  refine ⟨_, hexec, ?_, fun hno => ?_, ?_, ?_, ?_, fun hign hne g => ?_⟩
  · rw [settleTimer_sbu, beginRequested_sbu, ← hb.sbu, ← hsbu]
  · rw [settleTimer_gau, beginRequested_gau, hgau, if_neg hno, hb.gau]
  · rw [settleTimer_stopped hfmode, beginRequested_mdc, hmdc, hb.mdc]
  · rw [settleTimer_bde, beginRequested_bde, if_neg (fun hrun => hfmode (by rw [beginRequested_mdc]; exact hrun.1)), hbde,
      hb.bde]
  · rw [settleTimer_clt, beginRequested_clt, hclt, hb.clt]
  · rw [settleTimer_gau, beginRequested_gau, hgau, if_pos hign]
    exact gauges_off (by rwa [hb.code ign]) g

/-! ### A forced RESUME (R184, R186) -/

/-- The state of a RESUME that the ignition forces, before the entry to RUN. -/
def forcedBase (u : State) : State := requestPass (refitted (abandonLoad u))

theorem resumeRun_forced (u : State) : (resumeRun (abandonLoad u)).1 = enterRun false (forcedBase u) := resumeRun_eq _

theorem forcedBase_frame (u : State) : (forcedBase u).sbu = u.sbu ∧ (forcedBase u).pins = u.pins
    ∧ (forcedBase u).gau = u.gau ∧ (forcedBase u).sws = u.sws ∧ (forcedBase u).lif = (abandonLoad u).lif
    ∧ (forcedBase u).mdc = (abandonLoad u).mdc ∧ (forcedBase u).bde.pass = u.bde.pass
    ∧ (forcedBase u).bde.passRequested = true ∧ (forcedBase u).crs = (applyPending u).crs := by
  obtain ⟨hsbu, hlif, hpins⟩ := refitted_frame (abandonLoad u)
  have hmove := move_refitted (abandonLoad u)
  have hcrs : (applyPending (abandonLoad u)).crs = (applyPending u).crs := by simp [applyPending]
  refine ⟨?_, ?_, ?_, ?_, ?_, ?_, ?_, rfl, ?_⟩
  · rw [forcedBase, requestPass_sbu, hsbu, abandonLoad_sbu]
  · rw [forcedBase, requestPass_pins, hpins, abandonLoad_pins]
  · rw [forcedBase, requestPass_gau, hmove.gau]
    exact abandonLoad_gau u
  · rw [forcedBase, requestPass_sws, hmove.sws]
    exact abandonLoad_sws u
  · rw [forcedBase, requestPass_lif, hlif]
  · rw [forcedBase, requestPass_mdc, refitted_mdc]
  · have hpass := hmove.pass
    change (refitted (abandonLoad u)).bde.pass = u.bde.pass
    rw [hpass]
    exact congrArg Engine.pass (abandonLoad_bde u)
  · rw [forcedBase, requestPass_crs, refitted_crs, hcrs]

theorem abandonLoad_told (u : State) : (u.mdc.op = .load → (abandonLoad u).mdc.op = .none ∧ hasFlag .storeFail (abandonLoad u) = true)
    ∧ (u.mdc.op ≠ .load → (abandonLoad u).mdc.op = u.mdc.op) := by
  unfold abandonLoad
  refine ⟨fun h => ?_, fun h => ?_⟩
  · rw [if_pos h, hasFlag_setFlag, decide_eq_true rfl, Bool.or_true]
    exact ⟨rfl, rfl⟩
  · rw [if_neg h]

theorem accepts_resume (hawake : Awake s) (hsound : PassesSound s) (hmode : s.mdc.mode = .quiesced)
    (hign : ((scanRecs s levels).get ign).2 = true) (hon : ((scanRecs s levels).get ign).1.accepted = some 1) :
    ∃ t, exec (.switchScan levels) s = .next t ∧ t.sbu = { s.sbu with crank := t.sbu.crank } ∧ t.mdc.mode = .run
      ∧ t.bde.pass = some (scanPass levels s) ∧ t.bde.passRequested = false ∧ GaugesEnter true s t
      ∧ (∀ c, t.crs.inForce.get c = (s.crs.pendingEntry.get c).getD (s.crs.inForce.get c)
          ∧ t.crs.pendingEntry.get c = none)
      ∧ (((scanRecs s levels).get start).1.accepted = some 1 →
          t.sbu.crank = .cranking ∧ (s.sbu.crank ≠ .cranking → hasFlag .crank t = true))
      ∧ (s.mdc.op = .load → t.mdc.op = .none ∧ hasFlag .storeFail t = true)
      ∧ (s.mdc.op ≠ .load → t.mdc.op = s.mdc.op) := by
  obtain ⟨u, hb, hexec⟩ := scan_resumes (levels := levels) hawake hmode hign hon
  obtain ⟨hqsbu, hqpins, hqgau, hqsws, hqlif, hqmdc, hqpass, hqrequested, hqcrs⟩ := forcedBase_frame u
  have hpass : s.bde.pass = none := by
    by_contra hsome
    have hrun := hsound.1 (Option.isSome_iff_ne_none.mpr hsome)
    exact nomatch hmode.symm.trans hrun
  have hqpass' : (forcedBase u).bde.pass = none := by rw [hqpass, hb.bde]; exact hpass
  have hqcode (g : GroupIx) : acceptedCode (forcedBase u) g = ((scanRecs s levels).get g).1.accepted := by
    rw [acceptedCode, hqsws]
    exact hb.code g
  obtain ⟨hload, hnoload⟩ := abandonLoad_told u
  have hrsbu := enterRun_resumed (s := forcedBase u) (restart := false) rfl
  have hrgau := gaugesEnter_enterRun false (forcedBase u)
  have hrbde := enterRun_bde false (forcedBase u)
  have hrcrank := cranks_enterRun false (s := forcedBase u)
  have hrflag := fun f => hasFlag_enterRun false (s := forcedBase u) (f := f)
  have hrin := enterRun_inForce false (forcedBase u)
  have hrpend := enterRun_pendingEntry false (forcedBase u)
  have hrmdc := enterRun_mdc false (forcedBase u)
  have hrsws := enterRun_sws false (forcedBase u)
  rw [hqcode ign, decide_eq_true hon] at hrgau
  rw [if_pos ⟨hqpass', hqrequested⟩, freshPass_scanned (levels := levels) (s := s) (hqsws.trans hb.sws)] at hrbde
  rw [resumeRun_forced] at hexec
  generalize enterRun false (forcedBase u) = r at hexec hrsbu hrgau hrbde hrcrank hrflag hrin hrpend hrmdc hrsws
  have hrrun : r.mdc.mode = .run := by rw [hrmdc]
  have hrop : r.mdc.op = (abandonLoad u).mdc.op := by rw [hrmdc, hqmdc]
  have hrcode (g : GroupIx) : acceptedCode r g = ((scanRecs s levels).get g).1.accepted := by
    rw [acceptedCode, hrsws]
    exact hqcode g
  have hrprompt : Prompt r := by
    refine hb.prompt.of_timer ?_
    rw [hrmdc, hqmdc]
    unfold abandonLoad
    split
    · rfl
    · rfl
  have hrgau' : GaugesEnter true s r :=
    gaugesEnter_congr hrgau (hqgau.trans hb.gau) (by rw [hqpins, hb.senders]) fun g => rfl
  have hf := finished true ((scanRecs s levels).get start).2 hrrun hrprompt
  refine ⟨_, hexec, ?_, hf.mode, ?_, ?_, fun g => ?_, fun c => ⟨?_, ?_⟩, fun hstart => ⟨?_, fun hne => ?_⟩,
    fun hop => ⟨?_, ?_⟩, fun hop => ?_⟩
  · have hsbu := hf.sbu
    rw [hrsbu, hqsbu, hb.sbu] at hsbu
    exact hsbu
  · rw [hf.bde, hrbde]
    rfl
  · rw [hf.bde, hrbde]
    rfl
  · rw [hf.gau, if_pos rfl, gaugesEnter_ignition hrgau' ((hrcode ign).trans hon) hrrun g]
    exact hrgau' g
  · rw [hf.inForce, hrin, hqcrs, applyPending, tabulate_get, hb.crs]
  · rw [hf.pendingEntry, hrpend, hqcrs, applyPending, tabulate_get]
  · exact hf.crank ((hrcode start).trans hstart) (hrcrank ((hqcode start).trans hstart)).1
  · exact hf.flags _ ((hrcrank ((hqcode start).trans hstart)).2 (by rwa [hqsbu, hb.sbu]))
  · rw [hf.op, hrop]
    exact (hload (hb.op.trans hop)).1
  · refine hf.flags _ (hrflag _ ?_)
    rw [hasFlag_congr .storeFail hqlif]
    exact (hload (hb.op.trans hop)).2
  · rw [hf.op, hrop, hnoload (by rwa [hb.op]), hb.op]

/-! ### No acceptance -/

theorem accepts_none (hawake : Awake s) (hsound : PassesSound s) (hmode : s.mdc.mode ≠ .loading)
    (h : ∀ g, ¬((scanRecs s levels).get g).2 = true) :
    exec (.switchScan levels) s = after (scanned levels s) := by
  have hidle : beginRequested (scanned levels s) = scanned levels s := by
    obtain ⟨hbde, -, -, -, -, -, hmdc, -⟩ := scanned_frame levels s
    have hno : ¬((scanned levels s).mdc.mode == .run && (scanned levels s).bde.pass.isNone
        && (scanned levels s).bde.passRequested) = true := by
      rw [hbde, hmdc]
      simp only [Bool.and_eq_true, beq_iff_eq, and_assoc]
      rintro ⟨hrun, hnone, hrequested⟩
      have hsome := hsound.2.1 hrun hrequested
      rw [Option.isNone_iff_eq_none.mp hnone] at hsome
      exact nomatch hsome
    exact if_neg hno
  rw [exec_scan_quiet hawake hmode h, hidle]

end

/-- Settles O43: the acceptances by the mode that they find. -/
theorem acceptanceRules : Obligations.AcceptanceRules := by
  intro levels s hawake hsound hloading
  dsimp only
  refine ⟨fun hnone => ⟨scanned levels s, accepts_none hawake hsound hloading hnone, rfl⟩, fun hsome => ?_⟩
  cases hmode : s.mdc.mode with
  | run =>
    obtain ⟨t, hexec, htimer, hsbu, hgau, hrun, hbde, hrest, hactive⟩ := accepts_run hawake hmode hsome
    exact ⟨t, hexec, fun _ => htimer, fun _ => hsbu, fun _ => hgau, fun _ => ⟨hrun, hbde⟩, (nomatch ·), (nomatch ·),
      (nomatch ·), hrest, fun _ => hactive⟩
  | sleep =>
    obtain ⟨t, hexec, htimer, hrun, hwake, hbde, hcrank, hsbu, hsamples, hgau, hrest⟩ :=
      accepts_sleep hawake hsound hmode hsome
    exact ⟨t, hexec, fun _ => htimer, fun hne => absurd rfl hne, fun hne => absurd rfl hne, (nomatch ·),
      fun _ => ⟨hrun, hwake, hbde, hcrank, hsbu, hsamples, hgau⟩, (nomatch ·), (nomatch ·), hrest, (nomatch ·)⟩
  | quiesced =>
    by_cases hforced : ((scanRecs s levels).get ign).2 = true ∧ ((scanRecs s levels).get ign).1.accepted = some 1
    · obtain ⟨hign, hon⟩ := hforced
      obtain ⟨t, hexec, hsbu, hrun, hpass, hrequested, hgau, hcrs, hcrank, hload, hnoload⟩ :=
        accepts_resume hawake hsound hmode hign hon
      exact ⟨t, hexec, fun h => h.elim (nomatch ·) (nomatch ·), fun _ => hsbu, fun _ hno => absurd hign hno, (nomatch ·),
        (nomatch ·), fun _ hno => absurd ⟨hign, hon⟩ hno,
        fun _ _ _ => ⟨hrun, hpass, hrequested, hgau, hcrs, hcrank, hload, hnoload⟩, fun _ hne => absurd hon hne,
        (nomatch ·)⟩
    · obtain ⟨t, hexec, hsbu, hgau, hmdc, hbde, hclt, hrest⟩ := accepts_quiesced hawake hmode hsome hforced
      exact ⟨t, hexec, fun h => h.elim (nomatch ·) (nomatch ·), fun _ => hsbu, fun _ => hgau, (nomatch ·), (nomatch ·),
        fun _ _ => ⟨hmdc.trans (by rw [← hmode]), hbde, hclt⟩, fun _ hign hon => absurd ⟨hign, hon⟩ hforced, hrest, (nomatch ·)⟩
  | loading => exact absurd hmode hloading

end Sys2Proof.Machine

/-! PROOFS. The binding requests (R131–R133): O47 fails. -/

namespace Sys2Proof.Machine

/-- A BIND.WRITE that arrives between passes is answered as its effect says (R127, R133). -/
theorem exec_bindWrite_between {p fields : List Byte} {s t : State} {code : ReplyCode} (h : Handed .bindWrite p s)
    (hpass : s.bde.pass = none) (hbody : bindWrite p s = (t, { code := code, fields := fields })) :
    exec (.bindWrite p) s = replied code fields t := by
  obtain ⟨hawake, hlink⟩ := h
  have hreach : reach .bindWrite p s = s := if_pos hlink
  have hwork : inWork .bindWrite p s = true := (inWork_iff ..).mpr hlink
  change execBindWrite p s = _
  unfold execBindWrite
  rw [act_run hawake]
  dsimp only
  rw [hreach, if_pos hwork, hpass, hbody] <;> rfl

/-- An answer tells its reply's code. -/
theorem replied_code {code code' : ReplyCode} {fields fields' : List Byte} {t t' : State}
    (h : replied code fields t = replied code' fields' t') : code = code' := by
  unfold replied after at h
  have hlink := congrArg (fun u => u.lif.link) (Host.Outcome.next.inj h)
  simp only [settleTimer_lif] at hlink
  exact congrArg Reply.code (Link.replyReady.inj hlink)

/-! ### A GATE with an undefined operation code -/

/-- BIND.WRITE's parameters for a GATE on G0 with operation code 4, which R117 does not define. -/
def undefinedGate : List Byte := [0, 2, 0, 0, 4, 0, 0, 0, 0, 0, 0, 0, 0, 0, 0]

/-- A part in QUIESCED that holds this BIND.WRITE. -/
def holdingGate : State :=
  { State.reset with
    mdc := { State.reset.mdc with mode := .quiesced, heldInReset := false }
    lif := { State.reset.lif with link := .working { req := .bindWrite, params := undefinedGate } } }

/-- The model takes the undefined code for NONE: `TestOp.ofCode` names `TestOp.none` where it would name no operation. -/
theorem judgeBind_undefinedGate :
    judgeBind undefinedGate.tail = .ok (.gate { group := 0, mask := 0, op := .none, value := 0 }, false) := by decide

theorem bindWrite_holdingGate : bindWrite undefinedGate holdingGate
    = (replaceBinding 0 (.gate { group := 0, mask := 0, op := .none, value := 0 }) holdingGate,
        { code := .ok, fields := bindBytes (.gate { group := 0, mask := 0, op := .none, value := 0 })
            ++ be16 (retiredHandle (holdingGate.bde.recs.get 0).link) }) := by
  have hidle : ¬storeBusy holdingGate = true := by decide
  unfold bindWrite
  rw [if_neg hidle]
  rfl

/-- Refutes O47: a BIND.WRITE with operation code 4 is to be refused BAD_REQUEST (R132) and is stored, as NONE. -/
theorem not_bindRequests : ¬Obligations.BindRequests := by
  intro h
  obtain ⟨-, -, -, hwrite⟩ := h
  have hhanded : Handed .bindWrite undefinedGate holdingGate := ⟨rfl, rfl⟩
  obtain ⟨-, hidle⟩ := hwrite holdingGate 0 2 0 0 4 0 0 0 0 0 0 0 0 0 0 hhanded rfl fun hrun => nomatch hrun
  obtain ⟨-, -, -, -, -, hrefused, -⟩ := (hidle rfl).2 0 rfl
  have hbad := hrefused (.inr rfl) (by decide) (by decide) (.inl (by decide))
  have hstored := exec_bindWrite_between hhanded rfl bindWrite_holdingGate
  exact nomatch replied_code (hstored.symm.trans hbad)

end Sys2Proof.Machine

/-! PROOFS. A binding taken by a pass: its test, its record and what it leaves (R118–R122): the ground of O45 and O46. -/

namespace Sys2Proof.Machine

/-! ### A test (R118) -/

theorem passes_unknown {codes : Vector (Option (BitVec 4)) 18} {x : Test} (h : codes.get x.group = none) :
    x.passes codes = false := by
  rw [Test.passes, h]

theorem passes_iff {codes : Vector (Option (BitVec 4)) 18} {x : Test} {code : BitVec 4}
    (h : codes.get x.group = some code) : x.passes codes = true ↔ match x.op with
      | .eq => code &&& x.mask = x.value
      | .ne => code &&& x.mask ≠ x.value
      | .any => code &&& x.mask ≠ 0
      | .none => code &&& x.mask = 0 := by
  rw [Test.passes, h]
  cases x.op with
  | eq => exact beq_iff_eq
  | ne => exact bne_iff_ne
  | any => exact bne_iff_ne
  | none => exact beq_iff_eq

/-! ### The records of the bindings -/

/-- Two states whose bindings hold the same test results and verdicts. -/
structure SameResults (s t : State) : Prop where
  result : ∀ k : BindIx, (t.bde.recs.get k).result = (s.bde.recs.get k).result
  verdict : ∀ k : BindIx, (t.bde.recs.get k).verdict = (s.bde.recs.get k).verdict

namespace SameResults

variable {s t u : State}

theorem of_bde (h : t.bde = s.bde) : SameResults s t := ⟨fun k => by rw [h], fun k => by rw [h]⟩

theorem refl (s : State) : SameResults s s := of_bde rfl

theorem trans (h : SameResults s t) (h' : SameResults t u) : SameResults s u :=
  ⟨fun k => (h'.result k).trans (h.result k), fun k => (h'.verdict k).trans (h.verdict k)⟩

end SameResults

theorem sameResults_setLink (b : BindIx) (l : BindLink) (s : State) : SameResults s (setLink b l s) := by
  have hboth (k : BindIx) : ((setLink b l s).bde.recs.get k).result = (s.bde.recs.get k).result
      ∧ ((setLink b l s).bde.recs.get k).verdict = (s.bde.recs.get k).verdict := by
    unfold setLink
    dsimp only
    rw [upd_get]
    split
    · next h => subst h; exact ⟨rfl, rfl⟩
    · exact ⟨rfl, rfl⟩
  exact ⟨fun k => (hboth k).1, fun k => (hboth k).2⟩

theorem sameResults_retire (i : SlotIx) (s : State) : SameResults s (retire i s) := by
  have hfreed (u : State) : SameResults u (slotFreed u) :=
    ⟨fun k => by rw [slotFreed_recs], fun k => by rw [slotFreed_recs]⟩
  unfold retire
  split
  · exact .refl s
  · dsimp only
    refine SameResults.trans ?_ (hfreed _)
    split
    · refine SameResults.trans ?_ (sameResults_setLink ..)
      exact .of_bde rfl
    · exact .of_bde rfl

theorem sameResults_bindingRaise (b : BindIx) (a : Action) (s : State) : SameResults s (bindingRaise b a s) := by
  unfold bindingRaise
  split
  · exact sameResults_setLink ..
  · split
    · exact (sameResults_setLink ..).trans (.of_bde rfl)
    · exact SameResults.trans (.of_bde (raiseInto_bde ..)) (sameResults_setLink ..)

theorem sameResults_reconcile (b : BindIx) (a : Action) (matched : Bool) (s : State) :
    SameResults s (reconcile b a matched s) := by
  unfold reconcile
  split
  · exact sameResults_bindingRaise ..
  · exact sameResults_bindingRaise ..
  · exact .of_bde (modifyClaim_bde ..)
  · split
    · exact sameResults_retire ..
    · exact .of_bde (modifyClaim_bde ..)
  · exact sameResults_setLink ..
  · exact .refl s

theorem bindingRaise_sbu (b : BindIx) (a : Action) (s : State) : (bindingRaise b a s).sbu = s.sbu := by
  unfold bindingRaise
  split
  · simp
  · split
    · simp
    · rw [setLink_sbu]
      exact admitSlot_sbu ..

theorem reconcile_sbu (b : BindIx) (a : Action) (matched : Bool) (s : State) : (reconcile b a matched s).sbu = s.sbu := by
  unfold reconcile
  split
  · exact bindingRaise_sbu ..
  · exact bindingRaise_sbu ..
  · exact modifyClaim_sbu ..
  · split
    · exact retire_sbu ..
    · exact modifyClaim_sbu ..
  · exact setLink_sbu ..
  · rfl

/-! ### A binding taken (R119–R122) -/

section
variable {p : Pass} {b : BindIx} {s : State}

theorem takeBinding_unused (h : s.bde.entries.get b = .unused) : takeBinding p b s = (p, s) := by
  rw [takeBinding, h]

theorem takeBinding_gateEnd (h : s.bde.entries.get b = .gateEnd) :
    takeBinding p b s = ({ p with gate := .none, chain := none }, s) := by
  rw [takeBinding, h]

theorem takeBinding_gate {x : Test} (h : s.bde.entries.get b = .gate x) : takeBinding p b s
    = ({ p with gate := if x.passes p.codes then .opened else .closed, chain := none },
        recordResult b (x.passes p.codes) s) := by
  rw [takeBinding, h]

theorem takeBinding_chained {x : Test} {action : Option Action} (h : s.bde.entries.get b = .test x true action) :
    takeBinding p b s = ({ p with chain := some (p.chain.getD true && x.passes p.codes) },
      recordResult b (x.passes p.codes) s) := by
  rw [takeBinding, h]
  rfl

/-- The verdict of a chain at its action binding (R121, R122). -/
def matchedBy (p : Pass) (x : Test) : Bool := p.chain.getD true && x.passes p.codes && decide (p.gate ≠ .closed)

/-- The test and the verdict of an action binding recorded. -/
def verdictRecorded (p : Pass) (b : BindIx) (x : Test) (s : State) : State :=
  recordVerdict b (matchedBy p x) (recordResult b (x.passes p.codes) s)

theorem gate_bne_closed (g : Gate) : (g != .closed) = decide (g ≠ .closed) := by cases g <;> rfl

theorem takeBinding_verdict {x : Test} (h : s.bde.entries.get b = .test x false none) :
    takeBinding p b s = ({ p with chain := none }, verdictRecorded p b x s) := by
  rw [takeBinding, h, verdictRecorded, matchedBy, ← gate_bne_closed]
  rfl

theorem takeBinding_action {x : Test} {a : Action} (h : s.bde.entries.get b = .test x false (some a)) :
    takeBinding p b s = ({ p with chain := none }, reconcile b a (matchedBy p x) (verdictRecorded p b x s)) := by
  rw [takeBinding, h, verdictRecorded, matchedBy, ← gate_bne_closed]
  rfl

/-- The test result and the verdict that a binding's record holds, with the others' as they stood. -/
def Recorded (b : BindIx) (result verdict : Option Bool) (s t : State) : Prop := ∀ k : BindIx,
  (t.bde.recs.get k).result = (if k = b then result else (s.bde.recs.get k).result)
    ∧ (t.bde.recs.get k).verdict = (if k = b then verdict else (s.bde.recs.get k).verdict)

theorem Recorded.trans {result verdict : Option Bool} {t u : State} (h : Recorded b result verdict s t)
    (h' : SameResults t u) : Recorded b result verdict s u :=
  fun k => ⟨(h'.result k).trans (h k).1, (h'.verdict k).trans (h k).2⟩

variable (p b s)

theorem recorded_self : Recorded b (s.bde.recs.get b).result (s.bde.recs.get b).verdict s s := by
  intro k
  by_cases hk : k = b
  · subst hk
    rw [if_pos rfl, if_pos rfl]
    exact ⟨rfl, rfl⟩
  · rw [if_neg hk, if_neg hk]
    exact ⟨rfl, rfl⟩

theorem recorded_result (passed : Bool) :
    Recorded b (some passed) (s.bde.recs.get b).verdict s (recordResult b passed s) := by
  intro k
  unfold recordResult
  dsimp only
  rw [upd_get]
  by_cases hk : k = b
  · subst hk
    rw [if_pos rfl, if_pos rfl, if_pos rfl]
    exact ⟨rfl, rfl⟩
  · rw [if_neg hk, if_neg hk, if_neg (Ne.symm hk)]
    exact ⟨rfl, rfl⟩

theorem recorded_verdict (x : Test) :
    Recorded b (some (x.passes p.codes)) (some (matchedBy p x)) s (verdictRecorded p b x s) := by
  intro k
  unfold verdictRecorded recordVerdict recordResult
  by_cases hk : k = b
  · subst hk
    simp
  · simp [upd_get, hk, Ne.symm hk]

/-- The claim links stand while a test and a verdict are recorded. -/
theorem verdictRecorded_link (x : Test) (k : BindIx) :
    ((verdictRecorded p b x s).bde.recs.get k).link = (s.bde.recs.get k).link := by
  unfold verdictRecorded recordVerdict recordResult
  by_cases hk : k = b
  · subst hk
    simp
  · simp [upd_get, Ne.symm hk]

theorem recordResult_link (passed : Bool) (k : BindIx) :
    ((recordResult b passed s).bde.recs.get k).link = (s.bde.recs.get k).link := by
  unfold recordResult
  dsimp only
  rw [upd_get]
  split
  · next h => subst h; rfl
  · rfl

end

end Sys2Proof.Machine

/-! PROOFS. The bindings' block apart from the outputs: what a hand-over and a retirement do whatever stands in it, for
O45. -/

namespace Sys2Proof.Machine

/-! ### A hand-over reads nothing of the Binding Engine -/

/-- The Binding Engine's block replaced. -/
def setBde (e : Engine) (s : State) : State := { s with bde := e }

theorem foldl_commutes {α : Type} {f : State → α → State} {g : State → State} (h : ∀ s a, f (g s) a = g (f s a))
    (xs : List α) (s : State) : xs.foldl f (g s) = g (xs.foldl f s) := by
  induction xs generalizing s with
  | nil => rfl
  | cons x xs ih => rw [List.foldl_cons, List.foldl_cons, h, ih]

section
variable (e : Engine) (s : State)

theorem syncFlasher_setBde : syncFlasher (setBde e s) = setBde e (syncFlasher s) := by
  unfold syncFlasher
  change (if (s.crs.flashPresent && s.mdc.mode == .run) = true then
      if s.fls.phase = .idle then setBde e { s with fls := s.fls.start s.crs.flashSet } else setBde e s
    else if s.fls.phase = .idle then setBde e s else setBde e { s with fls := s.fls.stop }) = _
  split
  · split
    · rfl
    · rfl
  · split
    · rfl
    · rfl

theorem modifyChannel_setBde (ch : Chan) (f : Channel → Channel) :
    modifyChannel ch f (setBde e s) = setBde e (modifyChannel ch f s) := by
  rw [modifyChannel_eq, modifyChannel_eq]
  rfl

theorem refreshDemand_setBde (ch : Chan) : refreshDemand (setBde e s) ch = setBde e (refreshDemand s ch) := by
  have hdemand : channelDemand (setBde e s) ch = channelDemand s ch := rfl
  have hget : (setBde e s).chd.get ch = s.chd.get ch := rfl
  unfold refreshDemand
  dsimp only
  rw [hdemand, hget]
  split
  · rfl
  · exact modifyChannel_setBde e s ch _

theorem refreshDemands_setBde : refreshDemands (setBde e s) = setBde e (refreshDemands s) :=
  foldl_commutes (g := setBde e) (fun s ch => refreshDemand_setBde e s ch) _ s

theorem resolveCircuit_setBde (c : Circ) : resolveCircuit (setBde e s) c = setBde e (resolveCircuit s c) := by
  unfold resolveCircuit indicate
  dsimp only
  rw [← refreshDemands_setBde, ← syncFlasher_setBde]
  rfl

theorem handOver_setBde (v : Vector Bool 16) : handOver v (setBde e s) = setBde e (handOver v s) := by
  refine foldl_commutes (g := setBde e) (fun s c => ?_) _ s
  split
  · exact resolveCircuit_setBde e s c
  · rfl

end

theorem handOver_bdeEq {s t : State} (v : Vector Bool 16) (h : t = { s with bde := t.bde }) :
    handOver v t = { handOver v s with bde := t.bde } := by
  conv_lhs => rw [h]
  exact handOver_setBde t.bde s v

/-! ### The waiting BIND.WRITE and the pass-requested mark stand aside -/

/-- The waiting BIND.WRITE removed. -/
def unwaiting (s : State) : State := { s with bde := { s.bde with waiting := none } }

/-- The pass-requested mark set to a value. -/
def setRequested (x : Bool) (s : State) : State := { s with bde := { s.bde with passRequested := x } }

section
variable (s : State)

theorem admitSlot_unwaiting (i : SlotIx) : admitSlot i (unwaiting s) = unwaiting (admitSlot i s) := by
  have hclaim : claimAt (unwaiting s) i = claimAt s i := rfl
  unfold admitSlot
  rw [hclaim]
  cases claimAt s i with
  | none => rfl
  | some c =>
    have hadmission : admissionOf (unwaiting s) c = admissionOf s c := rfl
    dsimp only
    rw [hadmission]
    cases admissionOf s c with
    | grant l => rfl
    | hold r =>
      dsimp only
      cases c.origin != .link with
      | false => rfl
      | true => rfl

theorem bindingRaise_unwaiting (b : BindIx) (a : Action) :
    bindingRaise b a (unwaiting s) = unwaiting (bindingRaise b a s) := by
  have hslot : freeSlot (unwaiting s).clt = freeSlot s.clt := rfl
  have hin : (unwaiting s).crs.inForce = s.crs.inForce := rfl
  unfold bindingRaise
  rw [hslot, hin]
  split
  · rfl
  · cases freeSlot s.clt with
    | none => rfl
    | some i =>
      dsimp only
      have hadmit := admitSlot_unwaiting { s with clt := s.clt.setClaim i (some (newClaim s
        { origin := .binding b, circuit := a.circuit, mode := a.mode, cls := a.cls, level := a.level, floor := a.floor
          share := a.share, expiry := 0 })) } i
      have hlinked (u : State) : setLink b (.claim (handleAt s i)) (unwaiting u)
          = unwaiting (setLink b (.claim (handleAt s i)) u) := rfl
      unfold raiseInto
      rw [← hlinked, ← hadmit]
      rfl

theorem retire_unwaiting (i : SlotIx) : retire i (unwaiting s) = unwaiting (retire i s) := by
  have hfreed (u : State) : slotFreed (unwaiting u) = unwaiting (slotFreed u) := by
    rw [slotFreed_eq, slotFreed_eq]
    rfl
  have hclaim : claimAt (unwaiting s) i = claimAt s i := rfl
  unfold retire
  rw [hclaim]
  cases claimAt s i with
  | none => rfl
  | some c =>
    dsimp only
    rw [← hfreed]
    cases c.origin with
    | link => rfl
    | binding b => rfl

theorem reconcile_unwaiting (b : BindIx) (a : Action) (matched : Bool) :
    reconcile b a matched (unwaiting s) = unwaiting (reconcile b a matched s) := by
  have hlink : ((unwaiting s).bde.recs.get b).link = (s.bde.recs.get b).link := rfl
  unfold reconcile
  rw [hlink]
  cases (s.bde.recs.get b).link with
  | none =>
    cases matched with
    | true => exact bindingRaise_unwaiting s b a
    | false => rfl
  | wanting =>
    cases matched with
    | true => exact bindingRaise_unwaiting s b a
    | false => rfl
  | claim h =>
    cases matched with
    | true => rfl
    | false =>
      dsimp only
      split
      · exact retire_unwaiting s h.slot
      · rfl

theorem takeBinding_unwaiting (p : Pass) (b : BindIx) :
    takeBinding p b (unwaiting s) = ((takeBinding p b s).1, unwaiting (takeBinding p b s).2) := by
  have hentry : (unwaiting s).bde.entries = s.bde.entries := rfl
  cases he : s.bde.entries.get b with
  | unused => rw [takeBinding_unused he, takeBinding_unused (by rw [hentry, he])]
  | gateEnd => rw [takeBinding_gateEnd he, takeBinding_gateEnd (by rw [hentry, he])]
  | gate x =>
    rw [takeBinding_gate he, takeBinding_gate (by rw [hentry, he])]
    rfl
  | test x chained action =>
    cases chained with
    | true =>
      rw [takeBinding_chained he, takeBinding_chained (by rw [hentry, he])]
      rfl
    | false =>
      cases action with
      | none =>
        rw [takeBinding_verdict he, takeBinding_verdict (by rw [hentry, he])]
        rfl
      | some a =>
        rw [takeBinding_action he, takeBinding_action (by rw [hentry, he])]
        have hrecorded : verdictRecorded p b x (unwaiting s) = unwaiting (verdictRecorded p b x s) := rfl
        rw [hrecorded, reconcile_unwaiting]

/-- A retirement reads nothing of the pass-requested mark. -/
theorem requestPass_retire (x : Bool) (i : SlotIx) :
    requestPass (retire i (setRequested x s)) = requestPass (retire i s) := by
  have hclaim : claimAt (setRequested x s) i = claimAt s i := rfl
  unfold retire
  rw [hclaim]
  cases claimAt s i with
  | none => rfl
  | some c =>
    dsimp only
    rw [slotFreed_eq, slotFreed_eq]
    cases c.origin with
    | link => rfl
    | binding b => rfl

theorem requestPass_handOver (v : Vector Bool 16) (s : State) : requestPass (handOver v s) = handOver v (requestPass s) := by
  have h := handOver_bdeEq (s := s) (t := requestPass s) v rfl
  rw [h]
  unfold requestPass
  rw [handOver_bde]

/-- A replaced binding requests a pass, whatever the mark (R133). -/
theorem replaceBinding_setRequested (x : Bool) (b : BindIx) (e : BindEntry) :
    replaceBinding b e (setRequested x s) = replaceBinding b e s := by
  have hlink : ((setRequested x s).bde.recs.get b).link = (s.bde.recs.get b).link := rfl
  unfold replaceBinding
  rw [hlink]
  cases (s.bde.recs.get b).link with
  | none => rfl
  | wanting => rfl
  | claim h =>
    have hclt : (retire h.slot (setRequested x s)).clt = (retire h.slot s).clt := by
      rw [← requestPass_clt, requestPass_retire, requestPass_clt]
    have hretired : requestPass (withHandOver (retire h.slot) (setRequested x s))
        = requestPass (withHandOver (retire h.slot) s) := by
      unfold withHandOver
      dsimp only
      rw [requestPass_handOver, requestPass_handOver, requestPass_retire, hclt]
      rfl
    have hput (u v : State) (huv : requestPass u = requestPass v) (recs : Vector BindRec 64) :
        requestPass { u with bde := { u.bde with entries := put u.bde.entries b e, recs := put u.bde.recs b resetBindRec } }
          = requestPass { v with bde := { v.bde with entries := put v.bde.entries b e, recs := put v.bde.recs b resetBindRec } } :=
      congrArg (fun w : State => { w with
        bde := { w.bde with entries := put w.bde.entries b e, recs := put w.bde.recs b resetBindRec } }) huv
    dsimp only
    rw [hput _ _ hretired s.bde.recs]

end

end Sys2Proof.Machine

/-! PROOFS. The steps of a pass and its end (R118–R122, R125–R127). Settles O45. -/

namespace Sys2Proof.Machine

/-! ### What a step judges -/

/-- The binding a step takes is no action binding with an action. -/
def NoAction (e : BindEntry) : Prop := ∀ x a, e ≠ .test x false (some a)

/-- The test and the verdict that a step records (R119, R121, R122). -/
def StepRecords (s t : State) (p : Pass) : Prop :=
  match s.bde.entries.get p.next with
  | .unused | .gateEnd => Recorded p.next (s.bde.recs.get p.next).result (s.bde.recs.get p.next).verdict s t
  | .gate x | .test x true _ => Recorded p.next (some (x.passes p.codes)) (s.bde.recs.get p.next).verdict s t
  | .test x false _ => Recorded p.next (some (x.passes p.codes)) (some (matchedBy p x)) s t

/-- What a step leaves at a binding without an action (R120). -/
def StepLeaves (s t : State) : Prop := t.clt = s.clt ∧ t.lif = s.lif ∧ ∀ b, (t.bde.recs.get b).link = (s.bde.recs.get b).link

/-- What a step judges and records (R119, R120). -/
def StepJudges (s t : State) (p : Pass) : Prop :=
  StepRecords s t p ∧ (NoAction (s.bde.entries.get p.next) → StepLeaves s t)

/-- The gate and the chain after a step (R121, R122). -/
def StepAdvances (e : BindEntry) (p q : Pass) : Prop :=
  match e with
  | .unused => q.gate = p.gate ∧ q.chain = p.chain
  | .gateEnd => q.gate = .none ∧ q.chain = none
  | .gate x => q.gate = (if x.passes p.codes then .opened else .closed) ∧ q.chain = none
  | .test x true _ => q.gate = p.gate ∧ q.chain = some (p.chain.getD true && x.passes p.codes)
  | .test _ false _ => q.gate = p.gate ∧ q.chain = none

theorem StepJudges.congr {s t u : State} {p : Pass} (h : StepJudges s t p) (hrecs : u.bde.recs = t.bde.recs)
    (hclt : u.clt = t.clt) (hlif : u.lif = t.lif) : StepJudges s u p := by
  have hrecorded {result verdict : Option Bool} (h : Recorded p.next result verdict s t) :
      Recorded p.next result verdict s u := by
    intro k
    rw [hrecs]
    exact h k
  obtain ⟨hrec, hleaves⟩ := h
  refine ⟨?_, fun hno => ?_⟩
  · unfold StepRecords at hrec ⊢
    split at hrec
    · exact hrecorded hrec
    · exact hrecorded hrec
    · exact hrecorded hrec
    · exact hrecorded hrec
    · exact hrecorded hrec
  · obtain ⟨hclt', hlif', hlink⟩ := hleaves hno
    refine ⟨hclt.trans hclt', hlif.trans hlif', fun b => ?_⟩
    rw [hrecs]
    exact hlink b

section
variable (p : Pass) (s : State)

theorem takeBinding_judges : StepJudges s (takeBinding p p.next s).2 p := by
  unfold StepJudges StepRecords
  cases he : s.bde.entries.get p.next with
  | unused =>
    rw [takeBinding_unused he]
    exact ⟨recorded_self _ _, fun _ => ⟨rfl, rfl, fun _ => rfl⟩⟩
  | gateEnd =>
    rw [takeBinding_gateEnd he]
    exact ⟨recorded_self _ _, fun _ => ⟨rfl, rfl, fun _ => rfl⟩⟩
  | gate x =>
    rw [takeBinding_gate he]
    exact ⟨recorded_result _ _ _, fun _ => ⟨rfl, rfl, fun b => recordResult_link ..⟩⟩
  | test x chained action =>
    cases chained with
    | true =>
      rw [takeBinding_chained he]
      exact ⟨recorded_result _ _ _, fun _ => ⟨rfl, rfl, fun b => recordResult_link ..⟩⟩
    | false =>
      cases action with
      | none =>
        rw [takeBinding_verdict he]
        exact ⟨recorded_verdict _ _ _ _, fun _ => ⟨rfl, rfl, fun b => verdictRecorded_link ..⟩⟩
      | some a =>
        rw [takeBinding_action he]
        exact ⟨(recorded_verdict _ _ _ _).trans (sameResults_reconcile ..), fun hno => absurd rfl (hno x a)⟩

theorem takeBinding_advances (b : BindIx) : StepAdvances (s.bde.entries.get b) p (takeBinding p b s).1 := by
  unfold StepAdvances
  cases he : s.bde.entries.get b with
  | unused =>
    rw [takeBinding_unused he]
    exact ⟨rfl, rfl⟩
  | gateEnd =>
    rw [takeBinding_gateEnd he]
    exact ⟨rfl, rfl⟩
  | gate x =>
    rw [takeBinding_gate he]
    exact ⟨rfl, rfl⟩
  | test x chained action =>
    cases chained with
    | true =>
      rw [takeBinding_chained he]
      exact ⟨rfl, rfl⟩
    | false =>
      cases action with
      | none =>
        rw [takeBinding_verdict he]
        exact ⟨rfl, rfl⟩
      | some a =>
        rw [takeBinding_action he]
        exact ⟨rfl, rfl⟩

theorem takeBinding_pass (b : BindIx) : (takeBinding p b s).1
    = { p with gate := (takeBinding p b s).1.gate, chain := (takeBinding p b s).1.chain } := by
  unfold takeBinding
  split
  · rfl
  · rfl
  · rfl
  · dsimp only
    split
    · rfl
    · rfl

theorem takeBinding_sbu (b : BindIx) : (takeBinding p b s).2.sbu = s.sbu := by
  cases he : s.bde.entries.get b with
  | unused => rw [takeBinding_unused he]
  | gateEnd => rw [takeBinding_gateEnd he]
  | gate x =>
    rw [takeBinding_gate he]
    rfl
  | test x chained action =>
    cases chained with
    | true =>
      rw [takeBinding_chained he]
      rfl
    | false =>
      cases action with
      | none =>
        rw [takeBinding_verdict he]
        rfl
      | some a =>
        rw [takeBinding_action he]
        exact reconcile_sbu ..

theorem takeBinding_requested {b : BindIx} (hno : NoAction (s.bde.entries.get b)) :
    (takeBinding p b s).2.bde.passRequested = s.bde.passRequested := by
  cases he : s.bde.entries.get b with
  | unused => rw [takeBinding_unused he]
  | gateEnd => rw [takeBinding_gateEnd he]
  | gate x =>
    rw [takeBinding_gate he]
    rfl
  | test x chained action =>
    cases chained with
    | true =>
      rw [takeBinding_chained he]
      rfl
    | false =>
      cases action with
      | none =>
        rw [takeBinding_verdict he]
        rfl
      | some a => exact absurd he (hno x a)

end

/-! ### A pass once requested stays so -/

/-- A step of the claims that drops no requested pass. -/
def KeepsRequest (s t : State) : Prop := s.bde.passRequested = true → t.bde.passRequested = true

theorem keepsRequest_retire (i : SlotIx) (s : State) : KeepsRequest s (retire i s) := by
  intro h
  unfold retire
  split
  · exact h
  · next c _ =>
    dsimp only
    rw [slotFreed_eq]
    cases c.origin with
    | link =>
      dsimp only
      rw [h]
      rfl
    | binding b =>
      dsimp only [setLink]
      rw [h]
      rfl

theorem bindingRaise_requested (b : BindIx) (a : Action) (s : State) :
    (bindingRaise b a s).bde.passRequested = s.bde.passRequested := by
  unfold bindingRaise
  split
  · rfl
  · split
    · rfl
    · have hlinked (l : BindLink) (u : State) : (setLink b l u).bde.passRequested = u.bde.passRequested := rfl
      dsimp only
      rw [hlinked, raiseInto_bde]

theorem keepsRequest_reconcile (b : BindIx) (a : Action) (matched : Bool) (s : State) :
    KeepsRequest s (reconcile b a matched s) := by
  intro h
  unfold reconcile
  split
  · exact (bindingRaise_requested ..).trans h
  · exact (bindingRaise_requested ..).trans h
  · rw [modifyClaim_bde]
    exact h
  · split
    · exact keepsRequest_retire _ s h
    · rw [modifyClaim_bde]
      exact h
  · exact h
  · exact h

theorem keepsRequest_takeBinding (p : Pass) (b : BindIx) (s : State) : KeepsRequest s (takeBinding p b s).2 := by
  intro h
  by_cases hno : NoAction (s.bde.entries.get b)
  · rw [takeBinding_requested p s hno, h]
  · simp only [NoAction, not_forall, not_not] at hno
    obtain ⟨x, a, he⟩ := hno
    rw [takeBinding_action he]
    exact keepsRequest_reconcile _ _ _ _ h

/-! ### PASS_STEP -/

section
variable {p : Pass} {s : State}

theorem exec_passStep (hawake : Awake s) (hmode : s.mdc.mode = .run) : exec .passStep s = after (passStep s) := by
  change execPassStep s = _
  unfold execPassStep
  rw [act_run hawake, if_pos hmode]
  rfl

theorem exec_passStep_idle (hawake : Awake s) (hidle : s.mdc.mode ≠ .run ∨ s.bde.pass = none) :
    exec .passStep s = after s := by
  change execPassStep s = _
  unfold execPassStep
  rw [act_run hawake]
  by_cases hmode : s.mdc.mode = .run
  · have hpass := hidle.resolve_left fun h => h hmode
    rw [if_pos hmode, passStep, hpass] <;> rfl
  · rw [if_neg hmode] <;> rfl

variable (p s)

/-- The pass that has taken its binding, with the circuits it has changed so far. -/
def steppedPass : Pass :=
  (takeBinding p p.next s).1.touch (touchedCircuits s.clt (takeBinding p p.next s).2.clt)

theorem steppedPass_eq : steppedPass p s = { p with
    gate := (takeBinding p p.next s).1.gate
    chain := (takeBinding p p.next s).1.chain
    touched := tabulate fun c => p.touched.get c || (touchedCircuits s.clt (takeBinding p p.next s).2.clt).get c } := by
  unfold steppedPass Pass.touch
  rw [takeBinding_pass]

theorem steppedPass_touched (c : Circ) : (steppedPass p s).touched.get c
    = (p.touched.get c || (touchedCircuits s.clt (takeBinding p p.next s).2.clt).get c) := by
  rw [steppedPass_eq]
  exact tabulate_get ..

theorem steppedPass_untouched (hno : NoAction (s.bde.entries.get p.next)) : (steppedPass p s).touched = p.touched := by
  refine tbl_ext fun c => ?_
  rw [steppedPass_touched, ((takeBinding_judges p s).2 hno).1, touchedCircuits_self, Bool.or_false]

variable {p s}

theorem passStep_next (hpass : s.bde.pass = some p) (hnext : p.next.val < 63) :
    passStep s = { (takeBinding p p.next s).2 with
      bde := { (takeBinding p p.next s).2.bde with
        pass := some { steppedPass p s with next := ⟨p.next.val + 1, by omega⟩ } } } := by
  have hin : p.next.val + 1 < 64 := by omega
  rw [passStep, hpass]
  exact dif_pos hin

theorem passStep_last (hpass : s.bde.pass = some p) (hlast : p.next.val = 63) :
    passStep s = endPass (steppedPass p s) (takeBinding p p.next s).2 := by
  have hout : ¬p.next.val + 1 < 64 := by omega
  rw [passStep, hpass]
  exact dif_neg hout

end

end Sys2Proof.Machine

/-! PROOFS. The end of a pass (R125–R127), for O45. -/

namespace Sys2Proof.Machine

/-! ### A resolved circuit keeps its agreement -/

/-- The circuits of a set stand resolved as their claims give (R54). -/
def ResolvedOn (v : Vector Bool 16) (s : State) : Prop := ∀ c, v.get c = true → s.crs.resolved.get c = resolve s c

theorem resolvedOn_handOver (v : Vector Bool 16) (s : State) : ResolvedOn v (handOver v s) := by
  intro c hc
  rw [handOver_resolved, if_pos hc]
  exact (resolve_congr (handOver_clt v s) (handOver_inForce v s) c).symm

theorem ResolvedOn.congr {v : Vector Bool 16} {s t : State} (h : ResolvedOn v s) (hclt : t.clt = s.clt)
    (hcrs : t.crs = s.crs) : ResolvedOn v t := by
  intro c hc
  rw [resolve_congr hclt (congrArg Resolver.inForce hcrs), hcrs]
  exact h c hc

theorem resolvedOn_withHandOver {v : Vector Bool 16} {f : State → State} {s : State} (h : ResolvedOn v s)
    (hcrs : (f s).crs = s.crs) : ResolvedOn v (withHandOver f s) := by
  intro c hc
  unfold withHandOver
  dsimp only
  rw [handOver_resolved]
  have hsame := resolve_congr (handOver_clt (touchedCircuits s.clt (f s).clt) (f s))
    (handOver_inForce (touchedCircuits s.clt (f s).clt) (f s)) c
  rw [hsame]
  split
  · rfl
  · next htouched =>
    rw [resolve_of_untouched (congrArg Resolver.inForce hcrs) (Bool.eq_false_iff.mpr htouched), hcrs]
    exact h c hc

theorem beginRequested_frame (s : State) : beginRequested s = { s with bde := (beginRequested s).bde } := by
  unfold beginRequested
  split
  · rfl
  · rfl

theorem resolvedOn_beginRequested {v : Vector Bool 16} {s : State} (h : ResolvedOn v s) :
    ResolvedOn v (beginRequested s) :=
  h.congr (by rw [beginRequested_frame]) (by rw [beginRequested_frame])

/-- A binding's claim retired before its entry is replaced (R133). -/
def unlinked (b : BindIx) (s : State) : State :=
  match (s.bde.recs.get b).link with
  | .claim h => withHandOver (retire h.slot) s
  | .wanting | .none => s

/-- A binding's entry replaced, its record as after reset (R133). -/
def entryPut (b : BindIx) (e : BindEntry) (s : State) : State :=
  { s with bde := { s.bde with entries := put s.bde.entries b e, recs := put s.bde.recs b resetBindRec } }

theorem replaceBinding_eq (b : BindIx) (e : BindEntry) (s : State) :
    replaceBinding b e s = beginRequested (requestPass (entryPut b e (unlinked b s))) := rfl

theorem resolvedOn_replaceBinding {v : Vector Bool 16} {s : State} (h : ResolvedOn v s) (b : BindIx) (e : BindEntry) :
    ResolvedOn v (replaceBinding b e s) := by
  have hunlinked : ResolvedOn v (unlinked b s) := by
    unfold unlinked
    split
    · next hd _ => exact resolvedOn_withHandOver h (move_retire hd.slot s).crs
    · exact h
    · exact h
  rw [replaceBinding_eq]
  exact resolvedOn_beginRequested (hunlinked.congr rfl rfl)

theorem resolvedOn_bindWrite {v : Vector Bool 16} {s : State} (h : ResolvedOn v s) (w : List Byte) :
    ResolvedOn v (bindWrite w s).1 := by
  obtain heq | ⟨b, bytes, e, -, heq⟩ := bindWrite_cases w s
  · rw [heq]
    exact h
  · rw [heq]
    exact resolvedOn_replaceBinding h b e

/-! ### A binding replaced in RUN -/

theorem unlinked_frame (b : BindIx) (s : State) : (unlinked b s).mdc = s.mdc ∧ (unlinked b s).sws = s.sws
    ∧ (unlinked b s).bde.pass = s.bde.pass := by
  unfold unlinked
  split
  · next hd _ =>
    have hmove := move_retire hd.slot s
    unfold withHandOver
    dsimp only
    rw [handOver_mdc, handOver_sws, handOver_bde]
    exact ⟨hmove.mdc, hmove.sws, hmove.pass⟩
  · exact ⟨rfl, rfl, rfl⟩
  · exact ⟨rfl, rfl, rfl⟩

theorem replaceBinding_begins {b : BindIx} {e : BindEntry} {s : State} (hmode : s.mdc.mode = .run)
    (hpass : s.bde.pass = none) :
    (replaceBinding b e s).bde.pass = some (freshPass s) ∧ (replaceBinding b e s).bde.passRequested = false := by
  obtain ⟨hmdc, hsws, hnone⟩ := unlinked_frame b s
  have hrun : (requestPass (entryPut b e (unlinked b s))).mdc.mode = .run := (congrArg ModeControl.mode hmdc).trans hmode
  rw [replaceBinding_eq, beginRequested_bde, if_pos ⟨hrun, hnone.trans hpass, rfl⟩]
  exact ⟨congrArg some (freshPass_congr hsws), rfl⟩

/-- A BIND.WRITE between passes reads nothing of the pass-requested mark: it is refused on either state, or it leaves the
same state. -/
theorem bindWrite_setRequested (x : Bool) (w : List Byte) (s : State) :
    (bindWrite w (setRequested x s)).2 = (bindWrite w s).2
      ∧ ((bindWrite w s).1 = s ∧ (bindWrite w (setRequested x s)).1 = setRequested x s
        ∨ ∃ b e, (bindWrite w s).1 = replaceBinding b e s ∧ (bindWrite w (setRequested x s)).1 = replaceBinding b e s) := by
  have hbusy : storeBusy (setRequested x s) = storeBusy s := rfl
  unfold bindWrite
  rw [hbusy]
  split
  · exact ⟨rfl, .inl ⟨rfl, rfl⟩⟩
  · cases w with
    | nil => exact ⟨rfl, .inl ⟨rfl, rfl⟩⟩
    | cons binding bytes =>
      dsimp only
      split
      · exact ⟨rfl, .inl ⟨rfl, rfl⟩⟩
      · split
        · next hb =>
          cases judgeBind bytes with
          | error e => exact ⟨rfl, .inl ⟨rfl, rfl⟩⟩
          | ok r =>
            obtain ⟨e, clamped⟩ := r
            exact ⟨rfl, .inr ⟨⟨binding.toNat, hb⟩, e, rfl, replaceBinding_setRequested ..⟩⟩
        · exact ⟨rfl, .inl ⟨rfl, rfl⟩⟩

/-! ### The end of a pass -/

/-- The state at the end of a pass, its circuits handed over, before a waiting BIND.WRITE and a requested pass. -/
def passEnded (p : Pass) (s : State) : State :=
  handOver (steppedPass p s).touched { (takeBinding p p.next s).2 with
    bde := { (takeBinding p p.next s).2.bde with pass := none } }

section
variable {p : Pass} {s : State}

theorem passEnded_bde : (passEnded p s).bde = { (takeBinding p p.next s).2.bde with pass := none } := by
  unfold passEnded
  rw [handOver_bde]

theorem passEnded_link : (passEnded p s).lif.link = s.lif.link := by
  unfold passEnded
  rw [handOver_lif]
  exact (move_takeBinding p p.next s).link

theorem passEnded_mdc : (passEnded p s).mdc = s.mdc := by
  unfold passEnded
  rw [handOver_mdc]
  exact (move_takeBinding p p.next s).mdc

theorem passEnded_sws : (passEnded p s).sws = s.sws := by
  unfold passEnded
  rw [handOver_sws]
  exact (move_takeBinding p p.next s).sws

theorem passEnded_waiting : (passEnded p s).bde.waiting = s.bde.waiting := by
  rw [passEnded_bde]
  exact (move_takeBinding p p.next s).waiting

theorem handOver_unwaiting (v : Vector Bool 16) (s : State) : handOver v (unwaiting s) = unwaiting (handOver v s) := by
  rw [handOver_bdeEq (s := s) v rfl]
  unfold unwaiting
  rw [handOver_bde]

variable (p s) in
theorem passEnded_unwaiting : passEnded p (unwaiting s) = unwaiting (passEnded p s) := by
  have htaken := takeBinding_unwaiting s p p.next
  have htouched : (steppedPass p (unwaiting s)).touched = (steppedPass p s).touched := by
    unfold steppedPass
    rw [htaken]
    rfl
  unfold passEnded
  rw [htouched, htaken, ← handOver_unwaiting]
  rfl

theorem passStep_ended (hpass : s.bde.pass = some p) (hlast : p.next.val = 63) :
    passStep s = beginRequested (serveWaiting (passEnded p s)) := passStep_last hpass hlast

end

/-! ### The BIND.WRITE that has waited (R127) -/

section
variable {u : State} {w : List Byte}

theorem serveWaiting_none (h : u.bde.waiting = none) : serveWaiting u = u := by
  rw [serveWaiting, h]

theorem serveWaiting_serves (h : u.bde.waiting = some w) (hlink : u.lif.link = .working { req := .bindWrite, params := w }) :
    serveWaiting u = answer (bindWrite w (unwaiting u)).2 (bindWrite w (unwaiting u)).1 := by
  have hwork : inWork .bindWrite w (unwaiting u) = true := (inWork_iff .bindWrite w (unwaiting u)).mpr hlink
  rw [serveWaiting, h]
  exact if_pos hwork

theorem serveWaiting_drops (h : u.bde.waiting = some w) (hlink : u.lif.link ≠ .working { req := .bindWrite, params := w }) :
    serveWaiting u = unwaiting u := by
  have hidle : ¬inWork .bindWrite w (unwaiting u) = true := fun hw => hlink ((inWork_iff .bindWrite w (unwaiting u)).mp hw)
  rw [serveWaiting, h]
  exact if_neg hidle

/-- A state in which a pass may begin as requested, or has begun on the codes that stand in `s`. -/
structure PassDue (v : Vector Bool 16) (s u : State) : Prop where
  resolved : ResolvedOn v u
  waiting : u.bde.waiting = none
  run : u.mdc.mode = .run
  due : u.bde.pass = none ∧ freshPass u = freshPass s ∧ (s.bde.passRequested = true → u.bde.passRequested = true)
    ∨ u.bde.pass = some (freshPass s) ∧ u.bde.passRequested = false

theorem passDue_bindWrite {v : Vector Bool 16} {s : State} (h : PassDue v s u) (hnone : u.bde.pass = none) (w : List Byte) :
    PassDue v s (bindWrite w u).1 := by
  obtain heq | ⟨b, bytes, e, -, heq⟩ := bindWrite_cases w u
  · rw [heq]
    exact h
  · obtain ⟨hfresh, hcleared⟩ := replaceBinding_begins (b := b) (e := e) h.run hnone
    have hcodes : freshPass u = freshPass s := by
      obtain ⟨-, hcodes, -⟩ | ⟨hpass, -⟩ := h.due
      · exact hcodes
      · rw [hnone] at hpass
        cases hpass
    rw [heq]
    exact {
      resolved := resolvedOn_replaceBinding h.resolved b e
      waiting := (replaceBinding_kept b e u).2.trans h.waiting
      run := by rw [replaceBinding_mdc, h.run]
      due := .inr ⟨hfresh.trans (congrArg some hcodes), hcleared⟩ }

theorem PassDue.answered {v : Vector Bool 16} {s : State} (h : PassDue v s u) (r : Reply) : PassDue v s (answer r u) :=
  { resolved := h.resolved.congr rfl rfl, waiting := h.waiting, run := h.run, due := h.due }

theorem passDue_serveWaiting {v : Vector Bool 16} {s : State} (h : PassDue v s (unwaiting u)) (hnone : u.bde.pass = none) :
    PassDue v s (serveWaiting u) := by
  cases hwaiting : u.bde.waiting with
  | none =>
    have hself : unwaiting u = u := by
      unfold unwaiting
      rw [← hwaiting]
    rw [serveWaiting_none hwaiting, ← hself]
    exact h
  | some w =>
    by_cases hlink : u.lif.link = .working { req := .bindWrite, params := w }
    · rw [serveWaiting_serves hwaiting hlink]
      exact (passDue_bindWrite h hnone w).answered _
    · rw [serveWaiting_drops hwaiting hlink]
      exact h

/-- A requested pass has begun. -/
theorem passDue_begins {v : Vector Bool 16} {s : State} (h : PassDue v s u) : ResolvedOn v (beginRequested u)
    ∧ (beginRequested u).bde.waiting = none
    ∧ (s.bde.passRequested = true → (beginRequested u).bde.pass = some (freshPass s)
        ∧ (beginRequested u).bde.passRequested = false) := by
  refine ⟨resolvedOn_beginRequested h.resolved, ?_, fun hrequested => ?_⟩
  · rw [beginRequested_bde]
    split
    · exact h.waiting
    · exact h.waiting
  · rw [beginRequested_bde]
    obtain ⟨hnone, hcodes, hkept⟩ | ⟨hpass, hcleared⟩ := h.due
    · rw [if_pos ⟨h.run, hnone, hkept hrequested⟩]
      exact ⟨congrArg some hcodes, rfl⟩
    · rw [if_neg (by rw [hpass]; rintro ⟨-, hnone, -⟩; cases hnone)]
      exact ⟨hpass, hcleared⟩

end

theorem passDue_passEnded {p : Pass} {s : State} (hmode : s.mdc.mode = .run) :
    PassDue p.touched s (unwaiting (passEnded p s)) := by
  have hstepped : ResolvedOn (steppedPass p s).touched (passEnded p s) := by
    unfold passEnded
    exact resolvedOn_handOver _ _
  have hresolved : ResolvedOn p.touched (passEnded p s) := fun c hc =>
    hstepped c (by rw [steppedPass_touched, hc, Bool.true_or])
  have hcodes : freshPass (passEnded p s) = freshPass s := freshPass_congr passEnded_sws
  have hrequested : (passEnded p s).bde.passRequested = (takeBinding p p.next s).2.bde.passRequested := by
    rw [passEnded_bde]
  have hnone : (passEnded p s).bde.pass = none := by rw [passEnded_bde]
  have hrun : (passEnded p s).mdc.mode = .run := by rw [passEnded_mdc, hmode]
  clear hstepped
  generalize passEnded p s = u at *
  have hcodes : freshPass (unwaiting u) = freshPass s := (freshPass_congr rfl).trans hcodes
  exact {
    resolved := hresolved.congr (t := unwaiting u) rfl rfl
    waiting := rfl
    run := hrun
    due := .inl ⟨hnone, hcodes, fun h => hrequested.trans (keepsRequest_takeBinding p p.next s h)⟩ }

end Sys2Proof.Machine

/-! PROOFS. Settles O45: the steps of a pass and its end (R118–R122, R125–R127). -/

namespace Sys2Proof.Machine

section
variable {p : Pass} {s : State}

/-! ### A step before the last -/

theorem passStep_midway (hawake : Awake s) (hmode : s.mdc.mode = .run) (hpass : s.bde.pass = some p)
    (hnext : p.next.val < 63) :
    ∃ t q, exec .passStep s = after t ∧ t.bde.pass = some q ∧ q.next.val = p.next.val + 1 ∧ q.codes = p.codes
      ∧ t.bde.entries = s.bde.entries ∧ t.bde.waiting = s.bde.waiting
      ∧ (∀ c, p.touched.get c = true → q.touched.get c = true)
      ∧ t.crs = s.crs ∧ t.fls = s.fls ∧ t.chd = s.chd ∧ t.sbu = s.sbu ∧ t.sws = s.sws ∧ t.gau = s.gau ∧ t.mdc = s.mdc
      ∧ StepJudges s t p ∧ StepAdvances (s.bde.entries.get p.next) p q
      ∧ (NoAction (s.bde.entries.get p.next) →
          t.bde.passRequested = s.bde.passRequested ∧ q.touched = p.touched) := by
  have hmove := move_takeBinding p p.next s
  refine ⟨passStep s, { steppedPass p s with next := ⟨p.next.val + 1, by omega⟩ }, exec_passStep hawake hmode, ?_⟩
  rw [passStep_next hpass hnext]
  refine ⟨rfl, rfl, by rw [steppedPass_eq], hmove.entries, hmove.waiting, fun c hc => ?_, hmove.crs, hmove.fls, hmove.chd,
    takeBinding_sbu .., hmove.sws, hmove.gau, hmove.mdc, (takeBinding_judges p s).congr rfl rfl rfl, ?_, fun hno =>
      ⟨takeBinding_requested p s hno, steppedPass_untouched p s hno⟩⟩
  · change (steppedPass p s).touched.get c = true
    rw [steppedPass_touched, hc, Bool.true_or]
  · rw [steppedPass_eq]
    exact takeBinding_advances p s p.next

/-! ### The last step, no BIND.WRITE waiting -/

theorem passEnded_judges (p : Pass) (s : State) : StepJudges s (passEnded p s) p := by
  refine (takeBinding_judges p s).congr ?_ ?_ ?_
  · rw [passEnded_bde]
  · unfold passEnded
    rw [handOver_clt]
  · unfold passEnded
    rw [handOver_lif]

theorem passEnded_claims : (passEnded p s).clt = (takeBinding p p.next s).2.clt := by
  unfold passEnded
  rw [handOver_clt]

theorem passEnded_inForce : (passEnded p s).crs.inForce = s.crs.inForce := by
  unfold passEnded
  rw [handOver_inForce]
  exact congrArg Resolver.inForce (move_takeBinding p p.next s).crs

theorem passEnded_settings : (passEnded p s).bde.entries = s.bde.entries ∧ (passEnded p s).sbu = s.sbu
    ∧ (passEnded p s).gau = s.gau := by
  have hmove := move_takeBinding p p.next s
  rw [passEnded_bde]
  unfold passEnded
  rw [handOver_sbu, handOver_gau]
  exact ⟨hmove.entries, takeBinding_sbu .., hmove.gau⟩

theorem passStep_alone (hpass : s.bde.pass = some p) (hlast : p.next.val = 63) (hwaiting : s.bde.waiting = none) :
    passStep s = beginRequested (passEnded p s) := by
  rw [passStep_ended hpass hlast, serveWaiting_none (passEnded_waiting.trans hwaiting)]

theorem passStep_alone_leaves (hpass : s.bde.pass = some p) (hlast : p.next.val = 63) (hwaiting : s.bde.waiting = none) :
    StepJudges s (passStep s) p ∧ (passStep s).bde.entries = s.bde.entries ∧ (passStep s).sbu = s.sbu
      ∧ (passStep s).sws = s.sws ∧ (passStep s).gau = s.gau ∧ (passStep s).mdc = s.mdc
      ∧ (passStep s).crs.inForce = s.crs.inForce
      ∧ ∀ c, (touchedCircuits s.clt (passStep s).clt).get c = true → (passStep s).crs.resolved.get c = resolve (passStep s) c := by
  have hjudges := passEnded_judges p s
  obtain ⟨hentries, hsbu, hgau⟩ := passEnded_settings (p := p) (s := s)
  have hsws := passEnded_sws (p := p) (s := s)
  have hmdc := passEnded_mdc (p := p) (s := s)
  have hinForce := passEnded_inForce (p := p) (s := s)
  have hclaims := passEnded_claims (p := p) (s := s)
  have hresolved : ResolvedOn (steppedPass p s).touched (passEnded p s) := by
    unfold passEnded
    exact resolvedOn_handOver _ _
  rw [passStep_alone hpass hlast hwaiting]
  generalize passEnded p s = u at *
  have hbegun := resolvedOn_beginRequested hresolved
  rw [beginRequested_sbu, beginRequested_sws, beginRequested_gau, beginRequested_mdc, beginRequested_crs]
  refine ⟨hjudges.congr (beginRequested_recs u) (beginRequested_clt u) (beginRequested_lif u), (beginRequested_entries u).trans hentries, hsbu, hsws, hgau, hmdc,
    hinForce, fun c hc => ?_⟩
  rw [beginRequested_clt, hclaims] at hc
  have hcircuit := hbegun c (by rw [steppedPass_touched, hc, Bool.or_true])
  rw [beginRequested_crs] at hcircuit
  exact hcircuit

theorem passStep_alone_idle (hpass : s.bde.pass = some p) (hlast : p.next.val = 63) (hwaiting : s.bde.waiting = none)
    (hrequested : s.bde.passRequested = false) (hno : NoAction (s.bde.entries.get p.next)) :
    (passStep s).bde.pass = none := by
  have hended : (passEnded p s).bde.passRequested = false := by
    rw [passEnded_bde]
    exact (takeBinding_requested p s hno).trans hrequested
  have hnone : (passEnded p s).bde.pass = none := by rw [passEnded_bde]
  rw [passStep_alone hpass hlast hwaiting, beginRequested_bde, if_neg (by rw [hended]; simp)]
  exact hnone

/-! ### The last step with a BIND.WRITE that has waited -/

/-- The pass that a state runs, unless one has begun on it already. -/
def runsOr (pass : Option Pass) (t : State) : State :=
  { t with bde := { t.bde with pass := if t.bde.pass.isSome then t.bde.pass else pass } }

theorem settleTimer_runsOr (pass : Option Pass) (t : State) : settleTimer (runsOr pass t) = runsOr pass (settleTimer t) := rfl

theorem settleTimer_working {u : State} {r : Request} (hlink : u.lif.link = .working r) (htimer : u.mdc.sleepTimer = none) :
    settleTimer u = u := by
  have hdoze : mayDoze u = false := by
    unfold mayDoze
    rw [hlink, Bool.and_false]
  unfold settleTimer
  rw [if_neg (by rw [hdoze]; exact Bool.false_ne_true), ← htimer]

/-- With the pass stopped that has begun as requested, a state is the one before it with the mark cleared. -/
theorem beginRequested_stopped {u : State} (hrun : u.mdc.mode = .run) (hnone : u.bde.pass = none) :
    (beginRequested u).bde.passRequested = false
      ∧ { beginRequested u with bde := { (beginRequested u).bde with pass := none } } = setRequested false u := by
  by_cases hrequested : u.bde.passRequested = true
  · have hbegins : (u.mdc.mode == .run && u.bde.pass.isNone && u.bde.passRequested) = true := by
      rw [hrun, hnone, hrequested]
      rfl
    unfold beginRequested setRequested
    rw [if_pos hbegins, ← hnone]
    exact ⟨rfl, rfl⟩
  · have hcleared := Bool.eq_false_iff.mpr hrequested
    have hstands : ¬(u.mdc.mode == .run && u.bde.pass.isNone && u.bde.passRequested) = true := by
      rw [hcleared, Bool.and_false]
      exact Bool.false_ne_true
    unfold beginRequested setRequested
    rw [if_neg hstands, ← hnone, ← hcleared]
    exact ⟨rfl, rfl⟩

/-- A BIND.WRITE carried out before the requested pass begins leaves what it leaves between passes, with that pass
running unless the write has begun its own (R127, R133). -/
theorem bindWrite_then_begins {u : State} (hrun : u.mdc.mode = .run) (hnone : u.bde.pass = none) (w : List Byte) :
    beginRequested (answer (bindWrite w u).2 (bindWrite w u).1)
      = runsOr (beginRequested u).bde.pass
          (answer (bindWrite w (setRequested false u)).2 (bindWrite w (setRequested false u)).1) := by
  obtain ⟨hreply, ⟨hrefused, hrefused'⟩ | ⟨b, e, hstored, hstored'⟩⟩ := bindWrite_setRequested false w u
  · rw [hreply, hrefused, hrefused']
    have hstopped := (beginRequested_stopped hrun hnone).2
    have hansweredBegins (r : Reply) : beginRequested (answer r u) = answer r (beginRequested u) := by
      change (if (u.mdc.mode == .run && u.bde.pass.isNone && u.bde.passRequested) = true then
          answer r { u with bde := { u.bde with pass := some (freshPass u), passRequested := false } } else answer r u) = _
      unfold beginRequested
      split
      · rfl
      · rfl
    rw [hansweredBegins, ← hstopped]
    rfl
  · rw [hreply, hstored, hstored']
    obtain ⟨hbegun, hcleared⟩ := replaceBinding_begins (b := b) (e := e) hrun hnone
    generalize replaceBinding b e u = x at *
    have hstands : ¬((answer (bindWrite w u).2 x).mdc.mode == .run && (answer (bindWrite w u).2 x).bde.pass.isNone
        && (answer (bindWrite w u).2 x).bde.passRequested) = true := by
      change ¬(x.mdc.mode == .run && x.bde.pass.isNone && x.bde.passRequested) = true
      rw [hcleared, Bool.and_false]
      exact Bool.false_ne_true
    have hruns : (answer (bindWrite w u).2 x).bde.pass.isSome = true := by
      change x.bde.pass.isSome = true
      rw [hbegun]
      rfl
    unfold beginRequested runsOr
    rw [if_neg hstands, if_pos hruns]

theorem passStep_served (hawake : Awake s) (hmode : s.mdc.mode = .run) (hpass : s.bde.pass = some p)
    (hlast : p.next.val = 63) {w : List Byte} (hwaiting : s.bde.waiting = some w)
    (hlink : s.lif.link = .working { req := .bindWrite, params := w }) (htimer : s.mdc.sleepTimer = none) :
    ∃ ended t', exec .passStep (unwaiting s) = .next ended ∧ ended.bde.passRequested = false ∧ ended.mdc.mode = .run
      ∧ Handed .bindWrite w { ended with bde := { ended.bde with pass := none } }
      ∧ exec (.bindWrite w) { ended with bde := { ended.bde with pass := none } } = .next t'
      ∧ exec .passStep s = .next (runsOr ended.bde.pass t') := by
  have halone : passStep (unwaiting s) = beginRequested (unwaiting (passEnded p s)) := by
    rw [passStep_alone (s := unwaiting s) hpass hlast rfl, passEnded_unwaiting]
  have hkept (u : State) : (unwaiting u).lif = u.lif ∧ (unwaiting u).mdc = u.mdc ∧ (unwaiting u).bde.pass = u.bde.pass :=
    ⟨rfl, rfl, rfl⟩
  have hlink' : (unwaiting (passEnded p s)).lif.link = .working { req := .bindWrite, params := w } := by
    rw [(hkept _).1, passEnded_link, hlink]
  have hserves : passStep s = beginRequested (answer (bindWrite w (unwaiting (passEnded p s))).2
      (bindWrite w (unwaiting (passEnded p s))).1) := by
    rw [passStep_ended hpass hlast, serveWaiting_serves (passEnded_waiting.trans hwaiting) (passEnded_link.trans hlink)]
  have hmdc : (unwaiting (passEnded p s)).mdc = s.mdc := by rw [(hkept _).2.1, passEnded_mdc]
  have hnone : (unwaiting (passEnded p s)).bde.pass = none := by rw [(hkept _).2.2, passEnded_bde]
  have hexec : exec .passStep (unwaiting s) = after (passStep (unwaiting s)) := exec_passStep (s := unwaiting s) hawake hmode
  rw [halone] at hexec
  rw [exec_passStep hawake hmode, hserves]
  generalize unwaiting (passEnded p s) = u at *
  have hrun : u.mdc.mode = .run := by rw [hmdc, hmode]
  obtain ⟨hcleared, hstopped⟩ := beginRequested_stopped hrun hnone
  have hsettled : settleTimer (beginRequested u) = beginRequested u := by
    refine settleTimer_working (r := { req := .bindWrite, params := w }) ?_ ?_
    · rw [beginRequested_lif, hlink']
    · rw [beginRequested_mdc, hmdc, htimer]
  have hhanded : Handed .bindWrite w (setRequested false u) := ⟨(congrArg ModeControl.heldInReset hmdc).trans hawake, hlink'⟩
  refine ⟨beginRequested u, settleTimer (answer (bindWrite w (setRequested false u)).2 (bindWrite w (setRequested false u)).1),
    ?_, hcleared, ?_, ?_, ?_, ?_⟩
  · rw [hexec, after, hsettled]
  · rw [beginRequested_mdc, hrun]
  · rw [hstopped]
    exact hhanded
  · rw [hstopped]
    exact exec_bindWrite_between hhanded hnone rfl
  · rw [after, bindWrite_then_begins hrun hnone]
    rfl

/-! ### The last step -/

theorem passStep_last_leaves (hmode : s.mdc.mode = .run) (hpass : s.bde.pass = some p) (hlast : p.next.val = 63) :
    ResolvedOn p.touched (passStep s) ∧ (passStep s).bde.waiting = none
      ∧ (s.bde.passRequested = true → (passStep s).bde.pass = some (freshPass s) ∧ (passStep s).bde.passRequested = false) := by
  have hnone : (passEnded p s).bde.pass = none := by rw [passEnded_bde]
  rw [passStep_ended hpass hlast]
  exact passDue_begins (passDue_serveWaiting (passDue_passEnded hmode) hnone)

/-- After a BIND.WRITE that has waited the link holds its reply (R127). -/
theorem passStep_replies (hpass : s.bde.pass = some p) (hlast : p.next.val = 63) {w : List Byte}
    (hwaiting : s.bde.waiting = some w) (hlink : s.lif.link = .working { req := .bindWrite, params := w }) :
    ∃ reply, (passStep s).lif.link = .replyReady reply := by
  refine ⟨(bindWrite w (unwaiting (passEnded p s))).2, ?_⟩
  rw [passStep_ended hpass hlast, serveWaiting_serves (passEnded_waiting.trans hwaiting) (passEnded_link.trans hlink),
    beginRequested_lif]
  rfl

end

/-- Settles O45: by the kind of the binding that a step takes, and at the last step by the BIND.WRITE that waits. -/
theorem passRule : Obligations.PassRule := by
  unfold Obligations.PassRule
  intro judged
  refine ⟨⟨fun codes x => ⟨passes_unknown, fun code hcode => ?_⟩, fun s hawake hidle => exec_passStep_idle hawake hidle,
    fun s p hawake hmode hpass hnext => passStep_midway hawake hmode hpass hnext⟩, fun s p hawake hmode hpass hlast => ?_⟩
  · exact passes_iff hcode
  · obtain ⟨hresolved, hwaiting, hrequested⟩ := passStep_last_leaves hmode hpass hlast
    have hb63 : p.next = 63 := Fin.ext hlast
    refine ⟨passStep s, exec_passStep hawake hmode, hresolved, hwaiting, fun hnone => ?_, fun hreq => ?_,
      fun hnone hclear hno => ?_, fun w hwaits hlink => ⟨passStep_replies hpass hlast hwaits hlink, fun htimer => ?_⟩⟩
    · exact passStep_alone_leaves hpass hlast hnone
    · obtain ⟨hbegun, hcleared⟩ := hrequested hreq
      exact ⟨hbegun, hcleared⟩
    · exact passStep_alone_idle hpass hlast hnone hclear (by rw [hb63]; exact hno)
    · exact passStep_served hawake hmode hpass hlast hwaits hlink htimer

end Sys2Proof.Machine

/-! PROOFS. Settles O46: an action binding's claim brought into agreement with the verdict (R123, R124). -/

namespace Sys2Proof.Machine

/-! ### The raise of a binding (R10) -/

/-- What a binding raises (R10). -/
def bindingAsk (b : BindIx) (a : Action) : Raise :=
  { origin := .binding b, circuit := a.circuit, mode := a.mode, cls := a.cls, level := a.level, floor := a.floor
    share := a.share, expiry := 0 }

section
variable {s : State} {b : BindIx} {a : Action}

/-- The record that a binding's raise fills (R10). -/
theorem newClaim_bindingAsk (hmax : 1 ≤ maxLevelOf s a.circuit) (req : Nat)
    (hreq : req = if a.mode = .flash then maxLevelOf s a.circuit
      else if a.level = 0 then 1 else min (maxLevelOf s a.circuit) a.level) :
    newClaim s (bindingAsk b a) =
      { origin := .binding b, circuit := a.circuit, mode := a.mode, cls := a.cls, requested := req
        floor := if a.mode = .flash then maxLevelOf s a.circuit else match a.floor with
          | none => req
          | some f => if f = 0 then 1 else min req f
        shareFull := match a.share with
          | some n => min n 250
          | none => min 250 ((s.crs.inForce.get a.circuit).channels.map fun ch => (s.chd.get ch).profile.nominal).sum
        source := if a.share.isSome then .given else .circuit
        state := .held { budgetTimer := none, crank := false, host := false }, expiry := none, settle := none } := by
  obtain ⟨circuit, mode, cls, level, floor, share, offDelay⟩ := a
  have hpos : 1 ≤ req := by
    subst hreq
    split_ifs
    · exact hmax
    · exact le_rfl
    · omega
  unfold newClaim bindingAsk
  simp only [Claim.mk.injEq, true_and, and_true]
  cases mode with
  | flash => exact ⟨hreq.symm, rfl, by cases share <;> rfl, rfl⟩
  | steady =>
    have hlevel : raiseLevel (maxLevelOf s circuit) level = req := (clampNat_one hmax).trans hreq.symm
    refine ⟨hlevel, ?_, by cases share <;> rfl, rfl⟩
    dsimp only
    rw [hlevel]
    cases floor with
    | none => rfl
    | some f => exact clampNat_one hpos

/-- A binding raises no claim on a circuit without channels (R10, log 39). -/
theorem bindingRaise_unwired (h : (s.crs.inForce.get a.circuit).channels = []) : bindingRaise b a s = setLink b .none s := by
  unfold bindingRaise
  rw [h]
  exact if_pos rfl

theorem bindingRaise_full (h : (s.crs.inForce.get a.circuit).channels ≠ []) (hfull : ∀ i, (claimAt s i).isSome = true) :
    bindingRaise b a s = setFlag .tableFull (setLink b .wanting s) := by
  have hwired : ¬(s.crs.inForce.get a.circuit).channels.isEmpty = true := by simpa using h
  unfold bindingRaise
  rw [if_neg hwired, freeSlot_full hfull]

theorem bindingRaise_free {i : SlotIx} (h : (s.crs.inForce.get a.circuit).channels ≠ []) (hfree : claimAt s i = none)
    (hbelow : ∀ j, j < i → (claimAt s j).isSome = true) :
    bindingRaise b a s = setLink b (.claim (handleAt s i)) (raiseInto i (bindingAsk b a) s) := by
  have hwired : ¬(s.crs.inForce.get a.circuit).channels.isEmpty = true := by simpa using h
  unfold bindingRaise
  rw [if_neg hwired, freeSlot_lowest hfree hbelow] <;> rfl

/-! ### The rows of R123 -/

/-- The binding owns no claim. -/
def Unowning (s : State) (b : BindIx) : Prop := ∀ h, (s.bde.recs.get b).link ≠ .claim h

theorem reconcile_raises (h : Unowning s b) : reconcile b a true s = bindingRaise b a s := by
  unfold reconcile
  cases hlink : (s.bde.recs.get b).link with
  | none => rfl
  | wanting => rfl
  | claim hd => exact absurd hlink (h hd)

theorem reconcile_unmatched (h : Unowning s b) :
    (reconcile b a false s).clt = s.clt ∧ (reconcile b a false s).lif = s.lif
      ∧ ∀ k, ((reconcile b a false s).bde.recs.get k).link = if b = k then .none else (s.bde.recs.get k).link := by
  unfold reconcile
  cases hlink : (s.bde.recs.get b).link with
  | none =>
    refine ⟨rfl, rfl, fun k => ?_⟩
    change (s.bde.recs.get k).link = _
    by_cases hk : b = k
    · rw [if_pos hk, ← hk, hlink]
    · rw [if_neg hk]
  | wanting => exact ⟨rfl, rfl, fun k => ClaimLaw.setLink_link ..⟩
  | claim hd => exact absurd hlink (h hd)

theorem reconcile_matched {h : Handle} (hlink : (s.bde.recs.get b).link = .claim h) :
    reconcile b a true s = modifyClaim h.slot (fun c => { c with expiry := none }) s := by
  unfold reconcile
  rw [hlink]

theorem reconcile_delays {h : Handle} (hlink : (s.bde.recs.get b).link = .claim h) (hdelay : 0 < a.offDelay) :
    reconcile b a false s
      = modifyClaim h.slot (fun c => if c.expiry.isNone then { c with expiry := some a.offDelay } else c) s := by
  unfold reconcile
  rw [hlink]
  exact if_neg (by omega)

theorem reconcile_retires {h : Handle} (hlink : (s.bde.recs.get b).link = .claim h) (hdelay : a.offDelay = 0) :
    reconcile b a false s = retire h.slot s := by
  unfold reconcile
  rw [hlink]
  exact if_pos hdelay

theorem delayed_expiry (c : Claim) (n : Nat) :
    (if c.expiry.isNone then { c with expiry := some n } else c) = { c with expiry := some (c.expiry.getD n) } := by
  obtain ⟨origin, circuit, mode, cls, requested, floor, shareFull, source, state, expiry, settle⟩ := c
  cases expiry with
  | none => rfl
  | some e => rfl

end

/-! ### The binding a step takes -/

/-- What a step leaves of the claims, of the link interface and of the claim links (R120). -/
structure Reaches (t r : State) : Prop where
  clt : t.clt = r.clt
  lif : t.lif = r.lif
  links : ∀ b, (t.bde.recs.get b).link = (r.bde.recs.get b).link

section
variable {p : Pass} {s : State}

theorem passStep_reaches (hpass : s.bde.pass = some p) (hlast : p.next.val = 63 → s.bde.waiting = none) :
    Reaches (passStep s) (takeBinding p p.next s).2 := by
  by_cases hnext : p.next.val < 63
  · rw [passStep_next hpass hnext]
    exact ⟨rfl, rfl, fun _ => rfl⟩
  · have h63 : p.next.val = 63 := by omega
    have hclt := passEnded_claims (p := p) (s := s)
    have hbde := passEnded_bde (p := p) (s := s)
    have hlif : (passEnded p s).lif = (takeBinding p p.next s).2.lif := by
      unfold passEnded
      rw [handOver_lif]
    rw [passStep_alone hpass h63 (hlast h63)]
    generalize passEnded p s = u at *
    refine ⟨by rw [beginRequested_clt, hclt], by rw [beginRequested_lif, hlif], fun b => ?_⟩
    rw [beginRequested_recs, hbde]

/-- A step at an action binding reconciles its claim with the verdict, on a state that differs in the records of tests and
verdicts alone (R120–R122). -/
theorem passStep_reconciles {x : Test} {a : Action} (hpass : s.bde.pass = some p)
    (hlast : p.next.val = 63 → s.bde.waiting = none) (he : s.bde.entries.get p.next = .test x false (some a)) :
    Reaches (passStep s) (reconcile p.next a (matchedBy p x) (verdictRecorded p p.next x s)) := by
  have hreach := passStep_reaches hpass hlast
  rw [takeBinding_action he] at hreach
  exact hreach

end

section
variable {s t : State} {b : BindIx} {a : Action}

/-- The other bindings' claim links stand (R123). -/
theorem reconcile_other_links (hlinks : LinksAgree s) (matched : Bool) {k : BindIx} (hk : k ≠ b) :
    ((reconcile b a matched s).bde.recs.get k).link = (s.bde.recs.get k).link := by
  have hset (l : BindLink) (u : State) : ((setLink b l u).bde.recs.get k).link = (u.bde.recs.get k).link := by
    rw [ClaimLaw.setLink_link, if_neg (Ne.symm hk)]
  have hraise : ((bindingRaise b a s).bde.recs.get k).link = (s.bde.recs.get k).link := by
    unfold bindingRaise
    split
    · exact hset _ _
    · split
      · exact hset _ _
      · exact (hset _ _).trans (by rw [raiseInto_bde])
  cases hlink : (s.bde.recs.get b).link with
  | none =>
    have hno : Unowning s b := fun h => by rw [hlink]; exact nofun
    cases matched with
    | true => rw [reconcile_raises hno, hraise]
    | false => rw [(reconcile_unmatched hno).2.2, if_neg (Ne.symm hk)]
  | wanting =>
    have hno : Unowning s b := fun h => by rw [hlink]; exact nofun
    cases matched with
    | true => rw [reconcile_raises hno, hraise]
    | false => rw [(reconcile_unmatched hno).2.2, if_neg (Ne.symm hk)]
  | claim h =>
    cases matched with
    | true => rw [reconcile_matched hlink, modifyClaim_bde]
    | false =>
      by_cases hdelay : a.offDelay = 0
      · obtain ⟨-, howner⟩ := hlinks.1 b h hlink
        obtain ⟨c, hc, horigin⟩ := Option.map_eq_some_iff.mp howner
        rw [reconcile_retires hlink hdelay, link_retire hc, if_neg (by rw [horigin]; exact fun heq => hk (by cases heq; rfl))]
      · rw [reconcile_delays hlink (by omega), modifyClaim_bde]

/-- The claim that a binding raises into a free slot, placed by admission (R10, R34). -/
theorem bindingRaise_places {i : SlotIx} {asked : Claim} (hexact : CollectionsExact s)
    (hwired : (s.crs.inForce.get a.circuit).channels ≠ []) (hfree : claimAt s i = none)
    (hbelow : ∀ j, j < i → (claimAt s j).isSome = true) (hasked : newClaim s (bindingAsk b a) = asked)
    (horigin : asked.origin = .binding b) (hsettle : asked.settle = none) :
    ((bindingRaise b a s).bde.recs.get b).link = .claim (handleAt s i)
      ∧ OneRecord s (bindingRaise b a s) i (asked.placed s) ∧ Placed s (bindingRaise b a s) i (asked.placed s)
      ∧ (bindingRaise b a s).lif = if (asked.placed s).isHeld then { s.lif with status := s.lif.status ||| 0x4 } else s.lif := by
  obtain ⟨hone, hplaced, haside⟩ := (readied_setClaim hfree hsettle).admitted hexact
  have hraise : raiseInto i (bindingAsk b a) s = admitSlot i { s with clt := s.clt.setClaim i (some asked) } := by
    rw [raiseInto, hasked]
  have hbound : (asked.origin != .link) = true := by rw [horigin]; rfl
  rw [← hraise] at hone hplaced haside
  rw [bindingRaise_free hwired hfree hbelow]
  refine ⟨by rw [ClaimLaw.setLink_link, if_pos rfl], hone, hplaced, ?_⟩
  rw [setLink_lif, haside, hbound, Bool.true_and]

/-- A binding's claim retired: its slot is freed under the next generation, and the link lets it go (R12, R123). -/
theorem reconcile_frees {h : Handle} {c : Claim} (hlinks : LinksAgree s) (hlink : (s.bde.recs.get b).link = .claim h)
    (hc : claimAt s h.slot = some c) (hdelay : a.offDelay = 0) :
    ((reconcile b a false s).bde.recs.get b).link = .none ∧ claimAt (reconcile b a false s) h.slot = none
      ∧ ((reconcile b a false s).clt.slots.get h.slot).gen = h.gen + 1
      ∧ (∀ j, j ≠ h.slot → (reconcile b a false s).clt.slots.get j = s.clt.slots.get j)
      ∧ (reconcile b a false s).clt.grantList = s.clt.grantList.filter (· ≠ h.slot)
      ∧ (reconcile b a false s).clt.heldQueue = s.clt.heldQueue.filter (· ≠ h.slot)
      ∧ (reconcile b a false s).lif = s.lif := by
  obtain ⟨hgen, howner⟩ := hlinks.1 b h hlink
  have horigin : c.origin = .binding b := by
    rw [hc] at howner
    exact Option.some.inj howner
  have hclt := retire_clt hc
  rw [reconcile_retires hlink hdelay]
  refine ⟨by rw [link_retire hc, if_pos horigin], ?_, ?_, fun j hj => slots_retire hc hj, by rw [hclt], by rw [hclt],
    retire_lif ..⟩
  · rw [claimAt_retire, if_pos rfl]
  · rw [hclt, ← hgen]
    dsimp only
    rw [put_get, if_pos rfl]

end

/-! ### The rows on the state that a step leaves -/

section
variable {s t u r : State} {i : SlotIx} {c : Claim}

theorem oneRecord_of_tables (hs : s.clt = u.clt) (ht : t.clt = r.clt) (h : OneRecord u r i c) : OneRecord s t i c := by
  unfold OneRecord claimAt at h ⊢
  rw [hs, ht]
  exact h

theorem placed_of_tables (hs : s.clt = u.clt) (ht : t.clt = r.clt) (h : Placed u r i c) : Placed s t i c := by
  unfold Placed JoinsGranted JoinsHeld at h ⊢
  rw [hs, ht]
  exact h

end

section
variable {s t : State} {p : Pass} {x : Test} {a : Action} {b : BindIx}

theorem placed_verdictRecorded (c : Claim) : c.placed (verdictRecorded p b x s) = c.placed s := rfl

theorem linksAgree_verdictRecorded (h : LinksAgree s) : LinksAgree (verdictRecorded p b x s) := by
  obtain ⟨hlinks, hclaims⟩ := h
  refine ⟨fun k hd hlink => hlinks k hd ?_, fun i k howner => ?_⟩
  · rwa [verdictRecorded_link] at hlink
  · rw [verdictRecorded_link]
    exact hclaims i k howner

/-- The record of an owned claim alone is changed (R123). -/
theorem Reaches.modified {u : State} {h : Handle} {c : Claim} {f : Claim → Claim}
    (ht : Reaches t (modifyClaim h.slot f u)) (hclt : s.clt = u.clt) (hlif : s.lif = u.lif)
    (hlink : (u.bde.recs.get b).link = .claim h) (hc : claimAt u h.slot = some c) :
    (t.bde.recs.get b).link = .claim h ∧ OneRecord s t h.slot (f c) ∧ SamePlaces s t ∧ t.lif = s.lif := by
  refine ⟨?_, oneRecord_of_tables hclt ht.clt (oneRecord_modifyClaim hc f), ?_, ?_⟩
  · rw [ht.links, modifyClaim_bde, hlink]
  · unfold SamePlaces
    rw [ht.clt, hclt]
    exact ⟨modifyClaim_grantList .., modifyClaim_heldQueue ..⟩
  · rw [ht.lif, modifyClaim_lif, hlif]

end

/-- Settles O46: by the claim link and the verdict, along the rows of R123. -/
theorem reconcileRule : Obligations.ReconcileRule := by
  unfold Obligations.ReconcileRule
  intro s p x a hawake hmode hpass hlast he hlinks hexact hmax matched link max req asked cl
  have hreach := passStep_reconciles hpass hlast he
  have hclt : s.clt = (verdictRecorded p p.next x s).clt := rfl
  have hlif : s.lif = (verdictRecorded p p.next x s).lif := rfl
  have hlink : ((verdictRecorded p p.next x s).bde.recs.get p.next).link = link := verdictRecorded_link ..
  have hlinks' : LinksAgree (verdictRecorded p p.next x s) := linksAgree_verdictRecorded hlinks
  have hmatched : matchedBy p x = matched := rfl
  have hasked : newClaim (verdictRecorded p p.next x s) (bindingAsk p.next a) = asked :=
    newClaim_bindingAsk (s := verdictRecorded p p.next x s) (Nat.one_le_iff_ne_zero.mpr hmax) req rfl
  have hplaced : asked.placed (verdictRecorded p p.next x s) = cl := placed_verdictRecorded asked
  have hothers (k : BindIx) (hk : k ≠ p.next) : ((passStep s).bde.recs.get k).link = (s.bde.recs.get k).link := by
    rw [hreach.links, reconcile_other_links hlinks' _ hk, verdictRecorded_link]
  refine ⟨passStep s, exec_passStep hawake hmode, hothers, fun hm hno => ?_, fun h c howns hc => ⟨fun hm => ?_,
    fun hm hdelay => ?_, fun hm hdelay => ?_⟩, fun hm hno => ?_⟩
  · have hun : Unowning (verdictRecorded p p.next x s) p.next := fun h => by rw [hlink]; exact hno h
    rw [hmatched, hm, reconcile_raises hun] at hreach
    refine ⟨fun hunwired => ?_, fun hwired => ⟨fun hfull => ?_, fun i hfree hbelow => ?_⟩⟩
    · rw [bindingRaise_unwired (s := verdictRecorded p p.next x s) hunwired] at hreach
      exact ⟨(hreach.links _).trans (by rw [ClaimLaw.setLink_link, if_pos rfl]), hreach.clt, hreach.lif⟩
    · rw [bindingRaise_full (s := verdictRecorded p p.next x s) hwired hfull] at hreach
      refine ⟨(hreach.links _).trans ?_, hreach.clt, hreach.lif⟩
      rw [setFlag_bde, ClaimLaw.setLink_link, if_pos rfl]
    · obtain ⟨hl, hone, hin, hflag⟩ := bindingRaise_places (s := verdictRecorded p p.next x s) (b := p.next) (a := a)
        hexact hwired hfree hbelow hasked rfl rfl
      rw [hplaced] at hone hin hflag
      exact ⟨(hreach.links _).trans hl, oneRecord_of_tables hclt hreach.clt hone, placed_of_tables hclt hreach.clt hin,
        hreach.lif.trans hflag⟩
  · rw [hmatched, hm, reconcile_matched (hlink.trans howns)] at hreach
    rw [howns]
    exact hreach.modified hclt hlif (hlink.trans howns) hc
  · rw [hmatched, hm, reconcile_delays (hlink.trans howns) hdelay] at hreach
    rw [howns, ← delayed_expiry]
    exact hreach.modified hclt hlif (hlink.trans howns) hc
  · rw [hmatched, hm] at hreach
    obtain ⟨hl, hfree, hgen, hslots, hgrants, hhelds, hkept⟩ := reconcile_frees hlinks' (hlink.trans howns) hc hdelay
    rw [← hreach.clt] at hgen hslots hgrants hhelds
    exact ⟨(hreach.links _).trans hl, (claimAt_congr hreach.clt _).trans hfree, hgen, hslots, hgrants, hhelds,
      hreach.lif.trans hkept⟩
  · have hun : Unowning (verdictRecorded p p.next x s) p.next := fun h => by rw [hlink]; exact hno h
    rw [hmatched, hm] at hreach
    obtain ⟨hc, hl, hlinked⟩ := reconcile_unmatched (a := a) hun
    exact ⟨(hreach.links _).trans (by rw [hlinked, if_pos rfl]), hreach.clt.trans hc, hreach.lif.trans hl⟩

end Sys2Proof.Machine

/-! PROOFS. Settles O50: the heater period, the end of a fault hold and GAUGE.READ (R144, R146, R152). -/

namespace Sys2Proof.Machine

/-! ### Demands that follow -/

theorem refreshDemands_of_follow {s : State} (h : DemandsFollow s) : refreshDemands s = s := by
  have hone (ch : Chan) : refreshDemand s ch = s := by
    unfold refreshDemand
    dsimp only
    exact if_pos (h ch).symm
  have hall (chans : List Chan) : chans.foldl refreshDemand s = s := by
    induction chans with
    | nil => rfl
    | cons ch chans ih => rw [List.foldl_cons, hone, ih]
  exact hall _

/-! ### The end of a fault hold by itself -/

theorem endHold_of_last {g : Gauge} {k : FaultKind} {n : Nat} (h : g.state = .faultHold k 79 n) :
    g.endHold = { g with state := .faultRest k n, target := 0 } := by
  unfold Gauge.endHold
  rw [h]
  exact if_pos rfl

theorem endHold_of_other {g : Gauge} (h : ∀ k n, g.state ≠ .faultHold k 79 n) : g.endHold = g := by
  unfold Gauge.endHold
  split
  · next k hold n hstate =>
    refine if_neg fun hlast => h k n ?_
    have h79 : hold = 79 := by
      unfold faultHoldLimit at hlast
      omega
    rw [hstate, h79]
  · rfl
  · rfl
  · rfl
  · rfl

section
variable {s : State} (g : GaugeIx)

theorem exec_heaterPeriodEnd (hawake : Awake s) : exec (.heaterPeriodEnd g) s = after
    (if s.mdc.mode = .run then { s with gau := put s.gau g { s.gau.get g with applied := (s.gau.get g).duty } } else s) := by
  change execHeaterPeriodEnd g s = _
  unfold execHeaterPeriodEnd
  exact act_run hawake _

theorem exec_faultHoldEnd (hawake : Awake s) : exec (.faultHoldEnd g) s = after
    (if s.mdc.mode = .run then refreshDemands { s with gau := put s.gau g (s.gau.get g).endHold } else s) := by
  change execFaultHoldEnd g s = _
  unfold execFaultHoldEnd
  exact act_run hawake _

/-- The heater period and the fault hold's end by themselves. -/
theorem gauge_events (hawake : Awake s) :
    (s.mdc.mode = .run → exec (.heaterPeriodEnd g) s
        = after { s with gau := put s.gau g { s.gau.get g with applied := (s.gau.get g).duty } })
    ∧ (s.mdc.mode ≠ .run → exec (.heaterPeriodEnd g) s = after s ∧ exec (.faultHoldEnd g) s = after s)
    ∧ (∀ k n, s.mdc.mode = .run → (s.gau.get g).state = .faultHold k 79 n →
        ∃ t, exec (.faultHoldEnd g) s = after t ∧ t.crs = s.crs
          ∧ OutputsAside { s with gau := put s.gau g { s.gau.get g with state := .faultRest k n, target := 0 } } t)
    ∧ ((∀ k n, (s.gau.get g).state ≠ .faultHold k 79 n) → DemandsFollow s → exec (.faultHoldEnd g) s = after s) := by
  rw [exec_heaterPeriodEnd g hawake, exec_faultHoldEnd g hawake]
  refine ⟨fun hrun => by rw [if_pos hrun], fun hrun => by rw [if_neg hrun, if_neg hrun]; exact ⟨rfl, rfl⟩,
    fun k n hrun hlast => ?_, fun hother hfollow => ?_⟩
  · have haside := outputsAside_refreshDemands
      { s with gau := put s.gau g { s.gau.get g with state := .faultRest k n, target := 0 } }
    have hcrs := refreshDemands_crs
      { s with gau := put s.gau g { s.gau.get g with state := .faultRest k n, target := 0 } }
    rw [if_pos hrun, endHold_of_last hlast]
    generalize refreshDemands _ = t at *
    exact ⟨t, rfl, hcrs, haside⟩
  · have hself : refreshDemands { s with gau := put s.gau g (s.gau.get g).endHold } = s := by
      rw [endHold_of_other hother, put_self]
      exact refreshDemands_of_follow hfollow
    rw [hself, ite_self]

end

/-! ### GAUGE.READ -/

theorem exec_gaugeRead (p : List Byte) (s : State) : exec (.gaugeRead p) s = serve .gaugeRead gaugeRead p s := rfl

section
variable {s : State} {gauge view : Byte}

theorem gaugeRead_badView (h : 1 < view.toNat) :
    gaugeRead [gauge, view] s = (s, { code := .badRequest, fields := [] }) := if_pos h

theorem gaugeRead_badIndex (hview : view.toNat ≤ 1) (h : 2 < gauge.toNat) :
    gaugeRead [gauge, view] s = (s, { code := .badIndex, fields := [] }) :=
  (if_neg (by omega)).trans (dif_neg (by omega))

theorem gaugeRead_ok {g : GaugeIx} (hview : view.toNat ≤ 1) (h : gauge.toNat = g.val) : gaugeRead [gauge, view] s
    = (s, { code := .ok, fields := if view = 0 then gaugeFields (s.gau.get g) else gaugeBytes (s.gau.get g).settings }) := by
  obtain ⟨n, hn⟩ := g
  subst h
  exact (if_neg (by omega)).trans (dif_pos hn)

end

/-- The class of the latest reading, 255 for none (R171). -/
def readingClass : Option Reading → Byte
  | none => 255
  | some { cls := .inRange _, .. } => 0
  | some { cls := .openSender, .. } => 1
  | some { cls := .short, .. } => 2

/-- A gauge's state and its counts, 0 where absent, and its fault kind (R152, R171). -/
def stateBytes : GaugeState → List Byte
  | .off => [0, 0, 0, 0, 0]
  | .active => [1, 0, 0, 0, 0]
  | .suspect n => [2, byte n, 0, 0, 0]
  | .faultHold .openSender h n => [3, 0, byte h, byte n, 1]
  | .faultHold .short h n => [3, 0, byte h, byte n, 2]
  | .faultRest .openSender n => [4, 0, 0, byte n, 1]
  | .faultRest .short n => [4, 0, 0, byte n, 2]

theorem readingBytes_eq (r : Option Reading) : readingBytes r ++ be16 ((r.bind Reading.rs).getD 65535)
    = be16 (match r with | none => 65535 | some r => r.a) ++ [readingClass r]
      ++ be16 (match r with | some { cls := .inRange rs, .. } => rs | _ => 65535) := by
  cases r with
  | none => rfl
  | some r =>
    obtain ⟨a, cls⟩ := r
    cases cls with
    | inRange rs => rfl
    | openSender => rfl
    | short => rfl

theorem stateBytes_eq (x : GaugeState) :
    [x.code, byte x.outCount, byte x.holdCount, byte x.recoveryCount, x.faultByte] = stateBytes x := by
  cases x with
  | off => rfl
  | active => rfl
  | suspect n => rfl
  | faultHold kind h n => cases kind <;> rfl
  | faultRest kind n => cases kind <;> rfl

/-- The fields of a gauge with view STATE (R152). -/
theorem gaugeFields_eq (x : Gauge) : gaugeFields x =
    be16 (match x.reading with | none => 65535 | some r => r.a) ++ [readingClass x.reading]
      ++ be16 (match x.reading with | some { cls := .inRange rs, .. } => rs | _ => 65535)
      ++ be16 x.target ++ be16 x.lastGood ++ be16 x.filtered ++ be16 x.duty ++ be16 x.applied
      ++ stateBytes x.state ++ [boolByte x.undervolt] := by
  rw [← stateBytes_eq, ← readingBytes_eq]
  simp only [gaugeFields, List.append_assoc, List.cons_append, List.nil_append]

/-- Settles O50: by the mode, the gauge's state and the view of the read. -/
theorem gaugeEvents : Obligations.GaugeEvents := by
  unfold Obligations.GaugeEvents
  refine ⟨fun s g hawake => gauge_events g hawake, fun s gauge view h => ⟨fun hview => ?_, fun hview hindex => ?_,
    fun g hg => ⟨fun hview => ?_, fun hview => ?_⟩⟩⟩
  · exact (exec_gaugeRead ..).trans (serve_handed h (gaugeRead_badView hview))
  · exact (exec_gaugeRead ..).trans (serve_handed h (gaugeRead_badIndex hview hindex))
  · subst hview
    exact (exec_gaugeRead ..).trans (serve_handed h (gaugeRead_ok (by decide) hg))
  · subst hview
    refine (exec_gaugeRead ..).trans ((serve_handed h (gaugeRead_ok (by decide) hg)).trans ?_)
    exact congrArg (fun fields => replied .ok fields s) (gaugeFields_eq (s.gau.get g))

end Sys2Proof.Machine

/-! PROOFS. Settles O51: GAUGE.SET and FLASHER.SET (R81, R153). -/

namespace Sys2Proof.Machine

theorem okOr_of_iff {b : Bool} {P : Prop} [Decidable P] (h : b = true ↔ P) : okOr b = if P then .clamped else .ok := by
  unfold okOr
  by_cases hP : P
  · rw [if_pos hP, if_pos (h.mpr hP)]
  · rw [if_neg hP, if_neg fun hb => hP (h.mp hb)]

theorem clampNat_ne_iff {lo hi n : Nat} (h : lo ≤ hi) : (clampNat lo hi n != n) = true ↔ n < lo ∨ hi < n := by
  rw [bne_iff_ne]
  unfold clampNat
  omega

/-! ### Calibration points (R172) -/

/-- A point fits its three bytes: 14 bits of resistance and 10 of deflection (R172). -/
def PointFits (q : Nat × Nat) : Prop := q.1 < 2 ^ 14 ∧ q.2 < 2 ^ 10

theorem pointBytes_value {q : Nat × Nat} (h : PointFits q) :
    (byte ((q.1 * 1024 + q.2) / 65536)).toNat * 65536 + (byte ((q.1 * 1024 + q.2) / 256)).toNat * 256
      + (byte (q.1 * 1024 + q.2)).toNat = q.1 * 1024 + q.2 := by
  obtain ⟨hr, hd⟩ := h
  rw [byte_toNat, byte_toNat, byte_toNat]
  omega

theorem pointsOf_flatMap {points : List (Nat × Nat)} (h : ∀ q ∈ points, PointFits q) (rest : List Byte) :
    pointsOf points.length (points.flatMap pointBytes ++ rest) = points := by
  induction points with
  | nil => rfl
  | cons q points ih =>
    have hq : PointFits q := h q List.mem_cons_self
    have hvalue := pointBytes_value hq
    obtain ⟨hr, hd⟩ := hq
    have hrest := ih fun x hx => h x (List.mem_cons_of_mem _ hx)
    change ((_ / 1024, _ % 1024) : Nat × Nat) :: pointsOf points.length (points.flatMap pointBytes ++ rest) = q :: points
    rw [hvalue, hrest]
    exact congrArg (· :: points) (Prod.ext (by dsimp only; omega) (by dsimp only; omega))

theorem length_flatMap_pointBytes (points : List (Nat × Nat)) :
    (points.flatMap pointBytes).length = 3 * points.length := by
  induction points with
  | nil => rfl
  | cons q points ih =>
    rw [List.flatMap_cons, List.length_append, ih, List.length_cons]
    change 3 + _ = _
    omega

/-! ### The judgement of gauge settings (R153) -/

section
variable {points : List (Nat × Nat)} {k v : Nat}

theorem judgeGauge_badCount (h : points.length < 2 ∨ 8 < points.length) : judgeGauge points k v = .error .badTable :=
  if_pos h

theorem judgeGauge_badPoints (h : (∃ q ∈ points, 9999 < q.1) ∨ increasing (points.map (·.1)) = false) :
    judgeGauge points k v = .error .badTable := by
  have hbad : points.any (fun p => decide (9999 < p.1)) ∨ ¬increasing (points.map (·.1)) := by
    rw [List.any_eq_true, Bool.not_eq_true]
    simpa using h
  unfold judgeGauge
  rw [if_pos hbad, ite_self]

theorem judgeGauge_ok (hcount : 2 ≤ points.length ∧ points.length ≤ 8) (hrange : ∀ q ∈ points, q.1 ≤ 9999)
    (hup : increasing (points.map (·.1)) = true) :
    ∃ clamped, (clamped = true ↔ (∃ q ∈ points, 1000 < q.2) ∨ k = 0 ∨ 256 < k ∨ v < 800 ∨ 1200 < v)
      ∧ judgeGauge points k v = .ok ({ points := points.map fun q => (q.1, min q.2 1000), k := max 1 (min 256 k)
                                       vstab := max 800 (min 1200 v) }, clamped) := by
  obtain ⟨hlow, hhigh⟩ := hcount
  have hgood : ¬(points.any (fun p => decide (9999 < p.1)) = true ∨ ¬increasing (points.map (·.1)) = true) := by
    rw [hup, List.any_eq_true]
    rintro (⟨q, hq, hover⟩ | hno)
    · have hle := hrange q hq
      have hgt := of_decide_eq_true hover
      omega
    · exact hno rfl
  refine ⟨points.any (fun p => decide (1000 < p.2)) || clampNat 1 256 k != k || clampNat 800 1200 v != v, ?_,
    (if_neg (by omega)).trans (if_neg hgood)⟩
  rw [Bool.or_eq_true, Bool.or_eq_true, clampNat_ne_iff (by decide), clampNat_ne_iff (by decide), List.any_eq_true]
  simp only [decide_eq_true_eq]
  rw [Nat.lt_one_iff, or_assoc, or_assoc]

end

/-! ### GAUGE.SET (R153) -/

theorem exec_gaugeSet (p : List Byte) (s : State) : exec (.gaugeSet p) s = serve .gaugeSet gaugeSet p s := rfl

theorem pointCountFits_iff {n : Byte} : pointCountFits n = true ↔ 2 ≤ n.toNat ∧ n.toNat ≤ 8 := by
  unfold pointCountFits
  rw [Bool.and_eq_true, decide_eq_true_eq, decide_eq_true_eq]

section
variable {s : State} {gauge n k1 k0 v1 v0 : Byte} {points : List (Nat × Nat)} {p rest : List Byte}

theorem gaugeSet_wrongMode (h : s.mdc.mode ≠ .run) : gaugeSet p s = (s, { code := .wrongMode, fields := [] }) := if_pos h

theorem gaugeSet_storeBusy (hmode : s.mdc.mode = .run) (h : s.mdc.op ≠ .none) :
    gaugeSet p s = (s, { code := .storeBusy, fields := [] }) :=
  (if_neg (not_not.mpr hmode)).trans (if_pos ((storeBusy_iff s).mpr h))

theorem gaugeSet_idle (hmode : s.mdc.mode = .run) (hop : s.mdc.op = .none) :
    gaugeSet (gauge :: n :: rest) s = if pointCountFits n ∧ rest.length ≠ 4 + 3 * n.toNat then refused .badRequest s
      else if h : gauge.toNat < 3 then
        if pointCountFits n then
          match judgeGauge (pointsOf n.toNat rest) (afterPoints n.toNat rest).1 (afterPoints n.toNat rest).2 with
          | .error e => refused e s
          | .ok (settings, clamped) =>
            ({ s with gau := upd s.gau ⟨gauge.toNat, h⟩ fun g => { g with settings := settings } },
              { code := okOr clamped, fields := gaugeBytes settings })
        else refused .badTable s
      else refused .badIndex s := by
  have hfree : ¬storeBusy s = true := fun h => (storeBusy_iff s).mp h hop
  exact (if_neg (not_not.mpr hmode)).trans (if_neg hfree)

/-- The index is looked at with a length that fits, or a count that the table check will refuse (R172). -/
theorem gaugeSet_badIndex (hmode : s.mdc.mode = .run) (hop : s.mdc.op = .none)
    (hlen : ¬(pointCountFits n = true ∧ rest.length ≠ 4 + 3 * n.toNat)) (h : 2 < gauge.toNat) :
    gaugeSet (gauge :: n :: rest) s = (s, { code := .badIndex, fields := [] }) := by
  rw [gaugeSet_idle hmode hop]
  exact (if_neg hlen).trans (dif_neg (by omega))

theorem gaugeSet_badCount (hmode : s.mdc.mode = .run) (hop : s.mdc.op = .none) (hcount : n.toNat < 2 ∨ 8 < n.toNat)
    (h : gauge.toNat ≤ 2) : gaugeSet (gauge :: n :: rest) s = (s, { code := .badTable, fields := [] }) := by
  have hunfit : ¬pointCountFits n = true := by
    rw [pointCountFits_iff]
    omega
  rw [gaugeSet_idle hmode hop]
  exact (if_neg fun hfit => hunfit hfit.1).trans ((dif_pos (by omega)).trans (if_neg hunfit))

theorem afterPoints_flatMap : afterPoints points.length (points.flatMap pointBytes ++ [k1, k0, v1, v0])
    = (word16 k1 k0, word16 v1 v0) := by
  unfold afterPoints
  rw [← length_flatMap_pointBytes, List.drop_left]

/-- GAUGE.SET of as many points as its count names is judged on those points (R153). -/
theorem gaugeSet_points (hmode : s.mdc.mode = .run) (hop : s.mdc.op = .none) (hn : n.toNat = points.length)
    (hfit : ∀ q ∈ points, PointFits q) {g : GaugeIx} (hg : gauge.toNat = g.val)
    (hcount : 2 ≤ points.length ∧ points.length ≤ 8) :
    gaugeSet (gauge :: n :: points.flatMap pointBytes ++ [k1, k0, v1, v0]) s
      = match judgeGauge points (word16 k1 k0) (word16 v1 v0) with
        | .error e => refused e s
        | .ok (settings, clamped) => ({ s with gau := put s.gau g { s.gau.get g with settings := settings } },
            { code := okOr clamped, fields := gaugeBytes settings }) := by
  obtain ⟨i, hi⟩ := g
  subst hg
  have hcountFits : pointCountFits n = true := pointCountFits_iff.mpr (by rw [hn]; exact hcount)
  have hlen : ¬(pointCountFits n = true
      ∧ (points.flatMap pointBytes ++ [k1, k0, v1, v0]).length ≠ 4 + 3 * n.toNat) := by
    rintro ⟨-, hne⟩
    rw [List.length_append, length_flatMap_pointBytes, hn] at hne
    exact hne (Nat.add_comm ..)
  refine (gaugeSet_idle (rest := points.flatMap pointBytes ++ [k1, k0, v1, v0]) hmode hop).trans ?_
  refine (if_neg hlen).trans ((dif_pos hi).trans ((if_pos hcountFits).trans ?_))
  rw [hn, pointsOf_flatMap hfit, afterPoints_flatMap] <;> rfl

end

/-! ### FLASHER.SET (R81) -/

theorem exec_flasherSet (p : List Byte) (s : State) : exec (.flasherSet p) s = serve .flasherSet flasherSet p s := rfl

section
variable {s : State} {p : List Byte} {rate ticker : Byte}

theorem flasherSet_storeBusy (h : s.mdc.op ≠ .none) : flasherSet p s = (s, { code := .storeBusy, fields := [] }) :=
  if_pos ((storeBusy_iff s).mpr h)

theorem flasherSet_error {e : ReplyCode} (hop : s.mdc.op = .none) (h : judgeFlasher p = .error e) :
    flasherSet p s = (s, { code := e, fields := [] }) := by
  have hfree : ¬storeBusy s = true := fun h => (storeBusy_iff s).mp h hop
  unfold flasherSet
  rw [if_neg hfree, h] <;> rfl

theorem judgeFlasher_badLength (h : p.length ≠ 2) : judgeFlasher p = .error .badRequest := by
  unfold judgeFlasher
  split
  · exact absurd rfl h
  · rfl

theorem judgeFlasher_badTicker (h : 1 < ticker.toNat) : judgeFlasher [rate, ticker] = .error .badRequest := if_pos h

theorem judgeFlasher_ok (h : ticker.toNat ≤ 1) : judgeFlasher [rate, ticker]
    = .ok ((clampNat 60 120 rate.toNat, decide (ticker = 1)), clampNat 60 120 rate.toNat != rate.toNat) :=
  if_neg (by omega)

theorem clampNat_rate (n : Nat) : clampNat 60 120 n = if n < 60 then 60 else if 120 < n then 120 else n := by
  unfold clampNat
  split_ifs <;> omega

theorem boolByte_decide_one {b : Byte} (h : b.toNat ≤ 1) : boolByte (decide (b = 1)) = b := by
  have hcases : b.toNat = 0 ∨ b.toNat = 1 := by omega
  obtain h0 | h1 := hcases
  · have hb : b = 0 := BitVec.eq_of_toNat_eq h0
    rw [hb]
    rfl
  · have hb : b = 1 := BitVec.eq_of_toNat_eq h1
    rw [hb]
    rfl

theorem flasherSet_ok (hop : s.mdc.op = .none) (h : ticker.toNat ≤ 1) (r : Nat)
    (hr : r = if rate.toNat < 60 then 60 else if 120 < rate.toNat then 120 else rate.toNat) :
    flasherSet [rate, ticker] s = ({ s with fls := { s.fls with rateSet := r, ticker := ticker = 1 } },
      { code := if r = rate.toNat then .ok else .clamped
        fields := [byte r, ticker, byte (match s.fls.phase with | .lit n _ _ => n | .dark n _ => n | .idle => 0)] }) := by
  have hfree : ¬storeBusy s = true := fun h => (storeBusy_iff s).mp h hop
  have hrate : s.fls.phase.rate = match s.fls.phase with | .lit n _ _ => n | .dark n _ => n | .idle => 0 := by
    cases s.fls.phase <;> rfl
  rw [← clampNat_rate] at hr
  unfold flasherSet
  rw [if_neg hfree, judgeFlasher_ok h, ← hrate]
  dsimp only
  rw [← hr, okOr_ne, boolByte_decide_one h]

end

/-- Settles O51: along the checks of R153 and of R81. -/
theorem settingsRequests : Obligations.SettingsRequests := by
  unfold Obligations.SettingsRequests
  refine ⟨fun s gauge n k1 k0 v1 v0 points hn hfit => ?_, fun s gauge n rest => ?_, fun p s h => ⟨fun hop => ?_, fun hop =>
    ⟨fun hlen => ?_, fun rate ticker hp => ?_⟩⟩⟩
  · intro p h refuses
    have hserves {t : State} {code : ReplyCode} {fields : List Byte}
        (hbody : gaugeSet p s = (t, { code := code, fields := fields })) : exec (.gaugeSet p) s = replied code fields t :=
      (exec_gaugeSet p s).trans (serve_handed h hbody)
    have hlen : ¬(pointCountFits n = true
        ∧ (points.flatMap pointBytes ++ [k1, k0, v1, v0]).length ≠ 4 + 3 * n.toNat) := by
      rintro ⟨-, hne⟩
      rw [List.length_append, length_flatMap_pointBytes, hn] at hne
      exact hne (Nat.add_comm ..)
    refine ⟨fun hmode => hserves (gaugeSet_wrongMode hmode), fun hmode hop => hserves (gaugeSet_storeBusy hmode hop),
      fun hmode hop => ⟨fun hg => hserves (gaugeSet_badIndex hmode hop hlen hg), fun g hg => ⟨fun hcount => ?_,
        fun hlow hhigh => ?_⟩⟩⟩
    · refine hserves (gaugeSet_badCount hmode hop ?_ ?_)
      · rw [hn]
        exact hcount
      · have := g.isLt
        omega
    · have hpoints := gaugeSet_points (k1 := k1) (k0 := k0) (v1 := v1) (v0 := v0) hmode hop hn hfit hg ⟨hlow, hhigh⟩
      refine ⟨fun hbad => ?_, fun hrange hup => ?_⟩
      · rw [judgeGauge_badPoints hbad] at hpoints
        exact hserves hpoints
      · obtain ⟨clamped, hclamped, hjudged⟩ :=
          judgeGauge_ok (k := word16 k1 k0) (v := word16 v1 v0) ⟨hlow, hhigh⟩ hrange hup
        rw [hjudged] at hpoints
        refine (hserves hpoints).trans ?_
        rw [okOr_of_iff hclamped] <;> rfl
  · intro p h hmode hop hcount
    have hunfit : ¬pointCountFits n = true := by
      rw [pointCountFits_iff]
      omega
    exact ⟨fun hg => (exec_gaugeSet p s).trans
        (serve_handed h (gaugeSet_badIndex hmode hop (fun hfits => hunfit hfits.1) hg)),
      fun hg => (exec_gaugeSet p s).trans (serve_handed h (gaugeSet_badCount hmode hop hcount hg))⟩
  · exact (exec_flasherSet p s).trans (serve_handed h (flasherSet_storeBusy hop))
  · exact (exec_flasherSet p s).trans (serve_handed h (flasherSet_error hop (judgeFlasher_badLength hlen)))
  · subst hp
    refine ⟨fun hticker => ?_, fun hticker => ?_⟩
    · exact (exec_flasherSet ..).trans (serve_handed h (flasherSet_error hop (judgeFlasher_badTicker hticker)))
    · exact (exec_flasherSet ..).trans (serve_handed h (flasherSet_ok hop hticker _ rfl))

end Sys2Proof.Machine

/-! PROOFS. What leaving RUN leaves of the channels, the gauges and the budget (R62, R70, R101, R149, R187), for O53. -/

namespace Sys2Proof.Machine

/-! ### The channels -/

/-- A channel's record as it may stand once demands are 0: its settings and counts as they were, a LOCKED one LOCKED, and
nothing applied while not driven (R101). -/
structure StandsFrom (c c' : Channel) : Prop where
  profile : c'.profile = c.profile
  tripCount : c'.tripCount = c.tripCount
  openLoadFlag : c'.openLoadFlag = c.openLoadFlag
  lifetime : c'.lifetime = c.lifetime
  locked : (∃ b, c.state = .locked b) → ∃ b, c'.state = .locked b
  undriven : c'.state.driven = false → c'.applied = 0

namespace StandsFrom

variable {c c' : Channel}

theorem withTimes (h : StandsFrom c c') (low good : Nat) : StandsFrom c { c' with lowTime := low, goodTime := good } :=
  { profile := h.profile, tripCount := h.tripCount, openLoadFlag := h.openLoadFlag, lifetime := h.lifetime
    locked := h.locked, undriven := h.undriven }

theorem cutOff (h : StandsFrom c c') (hdriven : c'.state.driven = true) :
    StandsFrom c ({ c' with demand := 0 }.cut .off) := by
  refine { profile := h.profile, tripCount := h.tripCount, openLoadFlag := h.openLoadFlag, lifetime := h.lifetime
           locked := fun hl => ?_, undriven := fun _ => rfl }
  obtain ⟨b, hb⟩ := h.locked hl
  rw [hb] at hdriven
  cases hdriven

theorem takeDemand (h : StandsFrom c c') : StandsFrom c (c'.takeDemand false 0) := by
  cases hst : c'.state with
  | off =>
    rw [takeDemand_off hst]
    exact { profile := h.profile, tripCount := h.tripCount, openLoadFlag := h.openLoadFlag, lifetime := h.lifetime
            locked := h.locked, undriven := h.undriven }
  | softstart t =>
    have hdriven : c'.state.driven = true := by rw [hst]; rfl
    rw [takeDemand_cut hdriven]
    exact h.cutOff hdriven
  | on t =>
    have hdriven : c'.state.driven = true := by rw [hst]; rfl
    rw [takeDemand_cut hdriven]
    exact h.cutOff hdriven
  | tripped n =>
    rw [takeDemand_tripped hst]
    exact { profile := h.profile, tripCount := h.tripCount, openLoadFlag := h.openLoadFlag, lifetime := h.lifetime
            locked := h.locked, undriven := h.undriven }
  | locked b =>
    rw [takeDemand_locked hst, if_pos rfl]
    exact { profile := h.profile, tripCount := h.tripCount, openLoadFlag := h.openLoadFlag, lifetime := h.lifetime
            locked := fun _ => ⟨true, rfl⟩, undriven := fun _ => h.undriven (by rw [hst]; rfl) }

end StandsFrom

/-- A channel whose demand the mode has taken away (R101). -/
theorem standDown_leaves {c c' : Channel} (h : StandsFrom c c') :
    c'.standDown.demand = 0 ∧ c'.standDown.applied = 0 ∧ c'.standDown.profile = c.profile
      ∧ c'.standDown.tripCount = c.tripCount ∧ c'.standDown.openLoadFlag = c.openLoadFlag
      ∧ c'.standDown.lifetime = c.lifetime
      ∧ ((∃ b, c.state = .locked b) → c'.standDown.state = .locked true)
      ∧ (c'.standDown.state = .off ∨ c'.standDown.state = .locked true) := by
  have hnot {st : ChanState} (hst : c'.state = st) (hno : ∀ b, st ≠ .locked b) : ¬∃ b, c.state = .locked b := fun hl => by
    obtain ⟨b, hb⟩ := h.locked hl
    exact hno b (hst.symm.trans hb)
  unfold Channel.standDown
  dsimp only
  cases hst : c'.state with
  | off =>
    have ht : c'.takeDemand false 0 = { c' with demand := 0 } := takeDemand_off hst false 0
    rw [ht]
    dsimp only
    rw [hst]
    exact ⟨rfl, h.undriven (by rw [hst]; rfl), h.profile, h.tripCount, h.openLoadFlag, h.lifetime,
      fun hl => absurd hl (hnot hst fun _ => nofun), .inl rfl⟩
  | softstart t =>
    rw [takeDemand_cut (by rw [hst]; rfl)]
    exact ⟨rfl, rfl, h.profile, h.tripCount, h.openLoadFlag, h.lifetime,
      fun hl => absurd hl (hnot hst fun _ => nofun), .inl rfl⟩
  | on t =>
    rw [takeDemand_cut (by rw [hst]; rfl)]
    exact ⟨rfl, rfl, h.profile, h.tripCount, h.openLoadFlag, h.lifetime,
      fun hl => absurd hl (hnot hst fun _ => nofun), .inl rfl⟩
  | tripped n =>
    rw [takeDemand_tripped hst]
    dsimp only
    rw [hst]
    exact ⟨rfl, h.undriven (by rw [hst]; rfl), h.profile, h.tripCount, h.openLoadFlag, h.lifetime,
      fun hl => absurd hl (hnot hst fun _ => nofun), .inl rfl⟩
  | locked b =>
    rw [takeDemand_locked hst, if_pos rfl]
    exact ⟨rfl, h.undriven (by rw [hst]; rfl), h.profile, h.tripCount, h.openLoadFlag, h.lifetime, fun _ => rfl, .inr rfl⟩

/-- Outside RUN every channel stands as from a state before. -/
structure AllStand (s₀ s : State) : Prop where
  mode : s.mdc.mode ≠ .run
  stands : ∀ k, StandsFrom (s₀.chd.get k) (s.chd.get k)

theorem allStand_refreshDemands {s₀ s : State} (h : AllStand s₀ s) : AllStand s₀ (refreshDemands s) := by
  have hmode : (s.mdc.mode == .run) = false := by
    rw [mode_beq_run]
    exact decide_eq_false h.mode
  refine ⟨by rw [refreshDemands_mdc]; exact h.mode, fun k => ?_⟩
  rw [refreshDemands_get, demandTaken, channelDemand_outside_run h.mode, hmode]
  split
  · exact h.stands k
  · exact (h.stands k).takeDemand

theorem allStand_resolveCircuit {s₀ s : State} (h : AllStand s₀ s) (c : Circ) : AllStand s₀ (resolveCircuit s c) := by
  unfold resolveCircuit
  refine allStand_refreshDemands ⟨?_, fun k => ?_⟩
  · simpa using h.mode
  · simp only [indicate, syncFlasher_chd, reformFlashSet, tabulate_get]
    split
    · exact (h.stands k).withTimes 0 0
    · exact h.stands k

theorem allStand_handOver {s₀ s : State} (v : Vector Bool 16) (h : AllStand s₀ s) : AllStand s₀ (handOver v s) :=
  keeps_handOver (P := AllStand s₀) v (fun c _ h => allStand_resolveCircuit h c) s h

theorem allStand_abandonPass {s₀ s : State} (h : AllStand s₀ s) : AllStand s₀ (abandonPass s) := by
  unfold abandonPass
  split
  · exact h
  · exact allStand_handOver _ ⟨h.mode, h.stands⟩

section
variable {s : State} {m : Mode}

theorem leaveRun_channel (hm : m ≠ .run) (hdriven : DrivenInRun s) (ch : Chan) :
    let c := (leaveRun m s).chd.get ch
    c.demand = 0 ∧ c.applied = 0 ∧ c.profile = (s.chd.get ch).profile
      ∧ c.tripCount = (s.chd.get ch).tripCount ∧ c.openLoadFlag = (s.chd.get ch).openLoadFlag
      ∧ c.lifetime = (s.chd.get ch).lifetime
      ∧ ((∃ b, (s.chd.get ch).state = .locked b) → c.state = .locked true)
      ∧ (c.state = .off ∨ c.state = .locked true) := by
  have hself : AllStand s { s with mdc := { s.mdc with mode := m } } :=
    ⟨hm, fun k => ⟨rfl, rfl, rfl, rfl, id, fun h => ((hdriven k).2 h).1⟩⟩
  dsimp only
  rw [leaveRun_chd]
  exact standDown_leaves ((allStand_abandonPass hself).stands ch)

/-! ### The Flasher, the gauges and the pass -/

theorem leaveRun_idle (hm : m ≠ .run) : (leaveRun m s).fls.phase = .idle := by
  have hfollows : FlasherFollows (leaveRun m s) := flasherLaw.leaveRun m trivial
  by_contra hruns
  have hmode := ((hfollows).mp hruns).2
  rw [leaveRun_mdc] at hmode
  exact hm hmode

theorem leaveRun_fast (hm : m ≠ .run) (hruns : s.fls.phase ≠ .idle) : (leaveRun m s).fls.fast = false := by
  have hrested : Rested (leaveRun m s) := restedLaw.leaveRun m fun hidle => absurd hidle hruns
  exact (hrested (leaveRun_idle hm)).1

theorem leaveRun_gau (g : GaugeIx) : (leaveRun m s).gau.get g = { (s.gau.get g).turnOff with samples := [] } := by
  have hgau : (leaveRun m s).gau = mapTbl (fun g => { g.turnOff with samples := [] }) s.gau := by
    simp only [leaveRun]
    rw [foldl_frame (fun s : State => s.gau) _ (by simp)]
    simp
  rw [hgau, mapTbl_get]

theorem abandonPass_bde (s : State) : (abandonPass s).bde
    = { s.bde with pass := none, passRequested := s.bde.passRequested || s.bde.pass.isSome } := by
  unfold abandonPass
  cases hpass : s.bde.pass with
  | none =>
    have hself : s.bde = { s.bde with pass := none } := by rw [← hpass]
    rw [Option.isSome_none, Bool.or_false]
    exact hself
  | some p =>
    dsimp only
    rw [handOver_bde, Option.isSome_some, Bool.or_true]
    rfl

theorem leaveRun_pass : (leaveRun m s).bde
    = { s.bde with pass := none, passRequested := s.bde.passRequested || s.bde.pass.isSome } :=
  (leaveRun_bde m s).trans (abandonPass_bde _)

end

/-! ### The budget -/

/-- Without claims nothing of the slots is changed. -/
theorem mapClaims_slots {s : State} (h : ∀ i, claimAt s i = none) (f : Claim → Claim) :
    (mapClaims f s).clt.slots = s.clt.slots := by
  refine tbl_ext fun i => ?_
  have hi : (s.clt.slots.get i).claim = none := h i
  unfold mapClaims
  dsimp only
  rw [mapTbl_get, hi, Option.map_none, ← hi]

theorem endHostHold_slots {s : State} (h : ∀ i, claimAt s i = none) : (endHostHold s).clt.slots = s.clt.slots :=
  mapClaims_slots (s := { s with sbu := { s.sbu with hostHold := none } }) h _

theorem endRecovery_slots {s : State} (h : ∀ i, claimAt s i = none) : (endRecovery s).clt.slots = s.clt.slots :=
  mapClaims_slots (s := { s with sbu := { s.sbu with crank := .none } }) h _

theorem stopBudget_slots {s : State} (h : ∀ i, claimAt s i = none) : (stopBudget s).clt.slots = s.clt.slots := by
  have hhost := endHostHold_slots h
  have hnone (i : SlotIx) : claimAt (endHostHold s) i = none := by
    unfold claimAt
    rw [hhost]
    exact h i
  unfold stopBudget
  dsimp only
  rw [endRecovery_slots hnone, hhost]

theorem stopBudget_sbu (s : State) : (stopBudget s).sbu
    = { s.sbu with samples := [], deficitRun := 0, surplusRun := 0, crank := .none, hostHold := none } := rfl

end Sys2Proof.Machine

/-! PROOFS. Settles O53: QUIESCE, the sleep entry timer and sleep entry (R183, R187). -/

namespace Sys2Proof.Machine

theorem exec_quiesce (p : List Byte) (s : State) : exec (.quiesce p) s = serve .quiesce quiesce p s := rfl

theorem saving_iff (s : State) : saving s = false ↔ ∀ image, s.mdc.op ≠ .save image := by
  unfold saving
  cases s.mdc.op <;> simp

/-! ### The sleep entry timer (R187) -/

/-- The conditions under which the sleep entry timer runs, written out (R187). -/
theorem mayDoze_spelled (s : State) : mayDoze s = true ↔ s.mdc.mode = .run ∧ acceptedCode s ign = some 0
    ∧ noClaims s.clt = true ∧ (∀ image, s.mdc.op ≠ .save image) ∧ ∀ r, s.lif.link ≠ .working r := by
  rw [mayDoze_iff, saving_iff]

/-! ### QUIESCE (R183) -/

section
variable {p : List Byte} {s : State}

theorem quiesce_wrongMode (h : s.mdc.mode ≠ .run) : quiesce p s = (s, { code := .wrongMode, fields := [] }) := if_pos h

theorem quiesce_storeBusy {image : List Byte} (hmode : s.mdc.mode = .run) (h : s.mdc.op = .save image) :
    quiesce p s = (s, { code := .storeBusy, fields := [] }) := by
  have hsaving : saving s = true := by
    unfold saving
    rw [h]
  exact (if_neg (not_not.mpr hmode)).trans (if_pos hsaving)

theorem quiesce_idle (hmode : s.mdc.mode = .run) (hop : ∀ image, s.mdc.op ≠ .save image) :
    quiesce p s = if p ≠ [] then refused .badRequest s else if ignitionOn s then refused .ignitionOn s
      else (leaveRun .quiesced s, { code := .ok, fields := [Mode.code .quiesced] }) := by
  have hsaving : ¬saving s = true := by
    rw [(saving_iff s).mpr hop]
    exact Bool.false_ne_true
  exact (if_neg (not_not.mpr hmode)).trans (if_neg hsaving)

theorem quiesce_params (hmode : s.mdc.mode = .run) (hop : ∀ image, s.mdc.op ≠ .save image) (h : p ≠ []) :
    quiesce p s = (s, { code := .badRequest, fields := [] }) := (quiesce_idle hmode hop).trans (if_pos h)

theorem quiesce_ignitionOn (hmode : s.mdc.mode = .run) (hop : ∀ image, s.mdc.op ≠ .save image)
    (h : acceptedCode s ign = some 1) : quiesce [] s = (s, { code := .ignitionOn, fields := [] }) :=
  (quiesce_idle hmode hop).trans ((if_neg (not_not.mpr rfl)).trans (if_pos ((ignitionOn_iff s).mpr h)))

theorem quiesce_ok (hmode : s.mdc.mode = .run) (hop : ∀ image, s.mdc.op ≠ .save image)
    (h : acceptedCode s ign ≠ some 1) : quiesce [] s = (leaveRun .quiesced s, { code := .ok, fields := [2] }) :=
  (quiesce_idle hmode hop).trans ((if_neg (not_not.mpr rfl)).trans (if_neg (mt (ignitionOn_iff s).mp h)))

end

/-- The gauges once the mode has left RUN (R149). -/
theorem leaveRun_gauge (m : Mode) (s : State) (g : GaugeIx) : let x := (leaveRun m s).gau.get g
    x.state = .off ∧ x.samples = [] ∧ x.target = 0 ∧ x.filtered = 0 ∧ x.duty = 0 ∧ x.applied = 0
      ∧ x.undervolt = false ∧ x.reading = (s.gau.get g).reading ∧ x.settings = (s.gau.get g).settings := by
  dsimp only
  rw [leaveRun_gau]
  exact ⟨rfl, rfl, rfl, rfl, rfl, rfl, rfl, rfl, rfl⟩

/-! ### Sleep entry (R187) -/

section
variable {s : State}

theorem exec_sleepEntry (hawake : Awake s) : exec .sleepEntry s = after
    (if mayDoze s && s.mdc.sleepTimer.isSome then dropReply (stopBudget (leaveRun .sleep s)) else s) := by
  change execSleepEntry s = _
  unfold execSleepEntry
  exact act_run hawake _

/-- The state in which the part has fallen asleep (R50, R187). -/
def asleep (s : State) : State := dropReply (stopBudget (leaveRun .sleep s))

theorem asleep_outputs (s : State) : (asleep s).chd = (leaveRun .sleep s).chd ∧ (asleep s).gau = (leaveRun .sleep s).gau
    ∧ (asleep s).fls = (leaveRun .sleep s).fls := by
  have hdrop (u : State) : (dropReply u).chd = u.chd ∧ (dropReply u).gau = u.gau ∧ (dropReply u).fls = u.fls :=
    ⟨rfl, rfl, rfl⟩
  obtain ⟨hchd, hgau, hfls⟩ := hdrop (stopBudget (leaveRun .sleep s))
  exact ⟨hchd.trans (stopBudget_chd _), hgau.trans (stopBudget_gau _), hfls.trans (stopBudget_fls _)⟩

theorem asleep_mdc (s : State) : (asleep s).mdc = { s.mdc with mode := .sleep } := by
  have hdrop (u : State) : (dropReply u).mdc = u.mdc := rfl
  unfold asleep
  rw [hdrop, stopBudget_mdc, leaveRun_mdc]

theorem asleep_lif (s : State) : (asleep s).lif = { s.lif with link := .idle } := by
  have hdrop (u : State) : (dropReply u).lif = { u.lif with link := .idle } := rfl
  unfold asleep
  rw [hdrop, stopBudget_lif, leaveRun_lif]

theorem asleep_slots (h : ∀ i, claimAt s i = none) : (asleep s).clt.slots = s.clt.slots := by
  have hdrop (u : State) : (dropReply u).clt = u.clt := rfl
  have hleft (i : SlotIx) : claimAt (leaveRun .sleep s) i = none := by
    rw [claimAt_congr (leaveRun_clt ..)]
    exact h i
  unfold asleep
  rw [hdrop, stopBudget_slots hleft, leaveRun_clt]

theorem asleep_sbu (s : State) : (asleep s).sbu
    = { s.sbu with samples := [], deficitRun := 0, surplusRun := 0, crank := .none, hostHold := none } := by
  have hdrop (u : State) : (dropReply u).sbu = u.sbu := rfl
  unfold asleep
  rw [hdrop, stopBudget_sbu, leaveRun_sbu]

/-- Sleep entry with its conditions holding (R187). -/
theorem sleepEntry_sleeps (hawake : Awake s) (hdoze : mayDoze s = true) (htimer : s.mdc.sleepTimer.isSome = true)
    (hdriven : DrivenInRun s) :
    ∃ t, exec .sleepEntry s = .next t ∧ t.mdc = { s.mdc with mode := .sleep, sleepTimer := none }
      ∧ t.lif = { s.lif with link := .idle } ∧ t.clt.slots = s.clt.slots ∧ t.fls.phase = .idle
      ∧ t.sbu = { s.sbu with samples := [], deficitRun := 0, surplusRun := 0, crank := .none, hostHold := none }
      ∧ (∀ ch, (t.chd.get ch).applied = 0 ∧ (t.chd.get ch).demand = 0
          ∧ ((t.chd.get ch).state = .off ∨ (t.chd.get ch).state = .locked true))
      ∧ ∀ g, (t.gau.get g).state = .off ∧ (t.gau.get g).duty = 0 ∧ (t.gau.get g).applied = 0 := by
  have hfalls : (mayDoze s && s.mdc.sleepTimer.isSome) = true := by rw [hdoze, htimer, Bool.and_true]
  have hnone : ∀ i, claimAt s i = none := (noClaims_iff_claimAt s).mp ((mayDoze_iff s).mp hdoze).2.2.1
  obtain ⟨hchd, hgau, hfls⟩ := asleep_outputs s
  have hmdc := asleep_mdc s
  have hlif := asleep_lif s
  have hslots := asleep_slots hnone
  have hsbu := asleep_sbu s
  have hstopped : (asleep s).mdc.mode ≠ .run := by
    rw [hmdc]
    exact nofun
  rw [exec_sleepEntry hawake, if_pos hfalls]
  refine ⟨settleTimer (asleep s), rfl, ?_, ?_, ?_, ?_, ?_, fun ch => ?_, fun g => ?_⟩
  · rw [settleTimer_stopped hstopped, hmdc]
  · rw [settleTimer_lif, hlif]
  · rw [settleTimer_clt, hslots]
  · rw [settleTimer_fls, hfls]
    exact leaveRun_idle nofun
  · rw [settleTimer_sbu, hsbu]
  · obtain ⟨hdemand, happlied, -, -, -, -, -, hstate⟩ := leaveRun_channel (m := .sleep) nofun hdriven ch
    rw [settleTimer_chd, hchd]
    exact ⟨happlied, hdemand, hstate⟩
  · obtain ⟨hoff, -, -, -, hduty, happlied, -⟩ := leaveRun_gauge .sleep s g
    rw [settleTimer_gau, hgau]
    exact ⟨hoff, hduty, happlied⟩

end

/-- Settles O53: the timer by its conditions, QUIESCE along its checks and sleep entry by its conditions. -/
theorem leavingRun : Obligations.LeavingRun := by
  unfold Obligations.LeavingRun
  refine ⟨fun s => ?_, fun p s h hp hmode hop => ?_, fun s h => ⟨fun hmode => ?_, fun image hmode hop => ?_,
    fun hmode hop hign => ?_, fun hmode hop hign hdriven => ?_⟩, fun s hawake => ?_⟩
  · intro dozes
    have hdozes : mayDoze s = true ↔ dozes := by
      rw [mayDoze_spelled, noClaims_iff_claimAt]
    refine ⟨_, rfl, fun hd => if_pos (hdozes.mpr hd), fun hd => if_neg (mt hdozes.mp hd)⟩
  · exact (exec_quiesce ..).trans (serve_handed h (quiesce_params hmode hop hp))
  · exact (exec_quiesce ..).trans (serve_handed h (quiesce_wrongMode hmode))
  · exact (exec_quiesce ..).trans (serve_handed h (quiesce_storeBusy hmode hop))
  · exact (exec_quiesce ..).trans (serve_handed h (quiesce_ignitionOn hmode hop hign))
  · refine ⟨leaveRun .quiesced s, (exec_quiesce ..).trans (serve_handed h (quiesce_ok hmode hop hign)), leaveRun_mdc ..,
      leaveRun_clt .., leaveRun_sbu .., leaveRun_lif .., leaveRun_sws .., leaveRun_store .., leaveRun_idle nofun,
      leaveRun_fast nofun, leaveRun_pass, leaveRun_channel nofun hdriven, leaveRun_gauge .quiesced s⟩
  · intro quiet
    have hquiet : mayDoze s = true ↔ quiet := mayDoze_spelled s
    refine ⟨fun hstays => ?_, fun hq htimer hdriven => sleepEntry_sleeps hawake (hquiet.mpr hq) htimer hdriven⟩
    have hno : ¬(mayDoze s && s.mdc.sleepTimer.isSome) = true := by
      rw [Bool.and_eq_true]
      rintro ⟨hdoze, htimer⟩
      obtain hnot | hnone := hstays
      · exact hnot (hquiet.mp hdoze)
      · rw [hnone] at htimer
        cases htimer
    rw [exec_sleepEntry hawake, if_neg hno]

end Sys2Proof.Machine

/-! PROOFS. What RESUME makes of the claims (R66, R184), for O54. -/

namespace Sys2Proof.Machine

/-! ### Retirements in a row -/

/-- Retiring the live claims of a list of slots, each once: their slots are freed under the next generation. -/
theorem foldl_retire_effect (xs : List SlotIx) (hxs : xs.Nodup) (s : State) (hlive : ∀ j ∈ xs, (claimAt s j).isSome = true) :
    let t := xs.foldl (fun s i => retire i s) s
    (∀ j, (t.clt.slots.get j).gen = if j ∈ xs then (s.clt.slots.get j).gen + 1 else (s.clt.slots.get j).gen)
      ∧ t.clt.grantList = s.clt.grantList.filter (fun j => j ∉ xs)
      ∧ t.clt.heldQueue = s.clt.heldQueue.filter (fun j => j ∉ xs) := by
  induction xs generalizing s with
  | nil => simp
  | cons x xs ih =>
    obtain ⟨hx, hnodup⟩ := List.nodup_cons.mp hxs
    obtain ⟨c, hc⟩ := Option.isSome_iff_exists.mp (hlive x List.mem_cons_self)
    have hlive' (j : SlotIx) (hj : j ∈ xs) : (claimAt (retire x s) j).isSome = true := by
      have hne : x ≠ j := by
        rintro rfl
        exact hx hj
      rw [claimAt_retire, if_neg hne]
      exact hlive j (List.mem_cons_of_mem _ hj)
    obtain ⟨hgens, hgrants, hhelds⟩ := ih hnodup (retire x s) hlive'
    have hfilter (ys : List SlotIx) :
        (ys.filter (· ≠ x)).filter (fun j => j ∉ xs) = ys.filter (fun j => j ∉ x :: xs) := by
      rw [List.filter_filter]
      refine List.filter_congr fun j _ => ?_
      simp only [List.mem_cons, not_or, ne_eq, Bool.decide_and, Bool.and_comm]
    rw [List.foldl_cons]
    refine ⟨fun j => ?_, ?_, ?_⟩
    · rw [hgens, gen_retire hc]
      by_cases hjx : x = j
      · subst hjx
        rw [if_neg hx, if_pos rfl, if_pos List.mem_cons_self]
      · simp only [if_neg hjx, List.mem_cons, Ne.symm hjx, false_or]
    · rw [hgrants, retire_clt hc]
      exact hfilter _
    · rw [hhelds, retire_clt hc]
      exact hfilter _

/-! ### The entries that come into force (R66) -/

/-- The entry of a circuit once the pending ones have come into force (R66). -/
def comingEntry (s : State) (c : Circ) : CircuitEntry := (s.crs.pendingEntry.get c).getD (s.crs.inForce.get c)

/-- The claim in a slot has lost its channels (R184). -/
def strandedIn (s : State) (i : SlotIx) : Bool := (claimAt s i).any fun c => (comingEntry s c.circuit).channels.isEmpty

section
variable (s : State)

theorem applyPending_comingEntry (c : Circ) : (applyPending s).crs.inForce.get c = comingEntry s c := applyPending_inForce s c

theorem strandedSlots_eq : strandedSlots (applyPending s) = (List.finRange 32).filter (strandedIn s) := by
  unfold strandedSlots liveSlots
  rw [List.filter_filter]
  refine List.filter_congr fun i _ => ?_
  have hclaim : ((applyPending s).clt.slots.get i).claim = claimAt s i := by rw [applyPending_clt, claimAt]
  have hat : claimAt (applyPending s) i = claimAt s i := hclaim
  unfold strandedIn
  rw [hat, hclaim]
  cases claimAt s i with
  | none => rfl
  | some c =>
    dsimp only
    rw [applyPending_comingEntry, Option.isSome_some, Bool.and_true]
    rfl

theorem mem_strandedSlots (i : SlotIx) : i ∈ strandedSlots (applyPending s) ↔ strandedIn s i = true := by
  rw [strandedSlots_eq, List.mem_filter]
  exact ⟨fun h => h.2, fun h => ⟨List.mem_finRange i, h⟩⟩

theorem strandedIn_live {i : SlotIx} (h : strandedIn s i = true) : (claimAt s i).isSome = true := by
  unfold strandedIn at h
  cases hc : claimAt s i with
  | none =>
    rw [hc] at h
    cases h
  | some c => rfl

/-! ### A claim that stays (R184) -/

/-- A claim's record as RESUME leaves it: its levels within the new maximum level, its share from the circuit taken
again (R52, R184). -/
def refitTo (c : Claim) : Claim :=
  let m := (comingEntry s c.circuit).maxLevel
  let req := if c.mode = .flash then m else min c.requested m
  { c with
    requested := req
    floor := if c.mode = .flash then m else min c.floor req
    shareFull := if c.source = .circuit then
        min 250 ((comingEntry s c.circuit).channels.map fun ch => (s.chd.get ch).profile.nominal).sum
      else c.shareFull
    state := c.state.mapLevel fun l => if c.mode = .flash then m else min l req }

theorem refitTo_eq {u : State} (hcrs : u.crs = (applyPending s).crs) (hchd : u.chd = s.chd) {m : Nat} (c : Claim)
    (hm : m = (comingEntry s c.circuit).maxLevel) : (c.fitLevels m).retakeShare u = refitTo s c := by
  have hentry : u.crs.inForce.get c.circuit = comingEntry s c.circuit := by rw [hcrs, applyPending_comingEntry]
  rw [hm]
  unfold Claim.retakeShare nominalShare refitTo
  rw [fitLevels_circuit, hentry, hchd]
  obtain ⟨origin, circuit, mode, cls, requested, floor, share, source, state, expiry, settle⟩ := c
  cases mode with
  | steady => cases source with
    | given => rfl
    | circuit => rfl
  | flash => cases source with
    | given => rfl
    | circuit => rfl

/-- What RESUME does to the claim table before the entry to RUN (R184). -/
structure Refits (s t : State) : Prop where
  claims : ∀ i, claimAt t i = if strandedIn s i then none else (claimAt s i).map (refitTo s)
  gens : ∀ i, (t.clt.slots.get i).gen
    = if strandedIn s i then (s.clt.slots.get i).gen + 1 else (s.clt.slots.get i).gen
  grants : t.clt.grantList = s.clt.grantList.filter fun i => !strandedIn s i
  helds : t.clt.heldQueue = s.clt.heldQueue.filter fun i => !strandedIn s i

theorem foldl_retire_chd (xs : List SlotIx) (s : State) : (xs.foldl (fun s i => retire i s) s).chd = s.chd :=
  foldl_frame (fun s : State => s.chd) _ (fun s i => retire_chd i s) xs s

theorem refits_refitted : Refits s (refitted s) := by
  have hmem := mem_strandedSlots s
  obtain ⟨hgens, hgrants, hhelds⟩ := foldl_retire_effect (strandedSlots (applyPending s))
    (by rw [strandedSlots_eq]; exact (List.nodup_finRange 32).filter _) (applyPending s)
    fun j hj => by
      rw [claimAt_congr (applyPending_clt s)]
      exact strandedIn_live s ((hmem j).mp hj)
  have hclaims := claimAt_foldl_retire (strandedSlots (applyPending s)) (applyPending s)
  have hcrs := foldl_retire_crs (strandedSlots (applyPending s)) (applyPending s)
  have hchd := foldl_retire_chd (strandedSlots (applyPending s)) (applyPending s)
  have hclt : (applyPending s).clt = s.clt := applyPending_clt s
  have hout : (fun i => decide (i ∉ strandedSlots (applyPending s))) = fun i => !strandedIn s i := by
    funext i
    rw [Bool.eq_iff_iff, decide_eq_true_iff, hmem, Bool.not_eq_true, Bool.not_eq_true']
  rw [hclt] at hgens hgrants hhelds
  rw [hout] at hgrants hhelds
  simp only [hmem] at hgens hclaims
  have hchd : ((strandedSlots (applyPending s)).foldl (fun s i => retire i s) (applyPending s)).chd = s.chd := hchd
  unfold refitted
  dsimp only
  generalize (strandedSlots (applyPending s)).foldl (fun s i => retire i s) (applyPending s) = u at *
  have hmax (c : Claim) : maxLevelOf u c.circuit = (comingEntry s c.circuit).maxLevel := by
    rw [maxLevelOf, hcrs, applyPending_comingEntry]
  have hfit (c : Claim) : (c.fitLevels (maxLevelOf u c.circuit)).retakeShare
      (mapClaims (fun c => c.fitLevels (maxLevelOf u c.circuit)) u) = refitTo s c :=
    refitTo_eq s (by rw [mapClaims_crs, hcrs]) (by rw [mapClaims_chd, hchd]) c (hmax c)
  refine ⟨fun i => ?_, fun i => ?_, ?_, ?_⟩
  · rw [claimAt_mapClaims, claimAt_mapClaims, hclaims, claimAt_congr hclt, Option.map_map]
    split
    · rfl
    · exact congrArg (fun f => (claimAt s i).map f) (funext hfit)
  · rw [slots_mapClaims, slots_mapClaims]
    exact hgens i
  · rw [mapClaims_grantList, mapClaims_grantList, hgrants]
  · rw [mapClaims_heldQueue, mapClaims_heldQueue, hhelds]

end

end Sys2Proof.Machine

/-! PROOFS. Settles O54: RESUME by request (R184). -/

namespace Sys2Proof.Machine

/-! ### The claims through an entry to RUN -/

/-- What an entry to RUN leaves of the slots, whether or not a crank begins: their generations, the free ones, and in the
held queue none but those queued before and those a crank holds (R45). -/
structure SlotsEnter (s t : State) : Prop where
  gens : ∀ i, (t.clt.slots.get i).gen = (s.clt.slots.get i).gen
  free : ∀ i, claimAt s i = none → claimAt t i = none
  queued : ∀ i ∈ t.clt.heldQueue, i ∈ s.clt.heldQueue ∨ (claimAt s i).isSome = true

namespace SlotsEnter

variable {s t u : State}

theorem of_clt (h : t.clt = s.clt) : SlotsEnter s t :=
  ⟨fun i => by rw [h], fun i hi => by rw [claimAt_congr h, hi], fun i hi => .inl (by rwa [h] at hi)⟩

theorem trans (h : SlotsEnter s t) (h' : SlotsEnter t u) : SlotsEnter s u := by
  refine ⟨fun i => (h'.gens i).trans (h.gens i), fun i hi => h'.free i (h.free i hi), fun i hi => ?_⟩
  obtain hq | hlive := h'.queued i hi
  · exact h.queued i hq
  · refine .inr (Option.isSome_iff_ne_none.mpr fun hnone => ?_)
    rw [h.free i hnone] at hlive
    cases hlive

theorem makeHeld {i : SlotIx} (hlive : (claimAt s i).isSome = true) (r : HoldReasons) : SlotsEnter s (makeHeld i r s) := by
  refine ⟨fun j => gen_modifyClaim .., fun j hj => ?_, fun j hj => ?_⟩
  · rw [claimAt_makeHeld]
    split
    · next heq =>
      rw [heq, hj]
      rfl
    · exact hj
  · obtain rfl | hq := (mem_makeHeld_heldQueue ..).mp hj
    · exact .inr hlive
    · exact .inl hq

theorem foldl_makeHeld (r : HoldReasons) (xs : List SlotIx) (s : State) (hlive : ∀ i ∈ xs, (claimAt s i).isSome = true) :
    SlotsEnter s (xs.foldl (fun s i => Machine.makeHeld i r s) s) := by
  induction xs generalizing s with
  | nil => exact .of_clt rfl
  | cons x xs ih =>
    have hx := makeHeld (hlive x List.mem_cons_self) r
    rw [List.foldl_cons]
    refine hx.trans (ih _ fun i hi => ?_)
    rw [claimAt_makeHeld]
    split
    · next heq =>
      rw [Option.isSome_map]
      exact hlive x List.mem_cons_self
    · exact hlive i (List.mem_cons_of_mem _ hi)

theorem crankWalk (s : State) : SlotsEnter s (crankWalk s) := by
  refine foldl_makeHeld crankReasons _ s fun i hi => ?_
  have hclass := (List.mem_filter.mp hi).2
  unfold slotClass at hclass
  cases hc : claimAt s i with
  | none =>
    rw [hc] at hclass
    cases hclass
  | some c => rfl

theorem beginCrank (s : State) : SlotsEnter s (beginCrank s) := by
  by_cases h : s.sbu.crank = .cranking
  · rw [beginCrank_running h]
    exact .of_clt rfl
  · have hwalk := (of_clt (s := s) (t := { s with sbu := { s.sbu with crank := .cranking } }) rfl).trans
      (crankWalk { s with sbu := { s.sbu with crank := .cranking } })
    rw [beginCrank_begins h]
    refine hwalk.trans (of_clt ?_)
    rw [setFlag_clt, withHandOver_clt]

theorem enterRun (b : Bool) (s : State) : SlotsEnter s (enterRun b s) := by
  obtain ⟨hclt, -⟩ := enterRun_clt_lif b s
  refine (of_clt (entered_clt b s)).trans (SlotsEnter.trans (t := crankCheck (entered b s)) ?_ (of_clt hclt))
  unfold crankCheck
  split
  · exact beginCrank _
  · exact of_clt rfl

end SlotsEnter

section
variable (b : Bool) (s : State)

/-- A crank begins at an entry to RUN (R45). -/
def crankBegins : Bool := decide (acceptedCode s start = some 1) && decide (s.sbu.crank ≠ .cranking)

theorem crankBegins_iff : crankBegins s = true ↔ acceptedCode s start = some 1 ∧ s.sbu.crank ≠ .cranking := by
  unfold crankBegins
  rw [Bool.and_eq_true, decide_eq_true_iff, decide_eq_true_iff]

theorem enterRun_begins_sbu : (enterRun false s).sbu
    = { s.sbu with crank := if crankBegins s then .cranking else s.sbu.crank } := by
  have hcrank : (if acceptedCode s start = some 1 then Crank.cranking else s.sbu.crank)
      = if crankBegins s then .cranking else s.sbu.crank := by
    by_cases hbegins : crankBegins s = true
    · rw [if_pos hbegins, if_pos ((crankBegins_iff s).mp hbegins).1]
    · rw [if_neg hbegins]
      split
      · next hstart =>
        by_contra hne
        exact hbegins ((crankBegins_iff s).mpr ⟨hstart, Ne.symm hne⟩)
      · rfl
  rw [enterRun_sbu, entered_sbu, if_neg Bool.false_ne_true, hcrank]

theorem enterRun_lif : (enterRun b s).lif
    = { s.lif with status := if crankBegins s then s.lif.status ||| 0x80 else s.lif.status } := by
  by_cases hbegins : crankBegins s = true
  · obtain ⟨hstart, hcrank⟩ := (crankBegins_iff s).mp hbegins
    have hcode : acceptedCode (entered b s) start = some 1 := by rw [acceptedCode, entered_sws, ← hstart]; rfl
    have hcrank' : (entered b s).sbu.crank ≠ .cranking := by rw [entered_sbu]; cases b <;> exact hcrank
    rw [(enterRun_clt_lif b s).2, if_pos hbegins]
    unfold crankCheck
    rw [if_pos hcode, beginCrank_lif hcrank', setFlag_lif, entered_lif]
    rfl
  · have hcalm : acceptedCode s start ≠ some 1 ∨ s.sbu.crank = .cranking := by
      by_contra hno
      rw [not_or, not_not] at hno
      exact hbegins ((crankBegins_iff s).mpr hno)
    rw [(enterRun_calm hcalm).2.2, if_neg hbegins]

omit b s in
theorem resolvedOn_beginCrank {v : Vector Bool 16} {u : State} (h : ResolvedOn v u) : ResolvedOn v (beginCrank u) := by
  by_cases hcrank : u.sbu.crank = .cranking
  · rw [beginCrank_running hcrank]
    exact h
  · have hwalked : ResolvedOn v (withHandOver (fun s => crankWalk { s with sbu := { s.sbu with crank := .cranking } }) u) :=
      resolvedOn_withHandOver h (by rw [crankWalk_crs])
    rw [beginCrank_begins hcrank]
    exact hwalked.congr (setFlag_clt ..) (setFlag_crs ..)

/-- At an entry to RUN every circuit stands resolved (R62). -/
theorem enterRun_resolved (c : Circ) : (enterRun b s).crs.resolved.get c = resolve (enterRun b s) c := by
  have hall : ResolvedOn (tabulate fun _ => true) (entered b s) := by
    intro k _
    unfold entered
    dsimp only
    generalize restartGauges _ = u
    rw [resolveAll_resolved, resolve_congr (resolveAll_clt u) (resolveAll_inForce u)]
  have hcheck : ResolvedOn (tabulate fun _ => true) (crankCheck (entered b s)) := by
    unfold crankCheck
    split
    · exact resolvedOn_beginCrank hall
    · exact hall
  have hbegun := resolvedOn_beginRequested hcheck
  rw [enterRun_eq]
  exact hbegun c (tabulate_get ..)

end

end Sys2Proof.Machine

/-! PROOFS. Settles O54: RESUME by request (R184), from what it makes of the claims and what the entry to RUN does. -/

namespace Sys2Proof.Machine

theorem exec_resume (p : List Byte) (s : State) : exec (.resume p) s = serve .resume resume p s := rfl

/-! ### The checks of RESUME (R184) -/

section
variable {s : State}

theorem resume_wrongMode (h : s.mdc.mode ≠ .quiesced) : resume [] s = (s, { code := .wrongMode, fields := [] }) := if_pos h

theorem resume_storeBusy (hmode : s.mdc.mode = .quiesced) (h : s.mdc.op = .load) :
    resume [] s = (s, { code := .storeBusy, fields := [] }) := (if_neg (not_not.mpr hmode)).trans (if_pos h)

/-- The state that a RESUME brings to RUN (R184). -/
def resumeBase (s : State) : State := requestPass (refitted s)

theorem resume_ok (hmode : s.mdc.mode = .quiesced) (h : s.mdc.op ≠ .load) :
    resume [] s = (enterRun false (resumeBase s),
      { code := .ok, fields := [1, byte ((List.finRange 32).countP (strandedIn s))] }) := by
  have hcount : (resumeRun s).2 = (List.finRange 32).countP (strandedIn s) := by
    rw [List.countP_eq_length_filter, ← strandedSlots_eq]
    rfl
  rw [resumeBase, ← resumeRun_eq, ← hcount]
  exact (if_neg (not_not.mpr hmode)).trans ((if_neg h).trans (if_neg (not_not.mpr rfl)))

end

/-! ### The state before the entry to RUN -/

section
variable (s : State)

theorem foldl_retire_store (xs : List SlotIx) (s : State) : (xs.foldl (fun s i => retire i s) s).store = s.store :=
  foldl_frame (fun s : State => s.store) _ (fun s i => retire_store i s) xs s

theorem refitted_store : (refitted s).store = s.store := by
  simp only [refitted, mapClaims_store, foldl_retire_store, applyPending_store]

theorem resumeBase_frame : (resumeBase s).clt = (refitted s).clt ∧ (resumeBase s).sbu = s.sbu ∧ (resumeBase s).lif = s.lif
    ∧ (resumeBase s).pins = s.pins ∧ (resumeBase s).gau = s.gau ∧ (resumeBase s).sws = s.sws
    ∧ (resumeBase s).mdc = s.mdc ∧ (resumeBase s).store = s.store ∧ (resumeBase s).bde.pass = s.bde.pass
    ∧ (resumeBase s).bde.passRequested = true ∧ (resumeBase s).crs = (applyPending s).crs := by
  obtain ⟨hsbu, hlif, hpins⟩ := refitted_frame s
  have hmove := move_refitted s
  have hgau : (refitted s).gau = s.gau := by rw [hmove.gau, applyPending_gau]
  have hsws : (refitted s).sws = s.sws := by rw [hmove.sws, applyPending_sws]
  have hpass : (refitted s).bde.pass = s.bde.pass := by rw [hmove.pass, applyPending_bde]
  have hmdc := refitted_mdc s
  have hstore := refitted_store s
  have hcrs := refitted_crs s
  unfold resumeBase
  generalize refitted s = u at *
  exact ⟨rfl, hsbu, hlif, hpins, hgau, hsws, hmdc, hstore, hpass, rfl, hcrs⟩

variable {s}

theorem slotClass_refitted {t : State} (h : Refits s t) {i : SlotIx} (hstays : strandedIn s i = false) (p : ClaimClass → Bool) :
    slotClass t i p = slotClass s i p := by
  rw [slotClass_eq, slotClass_eq, h.claims, hstays, if_neg Bool.false_ne_true]
  cases claimAt s i with
  | none => rfl
  | some c => rfl

theorem slotRank_refitted {t : State} (h : Refits s t) {i : SlotIx} (hstays : strandedIn s i = false) :
    slotRank t.clt i = slotRank s.clt i := by
  rw [slotRank_eq, slotRank_eq, h.claims, hstays, if_neg Bool.false_ne_true]
  cases claimAt s i with
  | none => rfl
  | some c => rfl

theorem isHeld_refitTo (c : Claim) : (refitTo s c).isHeld = c.isHeld := by
  obtain ⟨origin, circuit, mode, cls, requested, floor, share, source, state, expiry, settle⟩ := c
  cases state <;> rfl

/-- A claim of the refitted table is one that stays, refitted. -/
theorem Refits.live_iff {t : State} (h : Refits s t) (i : SlotIx) (held : Bool) :
    (∃ c, claimAt t i = some c ∧ c.isHeld = held)
      ↔ strandedIn s i = false ∧ ∃ c, claimAt s i = some c ∧ c.isHeld = held := by
  rw [h.claims]
  cases strandedIn s i with
  | true =>
    rw [if_pos rfl]
    exact ⟨fun ⟨_, hc, _⟩ => (nomatch hc), fun ⟨hno, _⟩ => (nomatch hno)⟩
  | false =>
    rw [if_neg Bool.false_ne_true]
    refine ⟨fun ⟨d, hd, hheld⟩ => ⟨rfl, ?_⟩, fun ⟨_, c, hc, hheld⟩ => ⟨refitTo s c, by rw [hc]; rfl, ?_⟩⟩
    · obtain ⟨c, hc, rfl⟩ := Option.map_eq_some_iff.mp hd
      exact ⟨c, hc, by rwa [isHeld_refitTo] at hheld⟩
    · rw [isHeld_refitTo, hheld]

theorem Refits.exact {t : State} (h : Refits s t) (hexact : CollectionsExact s) : CollectionsExact t := by
  obtain ⟨hgn, hqn, hgranted, hheld, hsorted⟩ := hexact
  have hstays {i : SlotIx} {xs : List SlotIx} (hi : i ∈ xs.filter fun i => !strandedIn s i) : strandedIn s i = false :=
    (Bool.not_eq_true' _).mp (List.mem_filter.mp hi).2
  unfold CollectionsExact
  rw [h.grants, h.helds]
  refine ⟨hgn.filter _, hqn.filter _, fun i => ?_, fun i => ?_, ?_⟩
  · rw [List.mem_filter, hgranted, slotGranted_iff, slotGranted_iff, h.live_iff, Bool.not_eq_true', and_comm]
  · rw [List.mem_filter, hheld, slotHeld_iff, slotHeld_iff, h.live_iff, Bool.not_eq_true', and_comm]
  · refine (hsorted.filter _).imp_of_mem fun hj hk hle => ?_
    rwa [slotRank_refitted h (hstays hj), slotRank_refitted h (hstays hk)]

/-! ### The claims as RESUME leaves them -/

/-- The claims that the crank at a RESUME holds (R45). -/
def takenAt (s : State) (i : SlotIx) : Bool :=
  crankBegins s && !strandedIn s i && slotClass s i fun k => k = .comfort || k = .auxiliary

theorem crankHeld_spelled : (fun k : ClaimClass => decide (k = .comfort) || decide (k = .auxiliary)) = ClaimClass.crankHeld := by
  funext k
  cases k <;> rfl

/-- A claim that stays, after a RESUME: refitted, and HELD with CRANK when a crank takes it (R45, R184). -/
def resumed (s : State) (i : SlotIx) (c : Claim) : Claim :=
  if !c.isHeld && takenAt s i then { refitTo s c with state := .held crankReasons, settle := none } else refitTo s c

/-- What a RESUME does to the claims (R45, R184). -/
structure ResumesClaims (s t : State) : Prop where
  grants : t.clt.grantList = s.clt.grantList.filter fun i => !strandedIn s i && !takenAt s i
  queue : ∀ k : ClaimClass, t.clt.heldQueue.filter (slotClass s · (· = k))
    = (s.clt.heldQueue.filter (fun i => !strandedIn s i) ++ s.clt.grantList.filter (takenAt s)).filter
        (slotClass s · (· = k))
  claims : ∀ i c, claimAt s i = some c → strandedIn s i = false → claimAt t i = some (resumed s i c)

variable {u t : State}

theorem takenAt_of_calm (h : crankBegins s = false) (i : SlotIx) : takenAt s i = false := by
  rw [takenAt, h, Bool.false_and, Bool.false_and]

/-- Without a crank the claims stand as refitted. -/
theorem resumesClaims_calm (h : Refits s u) (hcalm : crankBegins s = false) (hclt : t.clt = u.clt) : ResumesClaims s t := by
  have hnone := takenAt_of_calm hcalm
  have hfilter : s.clt.grantList.filter (takenAt s) = [] := List.filter_eq_nil_iff.mpr fun i _ => by rw [hnone]; simp
  refine ⟨?_, fun k => ?_, fun i c hc hstays => ?_⟩
  · rw [hclt, h.grants]
    exact List.filter_congr fun i _ => by rw [hnone, Bool.not_false, Bool.and_true]
  · rw [hclt, h.helds, hfilter, List.append_nil]
  · rw [claimAt_congr hclt, h.claims, hstays, if_neg Bool.false_ne_true, hc, resumed, hnone, Bool.and_false,
      if_neg Bool.false_ne_true]
    rfl

/-- The slots a crank takes after the refitting, in grant order. -/
theorem taken_of_refits (h : Refits s u) (hbegins : crankBegins s = true) :
    (u.clt.grantList.filter fun i => slotClass u i ClaimClass.crankHeld) = s.clt.grantList.filter (takenAt s) := by
  rw [h.grants, List.filter_filter]
  refine List.filter_congr fun i _ => ?_
  rw [takenAt, hbegins, crankHeld_spelled, Bool.true_and, Bool.and_comm]
  cases hstays : strandedIn s i with
  | true => rfl
  | false => rw [slotClass_refitted h hstays]

/-- A crank holds the claims of its classes that stay, in grant order. -/
theorem resumesClaims_cranks (h : Refits s u) (hbegins : crankBegins s = true) (hholds : CrankHolds u t)
    (hslots : SlotsEnter u t) : ResumesClaims s t := by
  have htaken := taken_of_refits h hbegins
  have hliveStays (i : SlotIx) (hi : (claimAt u i).isSome = true) : strandedIn s i = false := by
    rw [h.claims] at hi
    by_contra hno
    rw [if_pos (Bool.not_eq_false _ ▸ hno)] at hi
    cases hi
  have hqueueStays (i : SlotIx) (hi : i ∈ t.clt.heldQueue) : strandedIn s i = false := by
    obtain hq | hlive := hslots.queued i hi
    · rw [h.helds] at hq
      exact (Bool.not_eq_true' _).mp (List.mem_filter.mp hq).2
    · exact hliveStays i hlive
  refine ⟨?_, fun k => ?_, fun i c hc hstays => ?_⟩
  · rw [hholds.grants, htaken, h.grants, List.filter_filter]
    refine List.filter_congr fun i hi => ?_
    have hmem : decide (i ∉ s.clt.grantList.filter (takenAt s)) = !takenAt s i := by
      rw [Bool.eq_iff_iff, decide_eq_true_iff, List.mem_filter, Bool.not_eq_true']
      exact ⟨fun hno => Bool.eq_false_iff.mpr fun ht => hno ⟨hi, ht⟩, fun hno ht => by rw [hno] at ht; cases ht.2⟩
    rw [hmem, Bool.and_comm]
  · have hqueue := hholds.queue k
    have hself : t.clt.heldQueue.filter (slotClass s · (· = k)) = t.clt.heldQueue.filter (slotClass u · (· = k)) :=
      List.filter_congr fun i hi => (slotClass_refitted h (hqueueStays i hi) _).symm
    have hheld : u.clt.heldQueue.filter (slotClass u · (· = k)) = u.clt.heldQueue.filter (slotClass s · (· = k)) :=
      List.filter_congr fun i hi => by
        rw [h.helds] at hi
        exact slotClass_refitted h ((Bool.not_eq_true' _).mp (List.mem_filter.mp hi).2) _
    have htook : (s.clt.grantList.filter (takenAt s)).filter (slotClass u · (· = k))
        = (s.clt.grantList.filter (takenAt s)).filter (slotClass s · (· = k)) :=
      List.filter_congr fun i hi => by
        have ht := (List.mem_filter.mp hi).2
        rw [takenAt, Bool.and_eq_true, Bool.and_eq_true, Bool.not_eq_true'] at ht
        exact slotClass_refitted h ht.1.2 _
    rw [hself, hqueue, htaken, hheld, htook, h.helds, List.filter_append]
  · rw [hholds.claims, h.claims, hstays, if_neg Bool.false_ne_true, hc, Option.map_some, Option.map_some]
    have hclass : takenAt s i = c.cls.crankHeld := by
      rw [takenAt, hbegins, hstays, crankHeld_spelled, slotClass_eq, hc]
      rfl
    rw [resumed, hclass, Claim.heldBy, isHeld_refitTo]
    rfl

/-- A claim that stays, in the words of R184. -/
theorem resumed_told (i : SlotIx) (c : Claim) :
    let m := (comingEntry s c.circuit).maxLevel
    let req := if c.mode = .flash then m else min c.requested m
    let refit : Claim := { c with
      requested := req
      floor := if c.mode = .flash then m else min c.floor req
      shareFull := if c.source = .circuit then
          min 250 ((comingEntry s c.circuit).channels.map fun ch => (s.chd.get ch).profile.nominal).sum
        else c.shareFull }
    resumed s i c = match c.state with
      | .held r => { refit with state := .held r }
      | .granted l => if takenAt s i then
            { refit with state := .held { budgetTimer := none, crank := true, host := false }, settle := none }
          else { refit with state := .granted (if c.mode = .flash then m else min l req) } := by
  obtain ⟨origin, circuit, mode, cls, requested, floor, share, source, state, expiry, settle⟩ := c
  unfold resumed
  cases state with
  | held r => rfl
  | granted l => cases takenAt s i with
    | true => rfl
    | false => rfl

end

section
variable {s : State}

theorem refits_resumeBase : Refits s (resumeBase s) := by
  have h := refits_refitted s
  unfold resumeBase
  generalize refitted s = r at h
  exact ⟨h.claims, h.gens, h.grants, h.helds⟩

theorem crankBegins_resumeBase : crankBegins (resumeBase s) = crankBegins s := by
  obtain ⟨-, hsbu, -, -, -, hsws, -⟩ := resumeBase_frame s
  unfold crankBegins acceptedCode
  rw [hsbu, hsws]

theorem resume_claims (h : crankBegins s = false ∨ CollectionsExact s) : ResumesClaims s (enterRun false (resumeBase s)) := by
  have hrefits := refits_resumeBase (s := s)
  have hbase := crankBegins_resumeBase (s := s)
  generalize resumeBase s = u at *
  cases hbegins : crankBegins s with
  | false =>
    have hcalm : acceptedCode u start ≠ some 1 ∨ u.sbu.crank = .cranking := by
      by_contra hno
      rw [not_or, not_not] at hno
      rw [(crankBegins_iff u).mpr hno, hbegins] at hbase
      cases hbase
    exact resumesClaims_calm hrefits hbegins (enterRun_calm hcalm).2.1
  | true =>
    obtain ⟨hstart, hcrank⟩ := (crankBegins_iff u).mp (hbase.trans hbegins)
    have hexact := h.resolve_left (by rw [hbegins]; exact nofun)
    exact resumesClaims_cranks hrefits hbegins (crankHolds_enterRun (hrefits.exact hexact) hstart hcrank)
      (SlotsEnter.enterRun false u)

end

/-- Settles O54: along the checks of R184, and by what it makes of the claims and the entry to RUN. -/
theorem resumeRule : Obligations.ResumeRule := by
  unfold Obligations.ResumeRule
  refine fun s h => ⟨fun hmode => (exec_resume ..).trans (serve_handed h (resume_wrongMode hmode)), fun hmode hop =>
    (exec_resume ..).trans (serve_handed h (resume_storeBusy hmode hop)), fun hmode hop hpass => ?_⟩
  intro entry stranded begins taken
  obtain ⟨-, hsbu, hlif, hpins, hgau, hsws, hmdc, hstore, hnone, hrequested, hcrs⟩ := resumeBase_frame s
  have hrefits := refits_resumeBase (s := s)
  have hbase := crankBegins_resumeBase (s := s)
  have hclaims (hor : begins = false ∨ CollectionsExact s) := resume_claims hor
  have hexec := (exec_resume [] s).trans (serve_handed h (resume_ok hmode hop))
  generalize resumeBase s = u at *
  have hslots := SlotsEnter.enterRun false u
  have hbde := enterRun_bde false u
  rw [if_pos ⟨hnone.trans hpass, hrequested⟩] at hbde
  have hcodes : freshPass u = freshPass s := freshPass_congr hsws
  refine ⟨enterRun false u, hexec, by rw [enterRun_mdc, hmdc], by rw [hbde, hcodes], by rw [hbde], fun c => ⟨?_, ?_, ?_⟩,
    by rw [enterRun_sws, hsws], by rw [enterRun_store, hstore], ?_, ?_, ?_, fun i hi => ⟨?_, ?_⟩, fun i hi => ?_,
    fun hcalm => ?_, fun hor => ?_⟩
  · rw [enterRun_inForce, hcrs]
    exact applyPending_comingEntry s c
  · rw [enterRun_pendingEntry, hcrs]
    exact tabulate_get ..
  · exact enterRun_resolved false u c
  · have hgauges := gaugesEnter_enterRun false u
    have hcode : acceptedCode u ign = acceptedCode s ign := by rw [acceptedCode, acceptedCode, hsws]
    rw [hcode] at hgauges
    exact gaugesEnter_congr hgauges hgau (by rw [hpins]) fun _ => rfl
  · rw [enterRun_begins_sbu, hbase, hsbu] <;> rfl
  · rw [enterRun_lif, hbase, hlif] <;> rfl
  · exact hslots.free i (by rw [hrefits.claims]; exact if_pos hi)
  · rw [hslots.gens, hrefits.gens]
    exact if_pos hi
  · rw [hslots.gens, hrefits.gens]
    exact if_neg (by rw [show strandedIn s i = false from hi]; exact Bool.false_ne_true)
  · have hqueue := hrefits.helds
    have hstill : acceptedCode u start ≠ some 1 ∨ u.sbu.crank = .cranking := by
      by_contra hno
      rw [not_or, not_not] at hno
      have hbegins := hbase.symm.trans ((crankBegins_iff u).mpr hno)
      exact absurd (hbegins.symm.trans hcalm) (by decide)
    rw [(enterRun_calm hstill).2.1]
    exact hqueue
  · obtain ⟨hgrants, hqueue, hkept⟩ := hclaims hor
    refine ⟨hgrants, hqueue, fun i c hc hstays => ?_⟩
    exact (hkept i c hc hstays).trans (congrArg some (resumed_told i c))

end Sys2Proof.Machine

/-! PROOFS. Settles O55: the image operations (R185, R186). -/

namespace Sys2Proof.Machine

/-! ### STORE.SAVE and STORE.LOAD -/

theorem exec_storeSave (p : List Byte) (s : State) : exec (.storeSave p) s = serve .storeSave storeSave p s := rfl

theorem exec_storeLoad (p : List Byte) (s : State) : exec (.storeLoad p) s = serve .storeLoad storeLoad p s := rfl

section
variable {s : State}

theorem not_storeBusy (h : s.mdc.op = .none) : ¬storeBusy s = true := fun hb => (storeBusy_iff s).mp hb h

theorem storeSave_busy (h : s.mdc.op ≠ .none) : storeSave [] s = (s, { code := .storeBusy, fields := [] }) :=
  if_pos ((storeBusy_iff s).mpr h)

theorem storeSave_ok (h : s.mdc.op = .none) : storeSave [] s
    = ({ s with mdc := { s.mdc with op := .save (formImage (currentConfiguration s)) }, store := 0 :: 0 :: s.store.drop 2 },
      { code := .accepted, fields := [] }) := (if_neg (not_storeBusy h)).trans (if_neg (not_not.mpr rfl))

theorem storeLoad_wrongMode (h : s.mdc.mode ≠ .quiesced) : storeLoad [] s = (s, { code := .wrongMode, fields := [] }) :=
  if_pos h

theorem storeLoad_busy (hmode : s.mdc.mode = .quiesced) (h : s.mdc.op ≠ .none) :
    storeLoad [] s = (s, { code := .storeBusy, fields := [] }) :=
  (if_neg (not_not.mpr hmode)).trans (if_pos ((storeBusy_iff s).mpr h))

theorem storeLoad_ok (hmode : s.mdc.mode = .quiesced) (h : s.mdc.op = .none) :
    storeLoad [] s = ({ s with mdc := { s.mdc with op := .load } }, { code := .accepted, fields := [] }) :=
  (if_neg (not_not.mpr hmode)).trans ((if_neg (not_storeBusy h)).trans (if_neg (not_not.mpr rfl)))

/-! ### The end of a save -/

theorem endOperation_done (s : State) : endOperation .storeDone s
    = { s with mdc := { s.mdc with op := .none }, lif := { s.lif with status := s.lif.status ||| 0x2000 } } := rfl

theorem endOperation_fail (s : State) : endOperation .storeFail s
    = { s with mdc := { s.mdc with op := .none }, lif := { s.lif with status := s.lif.status ||| 0x4000 } } := rfl

theorem exec_saveComplete {image : List Byte} (hawake : Awake s) (h : s.mdc.op = .save image) :
    exec .storeSaveComplete s = after { s with
      store := image ++ s.store.drop image.length, mdc := { s.mdc with op := .none }
      lif := { s.lif with status := s.lif.status ||| 0x2000 } } := by
  change execStoreSaveComplete s = _
  unfold execStoreSaveComplete
  rw [act_run hawake, h] <;> rfl

theorem exec_saveComplete_idle (hawake : Awake s) (h : ∀ image, s.mdc.op ≠ .save image) :
    exec .storeSaveComplete s = after s := by
  change execStoreSaveComplete s = _
  unfold execStoreSaveComplete
  rw [act_run hawake]
  cases hop : s.mdc.op with
  | save image => exact absurd hop (h image)
  | none => rfl
  | load => rfl

theorem saving_save {image : List Byte} (h : s.mdc.op = .save image) : saving s = true := by
  unfold saving
  rw [h]

theorem exec_saveFail {image : List Byte} (hawake : Awake s) (h : s.mdc.op = .save image) :
    ∃ bytes, HalfSaved image s.store bytes
      ∧ exec .storeSaveFail s = after { s with
          store := bytes, freeCount := s.freeCount + 1, mdc := { s.mdc with op := .none }
          lif := { s.lif with status := s.lif.status ||| 0x4000 } } := by
  refine ⟨(cutSave s).store, cutSave_halfSaved h, ?_⟩
  have hcut : cutSave s = { s with store := (cutSave s).store, freeCount := s.freeCount + 1 } := by
    unfold cutSave
    rw [h]
  change execStoreSaveFail s = _
  unfold execStoreSaveFail
  rw [act_run hawake, if_pos (saving_save h), hcut] <;> rfl

theorem exec_saveFail_idle (hawake : Awake s) (h : ∀ image, s.mdc.op ≠ .save image) : exec .storeSaveFail s = after s := by
  have hidle : ¬saving s = true := by
    rw [(saving_iff s).mpr h]
    exact Bool.false_ne_true
  change execStoreSaveFail s = _
  unfold execStoreSaveFail
  rw [act_run hawake, if_neg hidle] <;> rfl

/-! ### The end of a load -/

theorem exec_loadComplete (hawake : Awake s) (read : StoreRead) : exec (.storeLoadComplete read) s
    = after (if s.mdc.op = .load then
        match (readStore read s).2 with
        | some c => beginRequested (loadImage c { s with store := (readStore read s).1 })
        | none => endOperation .storeFail { s with store := (readStore read s).1 }
      else s) := by
  change execStoreLoadComplete read s = _
  unfold execStoreLoadComplete
  exact act_run hawake _

theorem exec_loadComplete_idle (hawake : Awake s) (h : s.mdc.op ≠ .load) (read : StoreRead) :
    exec (.storeLoadComplete read) s = after s := by
  rw [exec_loadComplete hawake, if_neg h]

theorem exec_loadComplete_held (hawake : Awake s) :
    exec (.storeLoadComplete .held) s = exec (.storeLoadComplete (.given s.store)) s := by
  rw [exec_loadComplete hawake, exec_loadComplete hawake] <;> rfl

theorem exec_loadComplete_invalid {read : StoreRead} (hawake : Awake s) (h : s.mdc.op = .load)
    (hread : (readStore read s).2 = none) : exec (.storeLoadComplete read) s = after { s with
      store := (readStore read s).1, mdc := { s.mdc with op := .none }
      lif := { s.lif with status := s.lif.status ||| 0x4000 } } := by
  rw [exec_loadComplete hawake, if_pos h, hread] <;> rfl

/-! ### A valid image taken by a load (R186) -/

/-- What the taking of a valid image leaves, beside the outputs. -/
structure ImageTaken (cfg : Configuration) (s t : State) : Prop where
  configuration : currentConfiguration t = cfg
  inForce : t.crs.inForce = s.crs.inForce
  pending : ∀ c, t.crs.pendingEntry.get c = some (cfg.circuits.get c)
  mdc : t.mdc = { s.mdc with op := .none, source := .stored }
  store : t.store = s.store
  requested : t.bde.passRequested = true
  lif : t.lif = { s.lif with status := s.lif.status ||| 0x2000 }
  sbu : t.sbu = s.sbu
  recs : ∀ b, t.bde.recs.get b = { link := .none, result := none, verdict := none }
  groups : ∀ i : Fin 16, t.sws.recs.get (i.castLE (by decide)) = { accepted := none, raw := none, candidate := none, run := 0 }
  ign : t.sws.recs.get ign = s.sws.recs.get ign
  start : t.sws.recs.get start = s.sws.recs.get start
  flags : ∀ ch, (t.chd.get ch).openLoadFlag = false
  claims : ∀ i, claimAt t i = (claimAt s i).filter fun c => decide (c.origin = .link)

theorem foldl_retire_lif (xs : List SlotIx) (s : State) : (xs.foldl (fun s i => retire i s) s).lif = s.lif :=
  (foldl_retire_frame xs s).2.1

/-- The state once a load has retired the binding claims (R186). -/
def unbound (s : State) : State := withHandOver (fun s => (bindingSlots s).foldl (fun s i => retire i s) s) s

theorem unbound_frame (s : State) : (unbound s).crs.inForce = s.crs.inForce ∧ (unbound s).mdc = s.mdc
    ∧ (unbound s).store = s.store ∧ (unbound s).lif = s.lif ∧ (unbound s).sbu = s.sbu ∧ (unbound s).sws = s.sws := by
  have hcrs := foldl_retire_crs (bindingSlots s) s
  have hmdc := foldl_retire_mdc (bindingSlots s) s
  have hstore := foldl_retire_store (bindingSlots s) s
  have hsws := (move_foldl_retire (bindingSlots s) s).sws
  obtain ⟨hsbu, hlif, -⟩ := foldl_retire_frame (bindingSlots s) s
  unfold unbound withHandOver
  dsimp only
  generalize (bindingSlots s).foldl (fun s i => retire i s) s = u at *
  rw [handOver_inForce, handOver_mdc, handOver_store, handOver_lif, handOver_sbu, handOver_sws]
  exact ⟨congrArg Resolver.inForce hcrs, hmdc, hstore, hlif, hsbu, hsws⟩

theorem claimAt_unbound (s : State) (i : SlotIx) :
    claimAt (unbound s) i = (claimAt s i).filter fun c => decide (c.origin = .link) := by
  have hclt : (unbound s).clt = ((bindingSlots s).foldl (fun s i => retire i s) s).clt := withHandOver_clt _ s
  rw [claimAt_congr hclt, claimAt_foldl_retire]
  cases hc : claimAt s i with
  | none => exact ite_self _
  | some c =>
    have hmem : i ∈ bindingSlots s ↔ c.origin ≠ .link := by
      rw [mem_bindingSlots]
      exact ⟨fun ⟨d, hd, ho⟩ => Option.some.inj (hc.symm.trans hd) ▸ ho, fun ho => ⟨c, hc, ho⟩⟩
    rw [Option.filter_some]
    by_cases ho : c.origin = .link
    · rw [if_neg fun hi => hmem.mp hi ho, if_pos (decide_eq_true ho)]
    · rw [if_pos (hmem.mpr ho), if_neg (by simpa using ho)]

theorem currentConfiguration_takenImage (cfg : Configuration) (u : State) :
    currentConfiguration (takenImage cfg u) = cfg := by
  have hprofiles : mapTbl Channel.profile (takenImage cfg u).chd = cfg.profiles := tbl_ext fun ch => by
    rw [mapTbl_get]
    exact congrArg Channel.profile (tabulate_get ..)
  have hcircuits : (tabulate fun c => ((takenImage cfg u).crs.pendingEntry.get c).getD ((takenImage cfg u).crs.inForce.get c))
      = cfg.circuits := tbl_ext fun c => by
    have hpending : (takenImage cfg u).crs.pendingEntry.get c = some (cfg.circuits.get c) := mapTbl_get ..
    rw [tabulate_get, hpending, Option.getD_some]
  have hgauges : mapTbl Gauge.settings (takenImage cfg u).gau = cfg.gauges := tbl_ext fun g => by
    rw [mapTbl_get]
    exact congrArg Gauge.settings (tabulate_get ..)
  unfold currentConfiguration
  rw [hprofiles, hcircuits, hgauges]
  rfl

theorem currentConfiguration_ended (u : State) :
    currentConfiguration (endOperation .storeDone u) = currentConfiguration u := by
  rw [endOperation_done] <;> rfl

theorem takenImage_frame (cfg : Configuration) (u : State) :
    let t := endOperation .storeDone (takenImage cfg u)
    t.crs.inForce = u.crs.inForce ∧ t.mdc = { u.mdc with op := .none, source := .stored } ∧ t.store = u.store
      ∧ t.lif = { u.lif with status := u.lif.status ||| 0x2000 } ∧ t.sbu = u.sbu ∧ t.clt = u.clt
      ∧ t.bde.passRequested = true := by
  dsimp only
  rw [endOperation_done]
  unfold takenImage takeConfiguration requestPass
  dsimp only
  exact ⟨rfl, rfl, rfl, rfl, rfl, rfl, rfl⟩

theorem takenImage_tables (cfg : Configuration) (u : State) :
    let t := endOperation .storeDone (takenImage cfg u)
    (∀ c, t.crs.pendingEntry.get c = some (cfg.circuits.get c)) ∧ (∀ b, t.bde.recs.get b = resetBindRec)
      ∧ (∀ g : GroupIx, t.sws.recs.get g = if g.val < 16 then resetGroupRec else u.sws.recs.get g)
      ∧ ∀ ch, t.chd.get ch = (u.chd.get ch).takeProfile (cfg.profiles.get ch) := by
  dsimp only
  rw [endOperation_done]
  exact ⟨fun c => mapTbl_get .., fun b => tabulate_get .., fun g => tabulate_get .., fun ch => tabulate_get ..⟩

theorem imageTaken (cfg : Configuration) (s : State) : ImageTaken cfg s (loadImage cfg s) := by
  obtain ⟨hin, hmdc, hstore, hlif, hsbu, hsws⟩ := unbound_frame s
  have hclaims := claimAt_unbound s
  obtain ⟨hin', hmdc', hstore', hlif', hsbu', hclt', hrequested⟩ := takenImage_frame cfg (unbound s)
  obtain ⟨hpending, hrecs, hgroups, hchannels⟩ := takenImage_tables cfg (unbound s)
  have hcurrent : currentConfiguration (endOperation .storeDone (takenImage cfg (unbound s))) = cfg :=
    (currentConfiguration_ended _).trans (currentConfiguration_takenImage cfg (unbound s))
  have hloaded : loadImage cfg s = endOperation .storeDone (takenImage cfg (unbound s)) := loadImage_eq cfg s
  rw [hloaded]
  generalize endOperation .storeDone (takenImage cfg (unbound s)) = t at *
  generalize unbound s = u at *
  exact {
    configuration := hcurrent
    inForce := hin'.trans hin
    pending := hpending
    mdc := by rw [hmdc', hmdc]
    store := hstore'.trans hstore
    requested := hrequested
    lif := by rw [hlif', hlif]
    sbu := hsbu'.trans hsbu
    recs := hrecs
    groups := fun i => (hgroups _).trans (if_pos i.isLt)
    ign := (hgroups ign).trans (by rw [if_neg (by decide), hsws])
    start := (hgroups start).trans (by rw [if_neg (by decide), hsws])
    flags := fun ch => by rw [hchannels]; rfl
    claims := fun i => (claimAt_congr hclt' i).trans (hclaims i) }

end

/-- Settles O55: each operation along its checks, its completion and its failure. -/
theorem storeRules : Obligations.StoreRules := by
  unfold Obligations.StoreRules
  refine ⟨fun s h => ⟨fun hop => ?_, fun hop => ?_⟩, fun s hawake => ⟨fun image hop => ?_, fun hop => ?_⟩,
    fun s h => ⟨fun hmode => ?_, fun hmode hop => ?_, fun hmode hop => ?_⟩, fun s bytes hawake => ⟨fun hop read => ?_, ?_,
      fun hop hread => ?_, fun hop => ?_, fun cfg hop hmode hread => ?_⟩⟩
  · exact (exec_storeSave ..).trans (serve_handed h (storeSave_busy hop))
  · exact (exec_storeSave ..).trans (serve_handed h (storeSave_ok hop))
  · exact ⟨exec_saveComplete hawake hop, exec_saveFail hawake hop⟩
  · exact ⟨exec_saveComplete_idle hawake hop, exec_saveFail_idle hawake hop⟩
  · exact (exec_storeLoad ..).trans (serve_handed h (storeLoad_wrongMode hmode))
  · exact (exec_storeLoad ..).trans (serve_handed h (storeLoad_busy hmode hop))
  · exact (exec_storeLoad ..).trans (serve_handed h (storeLoad_ok hmode hop))
  · exact exec_loadComplete_idle hawake hop read
  · exact exec_loadComplete_held hawake
  · exact exec_loadComplete_invalid (read := .given bytes) hawake hop hread
  · exact exec_loadComplete_invalid (read := .noAck) hawake hop rfl
  · have htaken := imageTaken cfg { s with store := bytes }
    have hexec := exec_loadComplete hawake (.given bytes)
    have hfound : (readStore (.given bytes) s).2 = some cfg := hread
    have hstore : (readStore (.given bytes) s).1 = bytes := rfl
    rw [if_pos hop, hfound, hstore] at hexec
    dsimp only at hexec
    generalize loadImage cfg { s with store := bytes } = t at *
    have hquiesced : t.mdc.mode = .quiesced := by rw [htaken.mdc, ← hmode]
    have hself : beginRequested t = t := by
      have hstill : ¬(t.mdc.mode == .run && t.bde.pass.isNone && t.bde.passRequested) = true := by
        rw [hquiesced]
        exact Bool.false_ne_true
      exact if_neg hstill
    rw [hself] at hexec
    exact ⟨t, hexec, htaken.configuration, htaken.inForce, htaken.pending, htaken.mdc, htaken.store, htaken.requested,
      htaken.lif, htaken.sbu, htaken.recs, htaken.groups, htaken.ign, htaken.start, htaken.flags, htaken.claims⟩

end Sys2Proof.Machine

/-! PROOFS. Settles O56: the end of LOADING (R180, R182). -/

namespace Sys2Proof.Machine

/-! ### The configuration that LOADING takes (R180) -/

/-- The state with the configuration taken, before the entry to RUN. -/
structure ConfigurationLoaded (cfg : Configuration) (found : Option Configuration) (s t : State) : Prop where
  clt : t.clt = s.clt
  sbu : t.sbu = s.sbu
  pins : t.pins = s.pins
  lif : t.lif = (setFlagIf found.isNone .loadDefault s).lif
  mdc : t.mdc = { s.mdc with source := if found.isSome then .stored else .builtIn }
  inForce : t.crs.inForce = cfg.circuits
  pendingEntry : t.crs.pendingEntry = s.crs.pendingEntry
  pass : t.bde.pass = s.bde.pass
  requested : t.bde.passRequested = s.bde.passRequested
  entries : t.bde.entries = cfg.bindings
  defs : t.sws.defs = cfg.groups
  recs : ∀ g : GroupIx, t.sws.recs.get g = if g.val < 16 then resetGroupRec else s.sws.recs.get g
  gauges : ∀ g, t.gau.get g = { s.gau.get g with settings := cfg.gauges.get g }
  profiles : ∀ ch, (t.chd.get ch).profile = cfg.profiles.get ch
  rate : t.fls.rateSet = cfg.rate
  ticker : t.fls.ticker = cfg.ticker

/-- The records taken, with the circuits in force and the source, before the status flag (R180). -/
def configured (cfg : Configuration) (source : ImageSource) (s : State) : State :=
  let t := takeConfiguration cfg s
  { t with crs := { t.crs with inForce := cfg.circuits }, mdc := { t.mdc with source := source } }

theorem loadConfiguration_eq (found : Option Configuration) (s : State) : loadConfiguration found s
    = setFlagIf found.isNone .loadDefault
        (configured (found.getD defaultConfiguration) (if found.isSome then .stored else .builtIn) s) := rfl

theorem configured_frame (cfg : Configuration) (source : ImageSource) (s : State) : let t := configured cfg source s
    t.clt = s.clt ∧ t.sbu = s.sbu ∧ t.pins = s.pins ∧ t.lif = s.lif ∧ t.mdc = { s.mdc with source := source }
      ∧ t.crs = { s.crs with inForce := cfg.circuits }
      ∧ t.bde = { s.bde with entries := cfg.bindings, recs := tabulate fun _ => resetBindRec }
      ∧ t.sws.defs = cfg.groups ∧ t.fls = { s.fls with rateSet := cfg.rate, ticker := cfg.ticker } := by
  unfold configured takeConfiguration
  dsimp only
  exact ⟨rfl, rfl, rfl, rfl, rfl, rfl, rfl, rfl, rfl⟩

theorem configured_tables (cfg : Configuration) (source : ImageSource) (s : State) : let t := configured cfg source s
    (∀ g : GroupIx, t.sws.recs.get g = if g.val < 16 then resetGroupRec else s.sws.recs.get g)
      ∧ (∀ g, t.gau.get g = { s.gau.get g with settings := cfg.gauges.get g })
      ∧ ∀ ch, t.chd.get ch = (s.chd.get ch).takeProfile (cfg.profiles.get ch) := by
  unfold configured takeConfiguration
  dsimp only
  exact ⟨fun g => tabulate_get .., fun g => tabulate_get .., fun ch => tabulate_get ..⟩

theorem configurationLoaded (found : Option Configuration) (s : State) :
    ConfigurationLoaded (found.getD defaultConfiguration) found s (loadConfiguration found s) := by
  rw [loadConfiguration_eq]
  obtain ⟨hclt, hsbu, hpins, hlif, hmdc, hcrs, hbde, hdefs, hfls⟩ := configured_frame (found.getD defaultConfiguration)
    (if found.isSome then .stored else .builtIn) s
  obtain ⟨hrecs, hgauges, hchannels⟩ := configured_tables (found.getD defaultConfiguration)
    (if found.isSome then .stored else .builtIn) s
  generalize configured (found.getD defaultConfiguration) (if found.isSome then .stored else .builtIn) s = u at *
  exact {
    clt := by rw [setFlagIf_clt, hclt]
    sbu := by rw [setFlagIf_sbu, hsbu]
    pins := by rw [setFlagIf_pins, hpins]
    lif := by
      cases found with
      | none => exact congrArg (fun l : LinkIf => { l with status := l.status ||| Flag.loadDefault.bit }) hlif
      | some c => exact hlif
    mdc := by rw [setFlagIf_mdc, hmdc]
    inForce := by rw [setFlagIf_crs, hcrs]
    pendingEntry := by rw [setFlagIf_crs, hcrs]
    pass := by rw [setFlagIf_bde, hbde]
    requested := by rw [setFlagIf_bde, hbde]
    entries := by rw [setFlagIf_bde, hbde]
    defs := by rw [setFlagIf_sws, hdefs]
    recs := fun g => by rw [setFlagIf_sws, hrecs]
    gauges := fun g => by rw [setFlagIf_gau, hgauges]
    profiles := fun ch => by rw [setFlagIf_chd, hchannels]; rfl
    rate := by rw [setFlagIf_fls, hfls]
    ticker := by rw [setFlagIf_fls, hfls] }

/-! ### The entry to RUN from LOADING (R182) -/

section
variable {s : State}

/-- No group has accepted, nor has any a candidate (R111). -/
def Unread (s : State) : Prop :=
  ∀ g, s.sws.recs.get g = { accepted := none, raw := none, candidate := none, run := 0 }

theorem Unread.code (h : Unread s) (g : GroupIx) : acceptedCode s g = none := by rw [acceptedCode, h g]

/-- An entry to RUN before any group has accepted: no crank begins, and no gauge becomes ACTIVE. -/
theorem enterRun_unread (h : Unread s) :
    (enterRun true s).clt = s.clt ∧ (enterRun true s).lif = s.lif
      ∧ ∀ g, (enterRun true s).gau.get g = { s.gau.get g with samples := [(s.pins.senders.get g).toNat] } := by
  have hcalm : acceptedCode s start ≠ some 1 ∨ s.sbu.crank = .cranking := .inl (by rw [h.code]; exact nofun)
  obtain ⟨-, hclt, hlif⟩ := enterRun_calm (b := true) hcalm
  refine ⟨hclt, hlif, fun g => ?_⟩
  have hgauge := gaugesEnter_enterRun true s g
  dsimp only at hgauge
  rw [h.code] at hgauge
  exact hgauge.trans (if_neg fun hon => nomatch hon.1)

theorem enterRun_unrequested (h : s.bde.passRequested = false) : (enterRun true s).bde = s.bde := by
  rw [enterRun_bde, if_neg (by rw [h]; exact fun hno => nomatch hno.2)]

/-! ### The first scan (R111, R114) -/

/-- A scan at which no group accepts changes the records and the levels alone. -/
theorem scanInputs_quiet {levels : BitVec 26} (h : ∀ g, ((scanRecs s levels).get g).2 = false)
    (hrequested : s.bde.passRequested = false) : scanInputs levels s
      = { s with sws := { s.sws with recs := mapTbl Prod.fst (scanRecs s levels), levels := levels } } := by
  have hempty : ((List.finRange 18).filter fun g => ((scanRecs s levels).get g).2) = [] :=
    List.filter_eq_nil_iff.mpr fun g _ => by rw [h g]; exact Bool.false_ne_true
  have hstill : ¬(s.mdc.mode == .run && s.bde.pass.isNone && s.bde.passRequested) = true := by
    rw [hrequested, Bool.and_false]
    exact Bool.false_ne_true
  unfold scanInputs
  dsimp only
  rw [hempty]
  exact if_neg hstill

/-- The first scan of a group with a debounce count above 1 makes its raw code its candidate. -/
theorem scan_first {d : Nat} (hd : 2 ≤ d) (raw : BitVec 4) :
    GroupRec.scan d raw { accepted := none, raw := none, candidate := none, run := 0 }
      = ({ accepted := none, raw := some raw, candidate := some raw, run := 1 }, false) := by
  have hshort : ¬d ≤ 1 := by omega
  simp [GroupRec.scan, hshort]

theorem scanRecs_first (h : Unread s) (hdefs : ∀ i, 2 ≤ (s.sws.defs.get i).debounce) (levels : BitVec 26) (g : GroupIx) :
    ∃ raw, (scanRecs s levels).get g = ({ accepted := none, raw := some raw, candidate := some raw, run := 1 }, false) := by
  have hdebounce : 2 ≤ (groupDef s g).debounce := by
    unfold groupDef
    split
    · exact hdefs _
    · exact Nat.le_add_left 2 2
  refine ⟨rawCode (groupDef s g) levels, ?_⟩
  rw [scanRecs_get, h g, scan_first hdebounce]

end

end Sys2Proof.Machine

/-! PROOFS. Settles O56: the end of LOADING, from the configuration it takes, the entry to RUN and the first scan. -/

namespace Sys2Proof.Machine

section
variable {s : State}

/-- An entry to RUN with no code of START accepted at 1 and no pass requested is the entry alone. -/
theorem enterRun_alone (h : Unread s) (hrequested : s.bde.passRequested = false) : enterRun true s = entered true s := by
  have hcode : ¬acceptedCode (entered true s) start = some 1 := by
    rw [acceptedCode, entered_sws, h start]
    exact nofun
  have hcheck : crankCheck (entered true s) = entered true s := if_neg hcode
  have hstill : ¬((entered true s).mdc.mode == .run && (entered true s).bde.pass.isNone
      && (entered true s).bde.passRequested) = true := by
    rw [entered_bde, hrequested, Bool.and_false]
    exact Bool.false_ne_true
  rw [enterRun_eq, hcheck]
  exact if_neg hstill

/-- What an entry to RUN leaves of the settings (R62, R182). -/
structure SettingsStand (s t : State) : Prop where
  profile : ∀ ch, (t.chd.get ch).profile = (s.chd.get ch).profile
  rateSet : t.fls.rateSet = s.fls.rateSet
  ticker : t.fls.ticker = s.fls.ticker

theorem entered_settings (s : State) : SettingsStand s (entered true s) := by
  have hsampled : SettingsStand s (entrySample { s with mdc := { s.mdc with mode := .run } }) := ⟨fun _ => rfl, rfl, rfl⟩
  unfold entered
  dsimp only
  rw [if_pos rfl]
  generalize entrySample { s with mdc := { s.mdc with mode := .run } } = u at hsampled ⊢
  have haside : Aside u (resolveAll (restartGauges u)) := (aside_restartGauges u).trans (aside_resolveAll _)
  exact ⟨fun ch => (haside.profile ch).trans (hsampled.profile ch), haside.rateSet.trans hsampled.rateSet,
    haside.ticker.trans hsampled.ticker⟩

/-- The configuration as it stands, with no circuit pending. -/
theorem currentConfiguration_of {cfg : Configuration} {t : State} (hprofiles : ∀ ch, (t.chd.get ch).profile = cfg.profiles.get ch)
    (hin : t.crs.inForce = cfg.circuits) (hpending : ∀ c, t.crs.pendingEntry.get c = none) (hdefs : t.sws.defs = cfg.groups)
    (hentries : t.bde.entries = cfg.bindings) (hgauges : ∀ g, (t.gau.get g).settings = cfg.gauges.get g)
    (hrate : t.fls.rateSet = cfg.rate) (hticker : t.fls.ticker = cfg.ticker) : currentConfiguration t = cfg := by
  have hp : mapTbl Channel.profile t.chd = cfg.profiles := tbl_ext fun ch => by rw [mapTbl_get, hprofiles]
  have hc : (tabulate fun c => (t.crs.pendingEntry.get c).getD (t.crs.inForce.get c)) = cfg.circuits :=
    tbl_ext fun c => by rw [tabulate_get, hpending, Option.getD_none, hin]
  have hg : mapTbl Gauge.settings t.gau = cfg.gauges := tbl_ext fun g => by rw [mapTbl_get, hgauges]
  unfold currentConfiguration
  rw [hp, hc, hg, hdefs, hentries, hrate, hticker]

/-- The part as LOADING_COMPLETE leaves it in LOADING, before the sleep entry timer (R180, R182). -/
def loadingLeft (read : StoreRead) (s : State) : State :=
  let run := enterRun true (loadConfiguration (readStore read s).2 { s with store := (readStore read s).1 })
  scanInputs run.pins.levels run

theorem exec_loadingComplete (hawake : Awake s) (read : StoreRead) : exec (.loadingComplete read) s
    = after (if s.mdc.mode = .loading then loadingLeft read s else s) := by
  change execLoadingComplete read s = _
  unfold execLoadingComplete loadingLeft
  refine (act_run hawake _).trans ?_
  obtain ⟨store, found⟩ := readStore read s
  dsimp only
  generalize enterRun true _ = t
  exact congrArg after rfl

/-- The configuration that a read of the store finds. -/
theorem readStore_found (read : StoreRead) (s : State) :
    (readStore read s).2 = readImage (match read with | .noAck => [] | .held => s.store | .given b => b) := by
  cases read with
  | noAck =>
    have hshort : readImage [] = none := if_neg fun h => by
      have hlen := h.2.1
      unfold Config.imageLength at hlen
      simp at hlen
    exact hshort.symm
  | held => rfl
  | given b => rfl

/-- The part as LOADING leaves it (R180, R182). -/
structure LoadedRun (cfg : Configuration) (found : Option Configuration) (s t : State) : Prop where
  mode : t.mdc.mode = .run
  configuration : currentConfiguration t = cfg
  circuits : ∀ c, t.crs.pendingEntry.get c = none ∧ t.crs.resolved.get c = .off
  source : t.mdc.source = if found.isSome then .stored else .builtIn
  cause : t.mdc.cause = s.mdc.cause
  lif : t.lif = (setFlagIf found.isNone .loadDefault s).lif
  supply : SupplyEnters s t
  gauges : ∀ g, t.gau.get g = { s.gau.get g with settings := cfg.gauges.get g, samples := [(s.pins.senders.get g).toNat] }
  levels : t.sws.levels = s.pins.levels
  unclaimed : noClaims t.clt = true
  groups : ∀ g, ∃ raw, t.sws.recs.get g = { accepted := none, raw := some raw, candidate := some raw, run := 1 }

theorem loadedRun {cfg : Configuration} {found : Option Configuration} {u : State}
    (hloaded : ConfigurationLoaded cfg found s u) (hpending : ∀ c, s.crs.pendingEntry.get c = none)
    (hrequested : s.bde.passRequested = false) (hnone : noClaims s.clt = true) (hunread : Unread s)
    (hdebounce : ∀ i, 2 ≤ (cfg.groups.get i).debounce) :
    LoadedRun cfg found s (scanInputs (enterRun true u).pins.levels (enterRun true u)) := by
  have hrequested' : u.bde.passRequested = false := hloaded.requested.trans hrequested
  have hunread' : Unread u := fun g => by
    rw [hloaded.recs, hunread g]
    exact ite_self _
  obtain ⟨hclt, hlif, hgau⟩ := enterRun_unread hunread'
  have hbde := enterRun_unrequested hrequested'
  have hsettings : SettingsStand u (enterRun true u) := by
    rw [enterRun_alone hunread' hrequested']
    exact entered_settings u
  have hsws := enterRun_sws true u
  have hmdc := enterRun_mdc true u
  have hin := enterRun_inForce true u
  have hpend := enterRun_pendingEntry true u
  have hpins := enterRun_pins true u
  have hsupply := supplyEnters_enterRun u
  have hresolved := enterRun_resolved true u
  generalize enterRun true u = e at *
  have hunreadE : Unread e := fun g => by rw [hsws]; exact hunread' g
  have hfirst := scanRecs_first hunreadE (fun i => by rw [hsws, hloaded.defs]; exact hdebounce i) e.pins.levels
  have hquiet (g : GroupIx) : ((scanRecs e e.pins.levels).get g).2 = false := by
    obtain ⟨raw, hraw⟩ := hfirst g
    rw [hraw]
  have hrec (g : GroupIx) : (mapTbl Prod.fst (scanRecs e e.pins.levels)).get g = ((scanRecs e e.pins.levels).get g).1 :=
    mapTbl_get ..
  have hnone' : noClaims e.clt = true := by rw [hclt, hloaded.clt, hnone]
  have hpendingE (c : Circ) : e.crs.pendingEntry.get c = none := by rw [hpend, hloaded.pendingEntry, hpending]
  have hgaugeE (g : GaugeIx) : e.gau.get g
      = { s.gau.get g with settings := cfg.gauges.get g, samples := [(s.pins.senders.get g).toNat] } := by
    rw [hgau, hloaded.gauges, hloaded.pins]
  rw [scanInputs_quiet hquiet (by rw [hbde, hrequested'])]
  exact {
    mode := by rw [hmdc]
    configuration := currentConfiguration_of (fun ch => (hsettings.profile ch).trans (hloaded.profiles ch))
      (hin.trans hloaded.inForce) hpendingE ((congrArg Scanner.defs hsws).trans hloaded.defs)
      ((congrArg Engine.entries hbde).trans hloaded.entries) (fun g => by rw [hgaugeE])
      (hsettings.rateSet.trans hloaded.rate) (hsettings.ticker.trans hloaded.ticker)
    circuits := fun c => ⟨hpendingE c, (hresolved c).trans (resolve_of_noClaims hnone' c)⟩
    source := by rw [hmdc, hloaded.mdc]
    cause := by rw [hmdc, hloaded.mdc]
    lif := hlif.trans hloaded.lif
    supply := by
      unfold SupplyEnters at hsupply ⊢
      rw [hloaded.sbu, hloaded.pins] at hsupply
      exact hsupply
    gauges := hgaugeE
    levels := by rw [hpins, hloaded.pins]
    unclaimed := hnone'
    groups := fun g => by
      obtain ⟨raw, hraw⟩ := hfirst g
      exact ⟨raw, (hrec g).trans (by rw [hraw])⟩ }

end

/-- Settles O56: the configuration taken, the entry to RUN and the first scan. -/
theorem loadingEnds : Obligations.LoadingEnds := by
  unfold Obligations.LoadingEnds
  refine fun s read hawake => ⟨fun hmode => by rw [exec_loadingComplete hawake, if_neg hmode],
    fun hmode _ hpending _ hrequested hnone hunread => ?_⟩
  intro bytes found cfg hdebounce
  have hread : (readStore read s).2 = found := readStore_found read s
  have hexec := exec_loadingComplete hawake read
  rw [if_pos hmode, loadingLeft, hread] at hexec
  have hloaded := configurationLoaded found { s with store := (readStore read s).1 }
  have hrun := loadedRun hloaded hpending hrequested hnone hunread hdebounce
  generalize scanInputs _ _ = t at *
  have hflag : hasFlag .loadDefault (settleTimer t) = true ↔ hasFlag .loadDefault s = true ∨ found = none := by
    rw [hasFlag_congr .loadDefault ((settleTimer_lif t).trans hrun.lif), hasFlag_setFlagIf, Bool.or_eq_true,
      decide_eq_true rfl, Bool.and_true, Option.isNone_iff_eq_none]
    rfl
  have hsupply : SupplyEnters s (settleTimer t) := hrun.supply
  refine ⟨settleTimer t, hexec, hrun.mode, hrun.configuration, hrun.circuits, hrun.source, hrun.cause, hflag, ?_, ?_, ?_, ?_,
    hsupply, hrun.gauges, hrun.levels, hrun.unclaimed, fun g => ?_⟩
  · rw [settleTimer_sbu]
    exact congrArg Budget.samples hrun.supply
  · rw [settleTimer_sbu]
    exact congrArg Budget.vbatF hrun.supply
  · rw [settleTimer_sbu]
    exact congrArg Budget.vgenF hrun.supply
  · rw [settleTimer_sbu]
    exact congrArg Budget.ibatF hrun.supply
  · obtain ⟨raw, hraw⟩ := hrun.groups g
    rw [settleTimer_sws, hraw]
    exact ⟨rfl, rfl, rfl, rfl⟩

end Sys2Proof.Machine

/-! PROOFS. Each record within its bounds, laid out (R174, R175), is judged to be itself: ground of O59 and O60. -/

namespace Sys2Proof.Machine

/-! ### Fields of one and of two bytes (R169) -/

theorem byte_toNat_of_lt {n : Nat} (h : n < 256) : (byte n).toNat = n := by
  rw [byte_toNat, Nat.mod_eq_of_lt h]

theorem word16_bytes {n : Nat} (h : n < 65536) : word16 (byte (n / 256)) (byte n) = n := by
  rw [word16, byte_toNat, byte_toNat]
  omega

theorem clampNat_of_between {lo hi n : Nat} (hlo : lo ≤ n) (hhi : n ≤ hi) : clampNat lo hi n = n := by
  unfold clampNat
  omega

theorem clampNat_ne_of_between {lo hi n : Nat} (hlo : lo ≤ n) (hhi : n ≤ hi) : (clampNat lo hi n != n) = false := by
  rw [clampNat_of_between hlo hhi, bne_self_eq_false]

/-! ### A profile (R83, R175) -/

section
variable {ch : Chan}

theorem rating_le (ch : Chan) : Config.rating ch ≤ 160 := by
  unfold Config.rating
  split <;> omega

theorem currents_of_sound {p : Profile} (h : p.sound ch = true) :
    profileCurrentsFit ch p.nominal p.trip p.openLoad = true ∧ p.nominal < 256 ∧ p.trip < 256 ∧ p.openLoad < 256 := by
  have hrating := rating_le ch
  simp only [Profile.sound, Bool.and_eq_true, decide_eq_true_eq] at h
  obtain ⟨⟨⟨⟨hnom, hlow⟩, htrip⟩, hopen⟩, -⟩ := h
  refine ⟨?_, by omega, by omega, by omega⟩
  simp only [profileCurrentsFit, Bool.and_eq_true, decide_eq_true_eq]
  exact ⟨⟨⟨hnom, hlow⟩, htrip⟩, hopen⟩

/-- A tell-tale source in its four bytes is judged to be itself. -/
theorem judgeTellSource_self {source : TellSource} (h : ∀ g t, source = .gaugeHigh g t → 1 ≤ t ∧ t ≤ 1000) :
    ∃ src arg th1 th0, tellSourceBytes (some source) = [src, arg, th1, th0]
      ∧ ¬(src = 1 ∧ 15 < arg.toNat ∨ src = 4 ∧ 2 < arg.toNat)
      ∧ judgeTellSource src arg (word16 th1 th0) = some (source, false) := by
  cases source with
  | circuit c =>
    have hc : (byte c.val).toNat = c.val := byte_toNat_of_lt (by omega)
    refine ⟨1, byte c.val, 0, 0, rfl, ?_, judgeTellSource_circuit rfl hc⟩
    rintro (⟨-, hover⟩ | ⟨hno, -⟩)
    · omega
    · exact absurd hno (by decide)
  | flash => exact ⟨2, 0, 0, 0, rfl, by decide, rfl⟩
  | charge => exact ⟨3, 0, 0, 0, rfl, by decide, rfl⟩
  | gaugeHigh g t =>
    obtain ⟨hlow, hhigh⟩ := h g t rfl
    have hg : (byte g.val).toNat = g.val := byte_toNat_of_lt (by omega)
    refine ⟨4, byte g.val, byte (t / 256), byte t, rfl, ?_, ?_⟩
    · rintro (⟨hno, -⟩ | ⟨-, hover⟩)
      · exact absurd hno (by decide)
      · omega
    · rw [judgeTellSource_gauge rfl hg, word16_bytes (by omega), clampNat_ne_of_between hlow hhigh,
        clampNat_of_between hlow hhigh]
  | openLoad => exact ⟨5, 0, 0, 0, rfl, by decide, rfl⟩

theorem judgeProfile_self {p : Profile} (h : p.sound ch = true) : judgeProfile ch (profileBytes p) = .ok (p, false) := by
  obtain ⟨hfit, hnom, htrip, hopen⟩ := currents_of_sound h
  have hkind := (Bool.and_eq_true_iff.mp h).2
  have hrating := rating_le ch
  obtain ⟨kind, nom, trip, ol, inr, md, st, source⟩ := p
  dsimp only at hfit hnom htrip hopen hkind
  have hcurrents : currentsProfile (byte nom) (byte trip) (byte ol) = { kind := .unused, nominal := nom, trip := trip
                                                                        openLoad := ol, inrush := 0, minDuty := 0
                                                                        stall := 0, source := none } := by
    rw [currentsProfile, byte_toNat_of_lt hnom, byte_toNat_of_lt htrip, byte_toNat_of_lt hopen]
  have hfits : profileCurrentsFit ch (byte nom).toNat (byte trip).toNat (byte ol).toNat = true := by
    rw [byte_toNat_of_lt hnom, byte_toNat_of_lt htrip, byte_toNat_of_lt hopen, hfit]
  cases kind with
  | unused =>
    obtain ⟨⟨⟨rfl, rfl⟩, rfl⟩, rfl⟩ : ((inr = 0 ∧ md = 0) ∧ st = 0) ∧ source = none := by simpa using hkind
    exact (judgeProfile_unused rfl hfits).trans (by rw [hcurrents])
  | led =>
    obtain ⟨⟨⟨rfl, rfl⟩, rfl⟩, rfl⟩ : ((inr = 0 ∧ md = 0) ∧ st = 0) ∧ source = none := by simpa using hkind
    exact (judgeProfile_led rfl hfits).trans (by rw [hcurrents])
  | filament =>
    obtain ⟨⟨⟨hinr, rfl⟩, rfl⟩, rfl⟩ : ((inr ≤ 250 ∧ md = 0) ∧ st = 0) ∧ source = none := by simpa using hkind
    refine (judgeProfile_filament rfl hfits).trans ?_
    rw [hcurrents, byte_toNat_of_lt (Nat.lt_of_le_of_lt hinr (by decide)), Nat.min_eq_left hinr,
      decide_eq_false (Nat.not_lt.mpr hinr)]
  | motor =>
    obtain ⟨⟨⟨⟨hch, rfl⟩, hmd⟩, hst⟩, rfl⟩ : (((16 ≤ ch.val ∧ inr = 0) ∧ md ≤ 900) ∧ st ≤ Config.rating ch)
      ∧ source = none := by simpa using hkind
    refine (judgeProfile_motor rfl).trans ?_
    rw [hcurrents, byte_toNat_of_lt (n := st) (by omega), if_pos ⟨hch, hfits, hst⟩,
      word16_bytes (Nat.lt_of_le_of_lt hmd (by decide)), Nat.min_eq_left hmd, decide_eq_false (Nat.not_lt.mpr hmd)]
  | telltale =>
    obtain ⟨⟨⟨rfl, rfl⟩, rfl⟩, hsource⟩ : ((inr = 0 ∧ md = 0) ∧ st = 0) ∧ _ := by simpa using hkind
    cases source with
    | none => contradiction
    | some source =>
      have hthreshold (g : GaugeIx) (t : Nat) (hg : source = .gaugeHigh g t) : 1 ≤ t ∧ t ≤ 1000 := by
        subst hg
        simpa using hsource
      obtain ⟨src, arg, th1, th0, hbytes, hargument, hjudged⟩ := judgeTellSource_self hthreshold
      have hprofile : profileBytes ⟨.telltale, nom, trip, ol, 0, 0, 0, some source⟩
          = [4, byte nom, byte trip, byte ol, byte 0, byte 0, byte 0, byte 0, src, arg, th1, th0] := by
        unfold profileBytes
        dsimp only
        rw [hbytes] <;> rfl
      rw [hprofile, judgeProfile_source rfl hargument hjudged hfits, hcurrents]

end

/-! ### A circuit entry (R51, R175) -/

theorem CircuitEntry.sound_iff (e : CircuitEntry) : e.sound = true
    ↔ e.channels.length ≤ 4 ∧ e.channels.Nodup ∧ 1 ≤ e.maxLevel ∧ e.maxLevel ≤ 15 := by
  simp [CircuitEntry.sound, and_assoc]

/-- A circuit's record with its count, its four positions and its maximum level. -/
theorem judgeCircuitRecord_positions {n m : Byte} {xs : List Byte} (h : xs.length = 4) :
    judgeCircuitRecord (n :: xs ++ [m]) = if 4 < n.toNat then .error .badTable else judgeCircuit (xs.take n.toNat) m := by
  match xs, h with
  | [_, _, _, _], _ => rfl

theorem fourPositions_length (xs : List Byte) : (fourPositions xs).length = 4 := by
  rw [fourPositions, List.length_take, List.length_append]
  exact Nat.min_eq_left (Nat.le_add_left 4 _)

theorem fourPositions_take {xs : List Byte} (h : xs.length ≤ 4) : (fourPositions xs).take xs.length = xs := by
  rw [fourPositions, List.take_take, Nat.min_eq_left h, List.take_left]

theorem judgeCircuitRecord_self {e : CircuitEntry} (h : e.sound = true) :
    judgeCircuitRecord (circuitBytes e) = .ok (e, false) := by
  obtain ⟨hlen, hnodup, hlow, hhigh⟩ := (CircuitEntry.sound_iff e).mp h
  have hcount : (byte e.channels.length).toNat = (e.channels.map fun c => byte c.val).length := by
    rw [byte_toNat_of_lt (by omega), List.length_map]
  have hmax : (byte e.maxLevel).toNat = e.maxLevel := byte_toNat_of_lt (by omega)
  unfold circuitBytes
  rw [judgeCircuitRecord_positions (fourPositions_length _), hcount,
    fourPositions_take (by rw [List.length_map]; exact hlen), if_neg (by rw [List.length_map]; omega),
    judgeCircuit_map hlen, if_pos hnodup, hmax, clampNat_ne_of_between hlow hhigh, clampNat_of_between hlow hhigh]

/-! ### A group definition (R112, R175) -/

theorem judgeGroup_self {d : GroupDef} (h : d.sound = true) : judgeGroup (groupBytes d) = .ok (d, false) := by
  obtain ⟨hfirst, hlow, hhigh, hfit, hmin, hmax⟩ := (GroupDef.sound_iff d).mp h
  have hf : (byte d.first).toNat = d.first := byte_toNat_of_lt (by omega)
  have hw : (byte d.width).toNat = d.width := byte_toNat_of_lt (by omega)
  have hn : (byte d.debounce).toNat = d.debounce := byte_toNat_of_lt (by omega)
  have hpol : d.polarity.code.toNat ≤ 1 := by cases d.polarity <;> decide
  have hback : (if d.polarity.code = 0 then Polarity.activeLow else .activeHigh) = d.polarity := by
    cases d.polarity <;> rfl
  unfold groupBytes
  rw [judgeGroup_ok hpol (by omega) (by omega) (by omega), hf, hw, hn, hback, clampNat_ne_of_between hmin hmax,
    clampNat_of_between hmin hmax]

/-! ### A binding entry (R117, R174) -/

theorem judgeTest_self (t : Test) :
    judgeTest (byte t.group.val) (byte t.mask.toNat) t.op.code (byte t.value.toNat) = .ok t := by
  obtain ⟨group, mask, op, value⟩ := t
  have hgroup : (byte group.val).toNat = group.val := byte_toNat_of_lt (by omega)
  have hnibble (x : BitVec 4) : (byte x.toNat).setWidth 4 = x := by
    have := x.isLt
    exact BitVec.eq_of_toNat_eq (by rw [BitVec.toNat_setWidth, byte_toNat]; omega)
  have hop : TestOp.ofCode op.code = some op := by cases op <;> rfl
  have hback : (⟨(byte group.val).toNat, by omega⟩ : GroupIx) = group := Fin.ext hgroup
  dsimp only
  rw [judgeTest, dif_pos (by omega), hop, hnibble, hnibble, hback]

/-- The three marks of a TEST entry's flags byte (R174). -/
theorem flags_bits (chained acts share : Bool) :
    let flags := byte ((if chained then 1 else 0) + (if acts then 2 else 0) + if share then 4 else 0)
    flags.getLsbD 0 = chained ∧ flags.getLsbD 1 = acts ∧ flags.getLsbD 2 = share := by
  revert chained acts share
  decide

theorem judgeAction_self {a : Action} (h : a.sound = true) : judgeAction a.circuit a.mode a.cls a.level (a.floor.getD 0)
    a.share a.offDelay = (a, false) := by
  obtain ⟨hlow, hhigh, hfloor, hshare, hdelay⟩ := (Action.sound_iff a).mp h
  obtain ⟨circuit, mode, cls, level, floor, share, offDelay⟩ := a
  dsimp only at *
  have hshares : share.map (min · Config.maxShare) = share ∧ decide (Config.maxShare < share.getD 0) = false := by
    cases share with
    | none => exact ⟨rfl, rfl⟩
    | some x =>
      have hx : x ≤ 250 := hshare x rfl
      exact ⟨congrArg some (Nat.min_eq_left hx), decide_eq_false (Nat.not_lt.mpr hx)⟩
  have hfloors : (if floor.getD 0 = 0 then none else some (min (floor.getD 0) level)) = floor
      ∧ (min (floor.getD 0) level != floor.getD 0) = false := by
    cases floor with
    | none => exact ⟨rfl, by rw [Option.getD_none, Nat.zero_min]; rfl⟩
    | some f =>
      obtain ⟨hpos, hle⟩ := hfloor f rfl
      rw [Option.getD_some, Nat.min_eq_left hle]
      exact ⟨if_neg (by omega), bne_self_eq_false f⟩
  have hoff : min offDelay Config.maxExpiry = offDelay ∧ decide (Config.maxExpiry < offDelay) = false :=
    ⟨Nat.min_eq_left hdelay, decide_eq_false (Nat.not_lt.mpr hdelay)⟩
  unfold judgeAction
  dsimp only
  rw [clampNat_of_between hlow hhigh, hshares.1, hshares.2, hfloors.1, hfloors.2, hoff.1, hoff.2, bne_self_eq_false]
  rfl


/-- A TEST entry with an action, its fields as given (R132). -/
theorem judgeBind_action {group mask op value flags circuit mode cls level floor share od1 od0 : Byte} {t : Test} {c : Circ}
    {m : ClaimMode} {k : ClaimClass} (hacts : flags.getLsbD 1 = true) (hc : circuit.toNat = c.val)
    (ht : judgeTest group mask op value = .ok t) (hm : ClaimMode.ofCode mode = some m) (hk : ClaimClass.ofCode cls = some k) :
    judgeBind [1, group, mask, op, value, flags, circuit, mode, cls, level, floor, share, od1, od0]
      = .ok (.test t (flags.getLsbD 0) (some (judgeAction c m k level.toNat floor.toNat
          (if flags.getLsbD 2 then some share.toNat else none) (word16 od1 od0)).1),
        (judgeAction c m k level.toNat floor.toNat
          (if flags.getLsbD 2 then some share.toNat else none) (word16 od1 od0)).2) := by
  have hback : (⟨circuit.toNat, by omega⟩ : Circ) = c := Fin.ext hc
  unfold judgeBind
  dsimp only
  rw [if_neg (by decide), if_neg (by decide), if_neg (by decide), if_pos rfl, if_pos hacts, dif_pos (by omega), ht, hm, hk, hback]

theorem judgeBind_self {e : BindEntry} (h : e.sound = true) : judgeBind (bindBytes e) = .ok (e, false) := by
  cases e with
  | unused => rfl
  | gateEnd => rfl
  | gate t =>
    have ht := judgeTest_self t
    change (judgeTest _ _ _ _).map _ = _
    rw [ht]
    rfl
  | test t chained action =>
    have ht := judgeTest_self t
    cases action with
    | none =>
      have hflags : (boolByte chained).getLsbD 0 = chained ∧ (boolByte chained).getLsbD 1 = false := by
        cases chained <;> decide
      change (if (boolByte chained).getLsbD 1 then _ else (judgeTest _ _ _ _).map _) = _
      rw [if_neg (Bool.eq_false_iff.mp hflags.2), ht]
      exact congrArg (fun b => Except.ok (BindEntry.test t b none, false)) hflags.1
    | some a =>
      obtain ⟨-, hlevel, hfloor, hshare, hdelay⟩ := (Action.sound_iff a).mp h
      obtain ⟨h0, h1, h2⟩ := flags_bits chained true a.share.isSome
      have hc : (byte a.circuit.val).toNat = a.circuit.val := byte_toNat_of_lt (by omega)
      have hbyte {o : Option Nat} (ho : ∀ x, o = some x → x < 256) : (optByte o).toNat = o.getD 0 := by
        refine byte_toNat_of_lt ?_
        cases o with
        | none => decide
        | some x => exact ho x rfl
      have hshared : (if a.share.isSome then some (optByte a.share).toNat else none) = a.share := by
        rw [hbyte fun x hx => by have := hshare x hx; omega]
        cases a.share <;> rfl
      refine (judgeBind_action h1 hc ht (ClaimMode.ofCode_code a.mode) (ClaimClass.ofCode_code a.cls)).trans ?_
      rw [h0, h2, hshared, hbyte fun x hx => by have := hfloor x hx; omega, byte_toNat_of_lt (by omega),
        word16_bytes (by omega), judgeAction_self h]

/-! ### Gauge settings (R136, R175) -/

theorem GaugeSettings.sound_iff (g : GaugeSettings) : g.sound = true
    ↔ (2 ≤ g.points.length ∧ g.points.length ≤ 8) ∧ increasing (g.points.map (·.1)) = true
      ∧ (∀ q ∈ g.points, q.1 ≤ 9999 ∧ q.2 ≤ 1000) ∧ 1 ≤ g.k ∧ g.k ≤ 256 ∧ 800 ≤ g.vstab ∧ g.vstab ≤ 1200 := by
  unfold GaugeSettings.sound
  simp only [Bool.and_eq_true, decide_eq_true_eq, List.all_eq_true, and_assoc]

/-- A gauge's record with its count, its 24 bytes of points and its two settings. -/
theorem judgeGaugeRecord_positions {n k1 k0 v1 v0 : Byte} {xs : List Byte} (h : xs.length = 24) :
    judgeGaugeRecord (n :: xs ++ [k1, k0, v1, v0]) = if 8 < n.toNat then .error .badTable
      else judgeGauge (pointsOf n.toNat xs) (word16 k1 k0) (word16 v1 v0) := by
  have hdrop : (xs ++ [k1, k0, v1, v0]).drop 24 = [k1, k0, v1, v0] := by rw [← h, List.drop_left]
  have htake : (xs ++ [k1, k0, v1, v0]).take 24 = xs := by rw [← h, List.take_left]
  rw [List.cons_append]
  unfold judgeGaugeRecord
  dsimp only
  rw [hdrop, htake]

theorem judgeGauge_self {g : GaugeSettings} (h : g.sound = true) : judgeGauge g.points g.k g.vstab = .ok (g, false) := by
  obtain ⟨hcount, hup, hpoints, hk, hk256, hv, hv1200⟩ := (GaugeSettings.sound_iff g).mp h
  obtain ⟨clamped, hclamped, hjudged⟩ := judgeGauge_ok (k := g.k) (v := g.vstab) hcount (fun q hq => (hpoints q hq).1) hup
  have hplain : clamped = false := by
    rw [← Bool.not_eq_true, hclamped]
    rintro (⟨q, hq, hover⟩ | hout)
    · have := (hpoints q hq).2
      omega
    · omega
  have hkept : (g.points.map fun q => (q.1, min q.2 1000)) = g.points :=
    (List.map_congr_left fun q hq => by rw [Nat.min_eq_left (hpoints q hq).2]).trans (List.map_id' _)
  rw [hjudged, hplain, hkept, Nat.min_eq_right hk256, Nat.max_eq_right hk, Nat.min_eq_right hv1200, Nat.max_eq_right hv]

/-- The points of gauge settings with the unused positions. -/
theorem pointsRun_eq {points : List (Nat × Nat)} (h : points.length ≤ 8) :
    ((points.flatMap pointBytes) ++ List.replicate 24 (0 : Byte)).take 24
      = points.flatMap pointBytes ++ List.replicate (24 - 3 * points.length) 0 := by
  rw [List.take_append, length_flatMap_pointBytes, List.take_of_length_le (by rw [length_flatMap_pointBytes]; omega),
    List.take_replicate, Nat.min_eq_left (by omega)]

theorem judgeGaugeRecord_self {g : GaugeSettings} (h : g.sound = true) :
    judgeGaugeRecord (gaugeBytes g) = .ok (g, false) := by
  obtain ⟨⟨hlow, hhigh⟩, -, hpoints, hk, hk256, hv, hv1200⟩ := (GaugeSettings.sound_iff g).mp h
  have hfit (q : Nat × Nat) (hq : q ∈ g.points) : PointFits q := by
    obtain ⟨hr, hd⟩ := hpoints q hq
    exact ⟨by omega, by omega⟩
  have hrun : (g.points.flatMap pointBytes ++ List.replicate (24 - 3 * g.points.length) (0 : Byte)).length = 24 := by
    rw [List.length_append, length_flatMap_pointBytes, List.length_replicate]
    omega
  have hcount : (byte g.points.length).toNat = g.points.length := byte_toNat_of_lt (by omega)
  have hbytes : gaugeBytes g = byte g.points.length
      :: (g.points.flatMap pointBytes ++ List.replicate (24 - 3 * g.points.length) 0)
      ++ [byte (g.k / 256), byte g.k, byte (g.vstab / 256), byte g.vstab] := by
    unfold gaugeBytes
    rw [pointsRun_eq hhigh, List.append_assoc]
    rfl
  rw [hbytes, judgeGaugeRecord_positions hrun, hcount, if_neg (by omega), pointsOf_flatMap hfit,
    word16_bytes (by omega), word16_bytes (by omega), judgeGauge_self h]

/-! ### The flasher's settings (R68, R175) -/

theorem judgeFlasher_self {rate : Nat} (ticker : Bool) (hlow : 60 ≤ rate) (hhigh : rate ≤ 120) :
    judgeFlasher [byte rate, boolByte ticker] = .ok ((rate, ticker), false) := by
  have hrate : (byte rate).toNat = rate := byte_toNat_of_lt (by omega)
  have hticker : (boolByte ticker).toNat ≤ 1 ∧ decide (boolByte ticker = 1) = ticker := by cases ticker <;> decide
  rw [judgeFlasher_ok hticker.1, hrate, hticker.2, clampNat_ne_of_between hlow hhigh, clampNat_of_between hlow hhigh]

end Sys2Proof.Machine

/-! PROOFS. Settles O59: each record is judged as its write request judges it (R181). -/

namespace Sys2Proof.Machine

section
variable {s : State}

/-! ### PROFILE.WRITE, CIRCUIT.WRITE and GROUP.WRITE -/

theorem profileWrite_asJudged {ch : Chan} {bytes : List Byte} (hlen : bytes.length = 12)
    (h : Handed .profileWrite (byte ch.val :: bytes) s) (hmode : s.mdc.mode = .quiesced) (hop : s.mdc.op = .none) :
    match judgeProfile ch bytes with
    | .error e => exec (.profileWrite (byte ch.val :: bytes)) s = replied e [] s
    | .ok (x, clamped) => exec (.profileWrite (byte ch.val :: bytes)) s = replied (okOr clamped) (profileBytes x)
        { s with chd := put s.chd ch { s.chd.get ch with profile := x, openLoadFlag := false } } := by
  have hch : (byte ch.val).toNat = ch.val := chan_byte_toNat ch
  rcases hjudged : judgeProfile ch bytes with e | ⟨x, clamped⟩
  · exact (exec_profileWrite ..).trans (serve_handed h (profileWrite_refused hmode hop hlen hch hjudged))
  · exact (exec_profileWrite ..).trans (serve_handed h (profileWrite_stored hmode hop hlen hch hjudged))

/-- A record of more than four channels is refused. -/
theorem judgeCircuitRecord_overlong {n c0 c1 c2 c3 m : Byte} (h : 4 < n.toNat) :
    judgeCircuitRecord [n, c0, c1, c2, c3, m] = .error .badTable := if_pos h

theorem judgeCircuitRecord_listed {n c0 c1 c2 c3 m : Byte} (h : n.toNat ≤ 4) :
    judgeCircuitRecord [n, c0, c1, c2, c3, m] = judgeCircuit ([c0, c1, c2, c3].take n.toNat) m :=
  if_neg (Nat.not_lt.mpr h)

theorem circuitWrite_asJudged {c : Circ} {n c0 c1 c2 c3 m : Byte} (hn : n.toNat ≤ 4)
    (h : Handed .circuitWrite (byte c.val :: m :: n :: [c0, c1, c2, c3].take n.toNat) s) (hmode : s.mdc.mode = .quiesced)
    (hop : s.mdc.op = .none) :
    match judgeCircuitRecord [n, c0, c1, c2, c3, m] with
    | .error e => exec (.circuitWrite (byte c.val :: m :: n :: [c0, c1, c2, c3].take n.toNat)) s = replied e [] s
    | .ok (x, clamped) => exec (.circuitWrite (byte c.val :: m :: n :: [c0, c1, c2, c3].take n.toNat)) s
        = replied (okOr clamped) (circuitBytes x ++ [byte c.val])
            { s with crs := { s.crs with pendingEntry := put s.crs.pendingEntry c (some x) } } := by
  have hc : (byte c.val).toNat = c.val := byte_toNat_of_lt (by omega)
  have hlen : ([c0, c1, c2, c3].take n.toNat).length = n.toNat := by
    rw [List.length_take]
    exact Nat.min_eq_left hn
  have hfits : ¬(n.toNat ≤ 4 ∧ ([c0, c1, c2, c3].take n.toNat).length ≠ n.toNat) := fun hno => hno.2 hlen
  have hlisted : judgeCircuit (([c0, c1, c2, c3].take n.toNat).take n.toNat) m
      = judgeCircuitRecord [n, c0, c1, c2, c3, m] := by
    rw [List.take_take, Nat.min_self, judgeCircuitRecord_listed hn]
  rcases hjudged : judgeCircuitRecord [n, c0, c1, c2, c3, m] with e | ⟨x, clamped⟩
  · exact (exec_circuitWrite ..).trans
      (serve_handed h (circuitWrite_refused hmode hop hfits (by omega) (hlisted.trans hjudged)))
  · exact (exec_circuitWrite ..).trans
      (serve_handed h (circuitWrite_stored hmode hop hfits hc (hlisted.trans hjudged) hn))

theorem groupWrite_asJudged {i : Fin 16} {bytes : List Byte} (hlen : bytes.length = 4)
    (h : Handed .groupWrite (byte i.val :: bytes) s) (hmode : s.mdc.mode = .quiesced) (hop : s.mdc.op = .none) :
    match judgeGroup bytes with
    | .error e => exec (.groupWrite (byte i.val :: bytes)) s = replied e [] s
    | .ok (x, clamped) => exec (.groupWrite (byte i.val :: bytes)) s
        = replied (okOr clamped) (groupBytes x) (defineGroup i x s) := by
  have hi : (byte i.val).toNat = i.val := byte_toNat_of_lt (by omega)
  rcases hjudged : judgeGroup bytes with e | ⟨x, clamped⟩
  · exact (exec_groupWrite ..).trans (serve_handed h (groupWrite_refused hmode hop hlen (by omega) hjudged))
  · exact (exec_groupWrite ..).trans (serve_handed h (groupWrite_stored hmode hop hlen hi hjudged))

/-! ### BIND.WRITE between passes -/

theorem bindWrite_refused {binding : Byte} {bytes : List Byte} {e : ReplyCode} (hop : s.mdc.op = .none)
    (hlen : bytes.length = 14) (h : binding.toNat < 64) (hjudged : judgeBind bytes = .error e) :
    bindWrite (binding :: bytes) s = (s, { code := e, fields := [] }) := by
  rw [bindWrite, if_neg (mt (storeBusy_iff s).mp (not_not_intro hop)), if_neg (not_not_intro hlen), dif_pos h]
  dsimp only
  rw [hjudged]
  rfl

theorem bindWrite_stored {binding : Byte} {bytes : List Byte} {b : BindIx} {e : BindEntry} {clamped : Bool}
    (hop : s.mdc.op = .none) (hlen : bytes.length = 14) (h : binding.toNat = b.val)
    (hjudged : judgeBind bytes = .ok (e, clamped)) : bindWrite (binding :: bytes) s
      = (replaceBinding b e s,
          { code := okOr clamped, fields := bindBytes e ++ be16 (retiredHandle (s.bde.recs.get b).link) }) := by
  have hb : (⟨binding.toNat, by omega⟩ : BindIx) = b := Fin.ext h
  rw [bindWrite, if_neg (mt (storeBusy_iff s).mp (not_not_intro hop)), if_neg (not_not_intro hlen), dif_pos (by omega)]
  dsimp only
  rw [hjudged, hb]

theorem unlinked_entries (b : BindIx) (s : State) : (unlinked b s).bde.entries = s.bde.entries := by
  unfold unlinked
  split
  · next hd _ =>
    unfold withHandOver
    dsimp only
    rw [handOver_bde]
    exact (move_retire hd.slot s).entries
  · rfl
  · rfl

theorem replaceBinding_entries (b : BindIx) (e : BindEntry) (s : State) :
    (replaceBinding b e s).bde.entries = put s.bde.entries b e := by
  rw [replaceBinding_eq, beginRequested_entries]
  exact congrArg (put · b e) (unlinked_entries b s)

theorem bindWrite_asJudged {b : BindIx} {bytes : List Byte} (hlen : bytes.length = 14)
    (h : Handed .bindWrite (byte b.val :: bytes) s) (hpass : s.bde.pass = none) (hop : s.mdc.op = .none) :
    match judgeBind bytes with
    | .error e => exec (.bindWrite (byte b.val :: bytes)) s = replied e [] s
    | .ok (x, clamped) => ∃ retired t, exec (.bindWrite (byte b.val :: bytes)) s
        = replied (okOr clamped) (bindBytes x ++ retired) t ∧ t.bde.entries = put s.bde.entries b x := by
  have hb : (byte b.val).toNat = b.val := byte_toNat_of_lt (by omega)
  rcases hjudged : judgeBind bytes with e | ⟨x, clamped⟩
  · exact exec_bindWrite_between h hpass (bindWrite_refused hop hlen (by omega) hjudged)
  · exact ⟨_, _, exec_bindWrite_between h hpass (bindWrite_stored hop hlen hb hjudged), replaceBinding_entries b x s⟩

/-! ### GAUGE.SET and FLASHER.SET -/

/-- The points are those of as many bytes as the count names. -/
theorem pointsOf_take {n : Nat} {xs : List Byte} (h : 3 * n ≤ xs.length) (rest : List Byte) :
    pointsOf n (xs.take (3 * n) ++ rest) = pointsOf n xs := by
  induction n generalizing xs with
  | zero => rfl
  | succ n ih =>
    match xs, h with
    | b2 :: b1 :: b0 :: xs, h =>
      have hrest : 3 * n ≤ xs.length := by simp only [List.length_cons] at h; omega
      exact congrArg (((b2.toNat * 65536 + b1.toNat * 256 + b0.toNat) / 1024,
        (b2.toNat * 65536 + b1.toNat * 256 + b0.toNat) % 1024) :: ·) (ih hrest)

theorem pointsOf_length_le (n : Nat) (xs : List Byte) : (pointsOf n xs).length ≤ n := by
  induction n generalizing xs with
  | zero => exact Nat.le_refl 0
  | succ n ih =>
    match xs with
    | b2 :: b1 :: b0 :: rest => exact Nat.succ_le_succ (ih rest)
    | [] => exact Nat.zero_le _
    | [_] => exact Nat.zero_le _
    | [_, _] => exact Nat.zero_le _

/-- A record of fewer than two points or of more than eight is refused. -/
theorem judgeGaugeRecord_badCount {n : Byte} {rest : List Byte} (h : n.toNat < 2 ∨ 8 < n.toNat) :
    ∃ e, judgeGaugeRecord (n :: rest) = .error e := by
  unfold judgeGaugeRecord
  dsimp only
  split
  · split
    · exact ⟨_, rfl⟩
    · next hle =>
      have hshort := pointsOf_length_le n.toNat (rest.take 24)
      exact ⟨_, judgeGauge_badCount (.inl (by omega))⟩
  · exact ⟨_, rfl⟩

theorem afterPoints_take {n : Nat} {xs : List Byte} {k1 k0 v1 v0 : Byte} (h : 3 * n ≤ xs.length) :
    afterPoints n (xs.take (3 * n) ++ [k1, k0, v1, v0]) = (word16 k1 k0, word16 v1 v0) := by
  have hlen : (xs.take (3 * n)).length = 3 * n := by rw [List.length_take, Nat.min_eq_left h]
  have hdrop : (xs.take (3 * n) ++ [k1, k0, v1, v0]).drop (3 * n) = [k1, k0, v1, v0] := by
    rw [List.drop_append_of_le_length (Nat.le_of_eq hlen.symm), List.drop_of_length_le (Nat.le_of_eq hlen), List.nil_append]
  unfold afterPoints
  rw [hdrop]

/-- GAUGE.SET of the points that its count names, out of a record's 24 bytes. -/
theorem gaugeSet_record {g : GaugeIx} {n k1 k0 v1 v0 : Byte} {points : List Byte} (hmode : s.mdc.mode = .run)
    (hop : s.mdc.op = .none) (hlen : points.length = 24) (hlow : 2 ≤ n.toNat) (hhigh : n.toNat ≤ 8) :
    gaugeSet (byte g.val :: n :: points.take (3 * n.toNat) ++ [k1, k0, v1, v0]) s
      = match judgeGaugeRecord (n :: points ++ [k1, k0, v1, v0]) with
        | .error e => refused e s
        | .ok (settings, clamped) => ({ s with gau := put s.gau g { s.gau.get g with settings := settings } },
            { code := okOr clamped, fields := gaugeBytes settings }) := by
  have hg : (byte g.val).toNat = g.val := byte_toNat_of_lt (by omega)
  have hback : (⟨(byte g.val).toNat, by omega⟩ : GaugeIx) = g := Fin.ext hg
  have hrun : 3 * n.toNat ≤ points.length := by omega
  have hcount : pointCountFits n = true := pointCountFits_iff.mpr ⟨hlow, hhigh⟩
  have hfits : ¬(pointCountFits n = true ∧ (points.take (3 * n.toNat) ++ [k1, k0, v1, v0]).length ≠ 4 + 3 * n.toNat) := by
    rintro ⟨-, hne⟩
    rw [List.length_append, List.length_take, Nat.min_eq_left hrun] at hne
    exact hne (Nat.add_comm ..)
  refine (gaugeSet_idle (rest := points.take (3 * n.toNat) ++ [k1, k0, v1, v0]) hmode hop).trans ?_
  refine (if_neg hfits).trans ((dif_pos (by omega)).trans ((if_pos hcount).trans ?_))
  rw [judgeGaugeRecord_positions hlen, if_neg (by omega), pointsOf_take hrun, afterPoints_take hrun, hback] <;> rfl

theorem gaugeSet_asJudged {g : GaugeIx} {n k1 k0 v1 v0 : Byte} {points : List Byte} (hlen : points.length = 24)
    (hlow : 2 ≤ n.toNat) (hhigh : n.toNat ≤ 8)
    (h : Handed .gaugeSet (byte g.val :: n :: points.take (3 * n.toNat) ++ [k1, k0, v1, v0]) s) (hmode : s.mdc.mode = .run)
    (hop : s.mdc.op = .none) :
    match judgeGaugeRecord (n :: points ++ [k1, k0, v1, v0]) with
    | .error e => exec (.gaugeSet (byte g.val :: n :: points.take (3 * n.toNat) ++ [k1, k0, v1, v0])) s = replied e [] s
    | .ok (x, clamped) => exec (.gaugeSet (byte g.val :: n :: points.take (3 * n.toNat) ++ [k1, k0, v1, v0])) s
        = replied (okOr clamped) (gaugeBytes x) { s with gau := put s.gau g { s.gau.get g with settings := x } } := by
  have hset := gaugeSet_record (g := g) (k1 := k1) (k0 := k0) (v1 := v1) (v0 := v0) hmode hop hlen hlow hhigh
  rcases hjudged : judgeGaugeRecord (n :: points ++ [k1, k0, v1, v0]) with e | ⟨x, clamped⟩
  · rw [hjudged] at hset
    exact (exec_gaugeSet ..).trans (serve_handed h hset)
  · rw [hjudged] at hset
    exact (exec_gaugeSet ..).trans (serve_handed h hset)

theorem flasherSet_asJudged {bytes : List Byte} (h : Handed .flasherSet bytes s) (hop : s.mdc.op = .none) :
    match judgeFlasher bytes with
    | .error e => exec (.flasherSet bytes) s = replied e [] s
    | .ok ((rate, ticker), clamped) => ∃ inForce, exec (.flasherSet bytes) s
        = replied (okOr clamped) [byte rate, boolByte ticker, inForce]
            { s with fls := { s.fls with rateSet := rate, ticker := ticker } } := by
  have hfree : ¬storeBusy s = true := fun h => (storeBusy_iff s).mp h hop
  rcases hjudged : judgeFlasher bytes with e | ⟨⟨rate, ticker⟩, clamped⟩
  · exact (exec_flasherSet ..).trans (serve_handed h (flasherSet_error hop hjudged))
  · refine ⟨byte s.fls.phase.rate, (exec_flasherSet ..).trans (serve_handed h ?_)⟩
    unfold flasherSet
    rw [if_neg hfree, hjudged]

end

/-- Settles O59: each record judged to be itself, and as its write request judges it. -/
theorem recordsReadBack : Obligations.RecordsReadBack := by
  unfold Obligations.RecordsReadBack
  refine ⟨fun ch p => judgeProfile_self, fun e => judgeCircuitRecord_self, fun d => judgeGroup_self,
    fun e => judgeBind_self, fun g => judgeGaugeRecord_self, fun rate ticker => judgeFlasher_self ticker, fun s => ?_⟩
  intro code
  refine ⟨fun ch bytes hlen => ?_, fun n c0 c1 c2 c3 m hn => ⟨_, judgeCircuitRecord_overlong hn⟩,
    fun c n c0 c1 c2 c3 m hn => ?_, fun i bytes hlen => ?_, fun b bytes hlen => ?_, fun n rest => judgeGaugeRecord_badCount,
    fun g n k1 k0 v1 v0 points hlen hlow hhigh => ?_, fun bytes h hop => ?_⟩
  · intro p h hmode hop
    exact profileWrite_asJudged hlen h hmode hop
  · intro p h hmode hop
    exact circuitWrite_asJudged hn h hmode hop
  · intro p h hmode hop
    exact groupWrite_asJudged hlen h hmode hop
  · intro p h hpass hop
    exact bindWrite_asJudged hlen h hpass hop
  · intro p h hmode hop
    exact gaugeSet_asJudged hlen hlow hhigh h hmode hop
  · exact flasherSet_asJudged h hop

end Sys2Proof.Machine

/-! PROOFS. Settles O60: what a valid image is, and the image of a configuration read back (R177, R180, R181, R185). -/

namespace Sys2Proof.Machine

/-! ### A valid image, exactly (R180) -/

/-- A section whose records are all accepted is collected. -/
theorem collect_of_takes {α : Type} {n : Nat} {dflt : α} {judge : Fin n → Judged α} {v : Vector α n}
    (h : ∀ i, Takes (judge i) (v.get i)) : collect dflt judge = some v := by
  have hall : ((List.finRange n).all fun i => (judge i).toBool) = true := List.all_eq_true.mpr fun i _ => by
    obtain ⟨clamped, hi⟩ := h i
    rw [hi]
    rfl
  unfold collect
  rw [if_pos hall]
  refine congrArg some (tbl_ext fun i => ?_)
  obtain ⟨clamped, hi⟩ := h i
  rw [tabulate_get, hi]

theorem judgeImage_iff {bytes : List Byte} {c : Configuration} : judgeImage bytes = some c ↔ Judges bytes c := by
  refine ⟨judgeImage_eq_some, fun h => ?_⟩
  obtain ⟨clamped, hflasher⟩ := h.flasher
  unfold judgeImage
  rw [collect_of_takes h.profiles, collect_of_takes h.circuits, collect_of_takes h.groups, collect_of_takes h.bindings,
    collect_of_takes h.gauges, hflasher]

/-- The four bytes of the header are its two words. -/
theorem header_iff {bytes a b : List Byte} (ha : a.length = 2) (hlen : 4 ≤ bytes.length) :
    slice bytes 0 4 = a ++ b ↔ slice bytes 0 2 = a ∧ slice bytes 2 2 = b := by
  have hsplit : slice bytes 0 4 = slice bytes 0 2 ++ slice bytes 2 2 := List.take_add (i := 2) (j := 2)
  have hfirst : (slice bytes 0 2).length = a.length := by
    rw [ha, slice, List.length_take, List.length_drop]
    omega
  rw [hsplit]
  exact ⟨fun h => List.append_inj h hfirst, fun ⟨hl, hr⟩ => by rw [hl, hr]⟩

theorem readImage_iff (bytes : List Byte) (c : Configuration) : readImage bytes = some c
    ↔ (1391 ≤ bytes.length ∧ slice bytes 0 2 = be16 1 ∧ slice bytes 2 2 = be16 1391
        ∧ slice bytes 1389 2 = be16 (checksum (bytes.take 1389))) ∧ Judges bytes c := by
  have hlength : Config.imageLength = 1391 := rfl
  unfold readImage
  rw [hlength]
  constructor
  · intro h
    split at h
    · next hvalid =>
      obtain ⟨hheader, hlen, hsum⟩ := hvalid
      obtain ⟨hformat, hsize⟩ := (header_iff rfl (by omega)).mp hheader
      exact ⟨⟨hlen, hformat, hsize, hsum⟩, judgeImage_iff.mp h⟩
    · contradiction
  · rintro ⟨⟨hlen, hformat, hsize, hsum⟩, hjudges⟩
    rw [if_pos ⟨(header_iff rfl (by omega)).mpr ⟨hformat, hsize⟩, hlen, hsum⟩]
    exact judgeImage_iff.mpr hjudges

/-! ### The sizes of the records (R175, R174) -/

theorem profileBytes_length (p : Profile) : (profileBytes p).length = 12 := by
  have hsource : (tellSourceBytes p.source).length = 4 := by
    cases p.source with
    | none => rfl
    | some source => cases source <;> rfl
  unfold profileBytes
  rw [List.length_append, hsource]
  rfl

theorem circuitBytes_length (e : CircuitEntry) : (circuitBytes e).length = 6 := by
  unfold circuitBytes
  rw [List.length_append, List.length_cons, fourPositions_length]
  rfl

theorem groupBytes_length (d : GroupDef) : (groupBytes d).length = 4 := rfl

theorem bindBytes_length (e : BindEntry) : (bindBytes e).length = 14 := by
  cases e with
  | unused => rfl
  | gateEnd => rfl
  | gate t => rfl
  | test t chained action => cases action <;> rfl

theorem gaugeBytes_length (g : GaugeSettings) : (gaugeBytes g).length = 29 := by
  have hpoints : ((g.points.flatMap pointBytes ++ List.replicate 24 (0 : Byte)).take 24).length = 24 := by
    rw [List.length_take, List.length_append, List.length_replicate]
    exact Nat.min_eq_left (Nat.le_add_left 24 _)
  unfold gaugeBytes
  rw [List.length_append, List.length_append, List.length_cons, hpoints]
  rfl

/-! ### A section of records of one size -/

section
variable {α : Type} {n k : Nat} {f : α → List Byte}

theorem section_length (h : ∀ x, (f x).length = k) (v : Vector α n) : (v.toList.flatMap f).length = n * k := by
  rw [List.length_flatMap, List.map_congr_left fun x _ => h x, List.map_const', List.sum_replicate, Vector.length_toList,
    smul_eq_mul]

theorem slice_flatMap (h : ∀ x, (f x).length = k) (xs : List α) (rest : List Byte) (i : Nat) (hi : i < xs.length) :
    slice (xs.flatMap f ++ rest) (k * i) k = f xs[i] := by
  induction xs generalizing i with
  | nil => contradiction
  | cons x xs ih =>
    rw [List.flatMap_cons, List.append_assoc]
    cases i with
    | zero =>
      rw [slice, Nat.mul_zero, List.drop_zero, List.getElem_cons_zero, ← h x, List.take_left]
    | succ i =>
      have hnext := ih i (Nat.lt_of_succ_lt_succ hi)
      rw [slice, Nat.mul_succ, Nat.add_comm, ← List.drop_drop, List.drop_left' (h x)]
      exact hnext

/-- A record of a section, behind what goes before it. -/
theorem slice_section (h : ∀ x, (f x).length = k) {before rest : List Byte} {off : Nat} (hoff : before.length = off)
    (v : Vector α n) (i : Fin n) : slice (before ++ (v.toList.flatMap f ++ rest)) (off + k * i.val) k = f (v.get i) := by
  have hi : i.val < v.toList.length := by rw [Vector.length_toList]; exact i.isLt
  have hrecord := slice_flatMap h v.toList rest i.val hi
  rw [Vector.getElem_toList] at hrecord
  rw [slice, ← List.drop_drop, List.drop_left' hoff]
  exact hrecord

theorem slice_shift {before rest : List Byte} {a : Nat} (ha : before.length = a) (off len : Nat) :
    slice (before ++ rest) (a + off) len = slice rest off len := by
  rw [slice, ← List.drop_drop, List.drop_left' ha]
  rfl

theorem slice_behind {before mid rest : List Byte} {off len : Nat} (hoff : before.length = off) (hlen : mid.length = len) :
    slice (before ++ (mid ++ rest)) off len = mid := by
  rw [slice, List.drop_left' hoff, List.take_left' hlen]

end

/-! ### The image of a configuration (R177) -/

section
variable (c : Configuration) (rest : List Byte)

theorem profiles_length : (c.profiles.toList.flatMap profileBytes).length = 240 := section_length profileBytes_length _

theorem circuits_length : (c.circuits.toList.flatMap circuitBytes).length = 96 := section_length circuitBytes_length _

theorem groups_length : (c.groups.toList.flatMap groupBytes).length = 64 := section_length groupBytes_length _

theorem bindings_length : (c.bindings.toList.flatMap bindBytes).length = 896 := section_length bindBytes_length _

theorem gauges_length : (c.gauges.toList.flatMap gaugeBytes).length = 87 := section_length gaugeBytes_length _

/-- The header of an image: the format number and the length. -/
def imageHeader : List Byte := be16 1 ++ be16 Config.imageLength

theorem imageHeader_length : imageHeader.length = 4 := rfl

theorem imageBody_length : (imageBody c).length = 1389 := by
  unfold imageBody
  simp only [List.length_append, profiles_length, circuits_length, groups_length, bindings_length, gauges_length]
  rfl

theorem formImage_length : (formImage c).length = 1391 := by
  rw [formImage, List.length_append, imageBody_length]
  rfl

theorem slice_header : slice (formImage c ++ rest) 0 2 = be16 1 ∧ slice (formImage c ++ rest) 2 2 = be16 1391 := by
  unfold formImage imageBody
  simp only [List.append_assoc]
  exact ⟨rfl, rfl⟩

theorem slice_checksum :
    slice (formImage c ++ rest) 1389 2 = be16 (checksum ((formImage c ++ rest).take 1389)) := by
  unfold formImage
  rw [List.append_assoc, List.take_left' (imageBody_length c)]
  exact slice_behind (imageBody_length c) rfl

/-- What follows the records in an image: the flasher's settings and the checksum, and what lies beyond. -/
def imageTail : List Byte := [byte c.rate, boolByte c.ticker] ++ (be16 (checksum (imageBody c)) ++ rest)

/-- The places of the sections in an image (R177). -/
theorem image_eq : formImage c ++ rest = imageHeader ++ (c.profiles.toList.flatMap profileBytes
    ++ (c.circuits.toList.flatMap circuitBytes ++ (c.groups.toList.flatMap groupBytes
      ++ (c.bindings.toList.flatMap bindBytes ++ (c.gauges.toList.flatMap gaugeBytes ++ imageTail c rest))))) := by
  simp only [formImage, imageBody, imageHeader, imageTail, List.append_assoc]

theorem slice_profile (ch : Chan) : slice (formImage c ++ rest) (4 + 12 * ch.val) 12 = profileBytes (c.profiles.get ch) := by
  rw [image_eq, slice_section profileBytes_length imageHeader_length]

theorem slice_circuit (i : Circ) : slice (formImage c ++ rest) (244 + 6 * i.val) 6 = circuitBytes (c.circuits.get i) := by
  rw [image_eq, show 244 + 6 * i.val = 4 + (240 + 6 * i.val) by omega, slice_shift imageHeader_length,
    slice_section circuitBytes_length (profiles_length c)]

theorem slice_group (i : Fin 16) : slice (formImage c ++ rest) (340 + 4 * i.val) 4 = groupBytes (c.groups.get i) := by
  rw [image_eq, show 340 + 4 * i.val = 4 + (240 + (96 + 4 * i.val)) by omega, slice_shift imageHeader_length,
    slice_shift (profiles_length c), slice_section groupBytes_length (circuits_length c)]

theorem slice_binding (b : BindIx) : slice (formImage c ++ rest) (404 + 14 * b.val) 14 = bindBytes (c.bindings.get b) := by
  rw [image_eq, show 404 + 14 * b.val = 4 + (240 + (96 + (64 + 14 * b.val))) by omega, slice_shift imageHeader_length,
    slice_shift (profiles_length c), slice_shift (circuits_length c), slice_section bindBytes_length (groups_length c)]

theorem slice_gauge (g : GaugeIx) : slice (formImage c ++ rest) (1300 + 29 * g.val) 29 = gaugeBytes (c.gauges.get g) := by
  rw [image_eq, show 1300 + 29 * g.val = 4 + (240 + (96 + (64 + (896 + 29 * g.val)))) by omega,
    slice_shift imageHeader_length, slice_shift (profiles_length c), slice_shift (circuits_length c),
    slice_shift (groups_length c), slice_section gaugeBytes_length (bindings_length c)]

theorem slice_flasher : slice (formImage c ++ rest) 1387 2 = [byte c.rate, boolByte c.ticker] := by
  rw [image_eq, show 1387 = 4 + (240 + (96 + (64 + (896 + 87)))) from rfl, slice_shift imageHeader_length,
    slice_shift (profiles_length c), slice_shift (circuits_length c), slice_shift (groups_length c),
    slice_shift (bindings_length c)]
  exact slice_behind (gauges_length c) rfl

end

/-- The records of a sound configuration's image are judged to be its own. -/
theorem judges_formImage {c : Configuration} (h : c.Sound) (rest : List Byte) : Judges (formImage c ++ rest) c := by
  obtain ⟨hprofiles, hcircuits, hgroups, hbindings, hgauges, hlow, hhigh⟩ := h
  refine ⟨fun ch => ⟨false, ?_⟩, fun i => ⟨false, ?_⟩, fun i => ⟨false, ?_⟩, fun b => ⟨false, ?_⟩, fun g => ⟨false, ?_⟩,
    false, ?_⟩
  · rw [slice_profile, judgeProfile_self (hprofiles ch)]
  · rw [slice_circuit, judgeCircuitRecord_self (hcircuits i)]
  · rw [slice_group, judgeGroup_self (hgroups i)]
  · rw [slice_binding, judgeBind_self (hbindings b)]
  · rw [slice_gauge, judgeGaugeRecord_self (hgauges g)]
  · rw [slice_flasher, judgeFlasher_self c.ticker hlow hhigh]

theorem readImage_formImage {c : Configuration} (h : c.Sound) (rest : List Byte) :
    readImage (formImage c ++ rest) = some c := by
  obtain ⟨hformat, hsize⟩ := slice_header c rest
  refine (readImage_iff _ c).mpr ⟨⟨?_, hformat, hsize, slice_checksum c rest⟩, judges_formImage h rest⟩
  rw [List.length_append, formImage_length]
  exact Nat.le_add_right ..

/-- Settles O60: the image read back, and the records of a valid one. -/
theorem imageReadsBack : Obligations.ImageReadsBack := by
  unfold Obligations.ImageReadsBack
  refine ⟨fun c beyond h => ⟨formImage_length c, readImage_formImage h beyond⟩, fun bytes c => ?_⟩
  intro run
  refine (readImage_iff bytes c).trans ⟨?_, ?_⟩
  · rintro ⟨⟨hlen, hformat, hsize, hsum⟩, hjudges⟩
    exact ⟨hlen, hformat, hsize, hsum, hjudges.profiles, hjudges.circuits, hjudges.groups, hjudges.bindings, hjudges.gauges,
      hjudges.flasher⟩
  · rintro ⟨hlen, hformat, hsize, hsum, hprofiles, hcircuits, hgroups, hbindings, hgauges, hflasher⟩
    exact ⟨⟨hlen, hformat, hsize, hsum⟩, ⟨hprofiles, hcircuits, hgroups, hbindings, hgauges, hflasher⟩⟩

end Sys2Proof.Machine

/-! PROOFS. Settles O9: a request's row as the frame that carries it, together with its owner's answer (log 1). -/

namespace Sys2Proof.Machine

section
variable {r : Req} {p : List Byte} {s : State}

/-! ### A request's row by what it reaches -/

/-- A row takes the part to where its frame leaves it, and there, when the request is in work, to its owner's answer. -/
def Answers (r : Req) (p : List Byte) (owner : State → State) : Prop :=
  ∀ s, exec (r.command p) s
    = act (fun s => if inWork r p (reach r p s) then owner (reach r p s) else reach r p s) s

/-- What each request asks of its owner (R156). -/
def ownerOf : Req → List Byte → State → State × Reply
  | .claimRaise => claimRaise | .claimAlter => claimAlter | .claimRetire => claimRetire | .claimLookup => claimLookup
  | .claimScan => claimScan | .supplyRead => readAll supplyFields | .holdSet => holdSet | .circuitRead => circuitRead
  | .circuitWrite => circuitWrite | .flasherRead => readAll flasherFields | .flasherSet => flasherSet
  | .channelRead => channelRead | .channelRestore => channelRestore | .profileRead => profileRead
  | .profileWrite => profileWrite | .groupRead => groupRead | .groupWrite => groupWrite | .bindRead => bindRead
  | .bindWrite => bindWrite | .gaugeRead => gaugeRead | .gaugeSet => gaugeSet
  | .statusRead => readAll fun s => flagSetBytes s.lif.status | .statusClear => statusClear
  | .enableRead => readAll fun s => flagSetBytes s.lif.enable
  | .enableSet => enableChange fun enable named => enable ||| named
  | .enableClear => enableChange fun enable named => enable &&& ~~~named
  | .pendingRead => readAll fun s => flagSetBytes (pendingSet s) | .deviceRead => readAll deviceFields
  | .quiesce => quiesce | .resume => resume | .storeSave => storeSave | .storeLoad => storeLoad

theorem exec_command (h : r ≠ .bindWrite) (p : List Byte) (s : State) : exec (r.command p) s = serve r (ownerOf r) p s := by
  cases r with
  | bindWrite => contradiction
  | _ => rfl

/-- BIND.WRITE's answer between passes, and its wait in a pass (R127). -/
def bindOwner (p : List Byte) (s : State) : State :=
  if s.bde.pass.isSome then { s with bde := { s.bde with waiting := some p } }
  else answer (bindWrite p s).2 (bindWrite p s).1

theorem bindWrite_answers (p : List Byte) : Answers .bindWrite p (bindOwner p) := fun _ => rfl

/-- Every request has its owner. -/
theorem exists_answers (r : Req) (p : List Byte) : ∃ owner, Answers r p owner := by
  by_cases h : r = .bindWrite
  · exact ⟨bindOwner p, h ▸ bindWrite_answers p⟩
  · exact ⟨fun s => answer (ownerOf r p s).2 (ownerOf r p s).1, exec_command h p⟩

theorem Answers.awake {owner : State → State} (h : Answers r p owner) (hawake : Awake s) : exec (r.command p) s
    = after (if inWork r p (reach r p s) then owner (reach r p s) else reach r p s) :=
  (h s).trans (act_run hawake _)

theorem reach_inWork (h : s.lif.link = .working { req := r, params := p }) : reach r p s = s := if_pos h

theorem reach_frame (h : s.lif.link ≠ .working { req := r, params := p }) : reach r p s = takeFrame (frameOf r p) s :=
  if_neg h

/-- A row whose frame leaves the request in work is the row of a request in work. -/
theorem exec_ofFrame (hawake : Awake s) (hlink : s.lif.link ≠ .working { req := r, params := p })
    (h : Handed r p (takeFrame (frameOf r p) s)) :
    exec (r.command p) s = exec (r.command p) (takeFrame (frameOf r p) s) := by
  obtain ⟨owner, howner⟩ := exists_answers r p
  obtain ⟨hawake', hwork⟩ := h
  rw [howner.awake hawake, howner.awake hawake', reach_frame hlink, reach_inWork hwork]

/-- A row whose frame does not put the request in work is its frame. -/
theorem exec_asFrame (hawake : Awake s) (hlink : s.lif.link ≠ .working { req := r, params := p })
    (h : (takeFrame (frameOf r p) s).lif.link ≠ .working { req := r, params := p }) :
    exec (r.command p) s = exec (.requestFrame (frameOf r p)) s := by
  obtain ⟨owner, howner⟩ := exists_answers r p
  rw [howner.awake hawake, reach_frame hlink, if_neg (mt (inWork_iff ..).mp h)]
  exact (act_run hawake _).symm

/-! ### A request's frame at the link -/

theorem code_ne_fetch (r : Req) : r.code ≠ 255 := by cases r <;> decide

/-- The part as the link meets a request frame: a wake comes first in SLEEP (R159). -/
def wokenFor (s : State) : State := if s.mdc.mode = .sleep then wake s else s

theorem wokenFor_link (s : State) : (wokenFor s).lif.link = s.lif.link := by
  unfold wokenFor
  split
  · exact wake_link s
  · rfl

theorem wokenFor_held (s : State) : (wokenFor s).mdc.heldInReset = s.mdc.heldInReset := by
  unfold wokenFor
  split
  · rw [wake_mdc]
  · rfl

theorem wokenFor_mode (s : State) : (wokenFor s).mdc.mode = if s.mdc.mode = .sleep then .run else s.mdc.mode := by
  unfold wokenFor
  split
  · rw [wake_mdc]
  · rfl

theorem takeFrame_frameOf (r : Req) (p : List Byte) (s : State) :
    takeFrame (frameOf r p) s = takeRequest (frameOf r p) s := if_neg (code_ne_fetch r)

theorem takeRequest_link (bytes : List Byte) (s : State) :
    (takeRequest bytes s).lif.link = (dealFrame bytes (wokenFor s)).lif.link := by
  unfold takeRequest wokenFor
  dsimp only
  rw [restartTimer_lif]

theorem takeRequest_held (bytes : List Byte) (s : State) :
    (takeRequest bytes s).mdc.heldInReset = s.mdc.heldInReset := by
  obtain ⟨lif, hlif, -⟩ := dealFrame_cases bytes (wokenFor s)
  have hdealt : (takeRequest bytes s).mdc.heldInReset = (dealFrame bytes (wokenFor s)).mdc.heldInReset := by
    unfold takeRequest wokenFor
    rfl
  rw [hdealt, hlif]
  exact wokenFor_held s

theorem parseFrame_frameOf (r : Req) {p : List Byte} (h : p.length ≤ 30) :
    parseFrame (frameOf r p) = some { req := r, params := p } := by
  have hlen : (byte p.length).toNat = p.length := byte_toNat_of_lt (by omega)
  exact parseFrame_of_wellFormed r hlen.symm (by omega)

theorem takeFrame_handed (hawake : Awake s) (hlen : p.length ≤ 30) (hidle : s.lif.link = .idle)
    (hmode : s.mdc.mode ≠ .loading) : Handed r p (takeFrame (frameOf r p) s) := by
  have hawakeMode : (wokenFor s).mdc.mode ≠ .loading := by
    rw [wokenFor_mode]
    split
    · exact nofun
    · exact hmode
  rw [takeFrame_frameOf]
  refine ⟨(takeRequest_held ..).trans hawake, ?_⟩
  rw [takeRequest_link, dealFrame_idle ((wokenFor_link s).trans hidle)]
  exact linkOnRequest_wellFormed hawakeMode (parseFrame_frameOf r hlen)

end

/-- Settles O9: by the link, and by the mode at an IDLE one. -/
theorem rowIsWholeTransaction : Obligations.RowIsWholeTransaction := by
  unfold Obligations.RowIsWholeTransaction
  intro r p s hawake hlen
  have hnotWorking (hidle : s.lif.link = .idle) : s.lif.link ≠ .working { req := r, params := p } := by
    rw [hidle]
    exact nofun
  refine ⟨fun hidle hmode => ?_, fun hidle hmode => ?_, fun hbusy hother => ?_⟩
  · have hhanded := takeFrame_handed (r := r) hawake hlen hidle hmode
    exact ⟨hhanded, exec_ofFrame hawake (hnotWorking hidle) hhanded⟩
  · refine exec_asFrame hawake (hnotWorking hidle) ?_
    have hstill : (wokenFor s).mdc.mode = .loading := by
      rw [wokenFor_mode, hmode]
      rfl
    rw [takeFrame_frameOf, takeRequest_link, dealFrame_idle ((wokenFor_link s).trans hidle), hstill]
    exact nofun
  · refine exec_asFrame hawake hother ?_
    have hlink := wokenFor_link s
    rw [takeFrame_frameOf, takeRequest_link, dealFrame_busy (by rw [hlink]; exact hbusy)]
    rw [← hlink] at hother
    exact hother

end Sys2Proof.Machine

/-! PROOFS. Settles O8: a request frame taken in SLEEP (R159, R188). -/

namespace Sys2Proof.Machine

section
variable {s : State} {bytes : List Byte}

/-! ### The frame's form -/

/-- A frame that no request makes with at most 30 parameters is malformed (R158). -/
theorem parseFrame_of_noFrame {b : Byte} (h : ∀ r params, params.length ≤ 30 → b :: bytes ≠ frameOf r params) :
    parseFrame (b :: bytes) = none := by
  cases bytes with
  | nil => rfl
  | cons n params =>
    refine parseFrame_of_malformed ?_
    by_contra hwell
    simp only [not_or, not_lt, not_not, not_forall] at hwell
    obtain ⟨hmax, hlen, r, hcode⟩ := hwell
    refine h r params (by omega) ?_
    rw [frameOf, hcode, hlen, byte_of_toNat]

/-! ### The wake -/

theorem wake_eq (s : State) : wake s = enterRun true (setFlag .wake s) := rfl

theorem claimAt_setFlag (f : Flag) (s : State) (i : SlotIx) : claimAt (setFlag f s) i = claimAt s i := by
  rw [claimAt, setFlag_clt, claimAt]

/-- A wake with no claim live leaves the slots as they are. -/
theorem wake_slots (h : noClaims s.clt = true) : (wake s).clt.slots = s.clt.slots := by
  have henters := SlotsEnter.enterRun true (setFlag .wake s)
  rw [← wake_eq] at henters
  obtain ⟨hgens, hfree, -⟩ := henters
  have hnone := (noClaims_iff_claimAt s).mp h
  refine tbl_ext fun i => ?_
  have hgen := hgens i
  have hclaim := (hfree i ((claimAt_setFlag .wake s i).trans (hnone i))).trans (hnone i).symm
  rw [setFlag_clt] at hgen
  rw [claimAt, claimAt] at hclaim
  generalize (wake s).clt.slots.get i = x at hgen hclaim ⊢
  generalize s.clt.slots.get i = y at hgen hclaim ⊢
  obtain ⟨g, c⟩ := x
  obtain ⟨g', c'⟩ := y
  exact congrArg₂ Slot.mk hgen hclaim

theorem acceptedCode_setFlag (f : Flag) (s : State) (g : GroupIx) : acceptedCode (setFlag f s) g = acceptedCode s g := by
  rw [acceptedCode, setFlag_sws, acceptedCode]

theorem hasFlag_wake (s : State) : hasFlag .wake (wake s) = true := by
  rw [wake_eq]
  exact hasFlag_enterRun true (by rw [hasFlag_setFlag, decide_eq_true rfl, Bool.or_true])

theorem wake_cranks (h : acceptedCode s start = some 1) :
    (wake s).sbu.crank = .cranking ∧ (s.sbu.crank ≠ .cranking → hasFlag .crank (wake s) = true) := by
  have hcranks := cranks_enterRun true (s := setFlag .wake s) ((acceptedCode_setFlag ..).trans h)
  rw [← wake_eq, setFlag_sbu] at hcranks
  exact hcranks

theorem wake_calm (h : acceptedCode s start ≠ some 1) : (wake s).sbu.crank = s.sbu.crank := by
  obtain ⟨hcrank, -⟩ := enterRun_calm (s := setFlag .wake s) (b := true) (.inl (by rwa [acceptedCode_setFlag]))
  rw [← wake_eq, setFlag_sbu] at hcrank
  exact hcrank

theorem supplyEnters_wake (s : State) : SupplyEnters s (wake s) := by
  have hentered := supplyEnters_enterRun (setFlag .wake s)
  unfold SupplyEnters at hentered ⊢
  rw [← wake_eq, setFlag_sbu, setFlag_pins] at hentered
  exact hentered

theorem gaugesEnter_wake (s : State) : GaugesEnter (decide (acceptedCode s ign = some 1)) s (wake s) := by
  have hentered := gaugesEnter_enterRun true (setFlag .wake s)
  unfold GaugesEnter at hentered ⊢
  rw [← wake_eq, acceptedCode_setFlag, setFlag_gau, setFlag_pins] at hentered
  exact hentered

/-! ### The frame taken in SLEEP -/

/-- What a request frame in SLEEP makes of the woken part: the link deals with it as in IDLE in RUN. -/
structure WokenBy (bytes : List Byte) (s t : State) : Prop where
  mode : t.mdc.mode = .run
  clt : t.clt = (wake s).clt
  sbu : t.sbu = (wake s).sbu
  gau : t.gau = (wake s).gau
  status : t.lif.status = (wake s).lif.status
  link : t.lif.link = linkOnRequest .run bytes

theorem dealt_frame (l : Link) (out : List Byte) (u : State) :
    let t := restartTimer (setLinkState l u)
    let t := { t with lif := { t.lif with dataOut := out } }
    t.mdc.mode = u.mdc.mode ∧ t.clt = u.clt ∧ t.sbu = u.sbu ∧ t.gau = u.gau ∧ t.lif.status = u.lif.status
      ∧ t.lif.link = l := ⟨rfl, rfl, rfl, rfl, rfl, rfl⟩

theorem wokenBy_takeRequest (hsleep : s.mdc.mode = .sleep) (hidle : s.lif.link = .idle) (bytes : List Byte) :
    WokenBy bytes s (takeRequest bytes s) := by
  have hmode : (wake s).mdc.mode = .run := by rw [wake_mdc]
  have hlink : (wake s).lif.link = .idle := by rw [wake_link, hidle]
  have hdealt : dealFrame bytes (wake s) = setLinkState (linkOnRequest .run bytes) (wake s) := by
    rw [dealFrame_idle hlink, hmode]
  unfold takeRequest
  rw [if_pos hsleep]
  dsimp only
  rw [hdealt]
  obtain ⟨hmode', hclt, hsbu, hgau, hstatus, hlink'⟩ :=
    dealt_frame (linkOnRequest .run bytes) (padZeros bytes.length [linkByte s]) (wake s)
  exact ⟨hmode'.trans hmode, hclt, hsbu, hgau, hstatus, hlink'⟩

theorem exec_requestFrame_asleep {b : Byte} (hb : b ≠ 255) (hawake : Awake s) (bytes : List Byte) :
    exec (.requestFrame (b :: bytes)) s = after (takeRequest (b :: bytes) s) := by
  change act (takeFrame (b :: bytes)) s = _
  rw [act_run hawake, takeFrame, if_neg hb]
  rfl

end

/-- Settles O8: the wake, and the frame's form. -/
theorem requestWakes : Obligations.RequestWakes := by
  unfold Obligations.RequestWakes
  intro b bytes s hb hawake hsleep hidle hnone
  have hwoken := wokenBy_takeRequest hsleep hidle (b :: bytes)
  have hexec := exec_requestFrame_asleep hb hawake bytes
  generalize takeRequest (b :: bytes) s = t at hwoken hexec
  have hflag (f : Flag) : hasFlag f t = hasFlag f (wake s) := by rw [hasFlag, hasFlag, hwoken.status]
  have hsupply : SupplyEnters s t := by
    have hentered := supplyEnters_wake s
    unfold SupplyEnters at hentered ⊢
    rw [hwoken.sbu]
    exact hentered
  have hgauges : GaugesEnter (decide (acceptedCode s ign = some 1)) s t := by
    have hentered := gaugesEnter_wake s
    unfold GaugesEnter at hentered ⊢
    rw [hwoken.gau]
    exact hentered
  refine ⟨t, hexec, hwoken.mode, (hflag .wake).trans (hasFlag_wake s), by rw [hwoken.clt, wake_slots hnone],
    congrArg Budget.samples hsupply, congrArg Budget.vbatF hsupply, congrArg Budget.vgenF hsupply,
    congrArg Budget.ibatF hsupply, hsupply, hgauges, fun hstart => ?_, fun hstart => ?_, fun r params hbytes hcode hlen => ?_,
    fun hmalformed => ?_⟩
  · obtain ⟨hcrank, hstatus⟩ := wake_cranks hstart
    exact ⟨by rw [hwoken.sbu, hcrank], fun hcalm => (hflag .crank).trans (hstatus hcalm)⟩
  · rw [hwoken.sbu, wake_calm hstart]
  · have hframe : b :: bytes = frameOf r params := by rw [frameOf, hbytes, hcode]
    rw [hwoken.link, hframe]
    exact linkOnRequest_wellFormed nofun (parseFrame_frameOf r hlen)
  · rw [hwoken.link]
    exact linkOnRequest_malformed nofun (parseFrame_of_noFrame hmalformed)

end Sys2Proof.Machine

/-! PROOFS. What a judgement and a handle's check refuse with (R4, R160): ground of O10. -/

namespace Sys2Proof.Machine

/-- A refusal's code: none of a success, and not DUPLICATE, which carries a handle (R160). -/
def Refuses (e : ReplyCode) : Prop := 128 ≤ e.code.toNat ∧ e ≠ .duplicate

theorem refuses_badRequest : Refuses .badRequest := ⟨by decide, by decide⟩

theorem refuses_badIndex : Refuses .badIndex := ⟨by decide, by decide⟩

theorem refuses_badTable : Refuses .badTable := ⟨by decide, by decide⟩

theorem refuses_wrongMode : Refuses .wrongMode := ⟨by decide, by decide⟩

theorem refuses_storeBusy : Refuses .storeBusy := ⟨by decide, by decide⟩

/-! ### Checks that refuse with such a code -/

/-- Whatever a check refuses with is a refusal's code. -/
def Refusing {α : Type} (j : Except ReplyCode α) : Prop := ∀ e, j = .error e → Refuses e

namespace Refusing

variable {α β : Type}

theorem error {e : ReplyCode} (h : Refuses e) : Refusing (.error e : Except ReplyCode α) := fun e' he => by
  cases he
  exact h

theorem ok (x : α) : Refusing (.ok x : Except ReplyCode α) := nofun

theorem ite {p : Prop} [Decidable p] {a b : Except ReplyCode α} (ha : Refusing a) (hb : Refusing b) :
    Refusing (if p then a else b) := by
  split
  · exact ha
  · exact hb

theorem map {j : Except ReplyCode α} (h : Refusing j) (f : α → β) : Refusing (j.map f) := by
  cases j with
  | error e => exact error (h e rfl)
  | ok x => exact ok (f x)

end Refusing

theorem refusing_judgeProfile (ch : Chan) (bytes : List Byte) : Refusing (judgeProfile ch bytes) := by
  have hfit {b : Prop} [Decidable b] {x : Profile × Bool} :
      Refusing (if b then .ok x else .error .badTable : Judged Profile) := .ite (.ok x) (.error refuses_badTable)
  unfold judgeProfile
  split
  · refine .ite (.error refuses_badIndex) (.ite hfit (.ite hfit (.ite hfit (.ite hfit (.ite ?_ (.error refuses_badRequest))))))
    split
    · exact .error refuses_badRequest
    · exact hfit
  · exact .error refuses_badRequest

theorem refusing_judgeCircuit (channels : List Byte) (m : Byte) : Refusing (judgeCircuit channels m) := by
  unfold judgeCircuit
  split
  · exact .error refuses_badIndex
  · exact .ite (.error refuses_badTable) (.ok _)

theorem refusing_judgeGroup (bytes : List Byte) : Refusing (judgeGroup bytes) := by
  unfold judgeGroup
  split
  · exact .ite (.error refuses_badIndex) (.ite (.error refuses_badRequest) (.ite (.error refuses_badTable) (.ok _)))
  · exact .error refuses_badRequest

theorem refusing_judgeTest (group mask op value : Byte) : Refusing (judgeTest group mask op value) := by
  unfold judgeTest
  split
  · split
    · exact .error refuses_badRequest
    · exact .ok _
  · exact .error refuses_badIndex

theorem refusing_judgeBind (bytes : List Byte) : Refusing (judgeBind bytes) := by
  unfold judgeBind
  split
  · refine .ite (.ok _) (.ite (.ok _) (.ite (.map (refusing_judgeTest _ _ _ _) _) (.ite (.ite ?_
      (.map (refusing_judgeTest _ _ _ _) _))
(.error refuses_badRequest))))
    split
    · split
      · next hjudged => exact .error (refusing_judgeTest _ _ _ _ _ hjudged)
      · exact .ok _
      · exact .error refuses_badRequest
    · exact .error refuses_badIndex
  · exact .error refuses_badRequest

theorem refusing_judgeGauge (points : List (Nat × Nat)) (k vstab : Nat) : Refusing (judgeGauge points k vstab) :=
  .ite (.error refuses_badTable) (.ite (.error refuses_badTable) (.ok _))

theorem refusing_judgeFlasher (bytes : List Byte) : Refusing (judgeFlasher bytes) := by
  unfold judgeFlasher
  split
  · exact .ite (.error refuses_badRequest) (.ok _)
  · exact .error refuses_badRequest

theorem refusing_namedClaim (s : State) (h1 h0 : Byte) : Refusing (namedClaim s h1 h0) := by
  unfold namedClaim
  split
  · exact .error refuses_badIndex
  · split
    · exact .error ⟨by decide, by decide⟩
    · exact .ite (.ok _) (.error ⟨by decide, by decide⟩)

theorem refusing_ownedClaim (s : State) (h1 h0 : Byte) : Refusing (ownedClaim s h1 h0) := by
  unfold ownedClaim
  split
  · next hnamed => exact .error (refusing_namedClaim s h1 h0 _ hnamed)
  · exact .ite (.ok _) (.error ⟨by decide, by decide⟩)

/-! ### The form of an answer (R160) -/

/-- A refusal changes nothing and carries nothing, DUPLICATE a handle; another reply has one of the lengths given. -/
structure FormHeld (lengths : Nat → Prop) (s : State) (out : State × Reply) : Prop where
  unchanged : 128 ≤ out.2.code.code.toNat → out.1 = s
  bare : 128 ≤ out.2.code.code.toNat → out.2.code ≠ .duplicate → out.2.fields = []
  handle : out.2.code = .duplicate → out.2.fields.length = 2
  full : out.2.code.code.toNat < 128 → lengths out.2.fields.length

namespace FormHeld

variable {lengths : Nat → Prop} {s t : State} {e : ReplyCode}

theorem refused (h : Refuses e) : FormHeld lengths s (refused e s) := by
  obtain ⟨hcode, hnot⟩ := h
  exact ⟨fun _ => rfl, fun _ _ => rfl, fun hdup => absurd hdup hnot, fun hlow => absurd hcode (Nat.not_le.mpr hlow)⟩

theorem replied {reply : Reply} (hcode : reply.code.code.toNat < 128) (hlen : lengths reply.fields.length) :
    FormHeld lengths s (t, reply) := by
  have hnot : ¬128 ≤ reply.code.code.toNat := Nat.not_le.mpr hcode
  refine ⟨fun h => absurd h hnot, fun h => absurd h hnot, fun hdup => ?_, fun _ => hlen⟩
  have hdup : reply.code = .duplicate := hdup
  rw [hdup] at hcode
  exact absurd hcode (by decide)

theorem ok {fields : List Byte} (hlen : lengths fields.length) :
    FormHeld lengths s (t, { code := .ok, fields := fields }) :=
  replied (show ReplyCode.ok.code.toNat < 128 by decide) hlen

theorem judged {fields : List Byte} (clamped : Bool) (hlen : lengths fields.length) :
    FormHeld lengths s (t, { code := okOr clamped, fields := fields }) :=
  replied (show (okOr clamped).code.toNat < 128 by cases clamped <;> decide) hlen

theorem ite {p : Prop} [Decidable p] {a b : State × Reply} (ha : FormHeld lengths s a) (hb : FormHeld lengths s b) :
    FormHeld lengths s (if p then a else b) := by
  split
  · exact ha
  · exact hb

theorem dite {p : Prop} [Decidable p] {a : p → State × Reply} {b : ¬p → State × Reply} (ha : ∀ h, FormHeld lengths s (a h))
    (hb : ∀ h, FormHeld lengths s (b h)) : FormHeld lengths s (if h : p then a h else b h) := by
  split
  · exact ha _
  · exact hb _

end FormHeld

end Sys2Proof.Machine

/-! PROOFS. The form of every request's answer (R160, R172): ground of O10. -/

namespace Sys2Proof.Machine

section
variable (p : List Byte) (s : State)

/-! ### The requests that read a block -/

theorem readAll_form {fields : State → List Byte} {n : Nat} (h : (fields s).length = n) :
    FormHeld (· = n) s (readAll fields p s) := by
  cases p with
  | nil => exact .ok h
  | cons b p => exact .refused refuses_badRequest

/-! ### The claim requests -/

theorem outcomeReply_form {t : State} {i : SlotIx} (clamped : Bool) (h : (claimAt t i).isSome = true) :
    FormHeld (· = 7) s (t, outcomeReply clamped i t) := by
  obtain ⟨c, hc⟩ := Option.isSome_iff_exists.mp h
  unfold outcomeReply
  rw [hc]
  exact .replied (outcomeCode_lt clamped c) rfl

theorem raiseInto_live (i : SlotIx) (r : Raise) (s : State) : (claimAt (raiseInto i r s) i).isSome = true := by
  have howner := owner_raiseInto i r s
  cases hc : claimAt (raiseInto i r s) i with
  | none =>
    rw [hc] at howner
    contradiction
  | some c => rfl

theorem claimAt_handedOver (f : State → State) (s : State) (i : SlotIx) :
    claimAt (withHandOver f s) i = claimAt (f s) i := by
  rw [claimAt, withHandOver_clt, claimAt]

theorem raiseOnLink_form (r : Raise) : FormHeld (· = 7) s (raiseOnLink r s) := by
  unfold raiseOnLink
  refine .ite (.refused ⟨by decide, by decide⟩) ?_
  split
  · exact ⟨fun _ => rfl, fun _ hnot => absurd rfl hnot, fun _ => rfl, fun hlow => absurd hlow (by decide : ¬136 < 128)⟩
  · split
    · exact .refused ⟨by decide, by decide⟩
    · exact outcomeReply_form s _ (by rw [claimAt_handedOver]; exact raiseInto_live ..)

theorem claimRaise_form : FormHeld (· = 7) s (claimRaise p s) := by
  unfold claimRaise
  refine .ite (.refused refuses_wrongMode) ?_
  split
  · split
    · exact .dite (fun _ => raiseOnLink_form s _) fun _ => .refused refuses_badIndex
    · exact .refused refuses_badRequest
  · exact .refused refuses_badRequest

theorem claimAlter_form : FormHeld (· = 7) s (claimAlter p s) := by
  unfold claimAlter
  refine .ite (.refused refuses_wrongMode) ?_
  split
  · refine .ite (.refused refuses_badRequest) ?_
    split
    · next hnamed => exact .refused (refusing_ownedClaim _ _ _ _ hnamed)
    · next hnamed =>
      refine outcomeReply_form s _ ?_
      rw [claimAt_handedOver]
      exact alter_live (ClaimLaw.ownedClaim_ok hnamed).1 _
  · exact .refused refuses_badRequest

theorem claimRetire_form : FormHeld (· = 2) s (claimRetire p s) := by
  unfold claimRetire
  split
  · split
    · next hnamed => exact .refused (refusing_ownedClaim _ _ _ _ hnamed)
    · exact .ok rfl
  · exact .refused refuses_badRequest

theorem claimLookup_form : FormHeld (· = 17) s (claimLookup p s) := by
  unfold claimLookup
  split
  · split
    · next hnamed => exact .refused (refusing_namedClaim _ _ _ _ hnamed)
    · exact .ok rfl
  · exact .refused refuses_badRequest

theorem claimScan_form : FormHeld (fun n => ∃ k, k ≤ 14 ∧ n = 2 + 2 * k) s (claimScan p s) := by
  unfold claimScan
  split
  · refine .ite (.refused refuses_badIndex) (.ok ?_)
    rw [List.length_cons, List.length_cons, length_flatMap_be16]
    exact ⟨_, List.length_take_le 14 _, Nat.add_comm _ 2⟩
  · exact .refused refuses_badRequest

theorem holdSet_form : FormHeld (· = 3) s (holdSet p s) := by
  unfold holdSet
  refine .ite (.refused refuses_wrongMode) ?_
  split
  · exact .ite (.refused refuses_badRequest) (.ite (.ok rfl) (.judged _ rfl))
  · exact .refused refuses_badRequest

/-! ### The circuit and channel requests -/

theorem listBytes_length (channels : List Chan) : (listBytes channels).length = 5 := by
  rw [listBytes, List.length_cons, fourPositions_length]

theorem inForceFields_length (c : Circ) : (inForceFields s c).length = 28 := by
  unfold inForceFields
  simp only [List.length_append, listBytes_length, length_padZeros]
  rfl

theorem pendingFields_length (c : Circ) : (pendingFields s c).length = 8 := by
  unfold pendingFields
  simp only [List.length_append, listBytes_length]
  rfl

theorem circuitRead_form : FormHeld (fun n => n = 28 ∨ n = 8) s (circuitRead p s) := by
  unfold circuitRead
  split
  · refine .ite (.refused refuses_badRequest) (.dite (fun _ => .ok ?_) fun _ => .refused refuses_badIndex)
    split
    · exact .inl (inForceFields_length ..)
    · exact .inr (pendingFields_length ..)
  · exact .refused refuses_badRequest

theorem circuitWrite_form : FormHeld (· = 7) s (circuitWrite p s) := by
  unfold circuitWrite
  refine .ite (.refused refuses_wrongMode) (.ite (.refused refuses_storeBusy) ?_)
  split
  · refine .ite (.refused refuses_badRequest) (.dite (fun _ => ?_) fun _ => .refused refuses_badIndex)
    split
    · exact .refused refuses_badIndex
    · next hjudged => exact .refused (refusing_judgeCircuit _ _ _ hjudged)
    · refine .ite (.refused refuses_badTable) (.judged _ ?_)
      rw [List.length_append, circuitBytes_length]
      rfl
  · exact .refused refuses_badRequest

theorem channelRead_form : FormHeld (· = 19) s (channelRead p s) := by
  unfold channelRead
  split
  · refine .ite (.refused refuses_badRequest) ?_
    split
    · exact .refused refuses_badIndex
    · exact .ok rfl
  · exact .refused refuses_badRequest

theorem channelRestore_form : FormHeld (· = 1) s (channelRestore p s) := by
  unfold channelRestore
  split
  · split
    · exact .refused refuses_badIndex
    · exact .ok rfl
  · exact .refused refuses_badRequest

theorem profileRead_form : FormHeld (· = 13) s (profileRead p s) := by
  unfold profileRead
  split
  · split
    · exact .refused refuses_badIndex
    · exact .ok (by rw [List.length_cons, profileBytes_length])
  · exact .refused refuses_badRequest

theorem profileWrite_form : FormHeld (· = 12) s (profileWrite p s) := by
  unfold profileWrite
  refine .ite (.refused refuses_wrongMode) (.ite (.refused refuses_storeBusy) ?_)
  split
  · refine .ite (.refused refuses_badRequest) ?_
    split
    · exact .refused refuses_badIndex
    · split
      · next hjudged => exact .refused (refusing_judgeProfile _ _ _ hjudged)
      · exact .judged _ (profileBytes_length _)
  · exact .refused refuses_badRequest

/-! ### The group, binding and gauge requests -/

theorem groupFields_length (g : GroupIx) : (groupFields s g).length = 12 := by
  have hdef : (groupDefBytes s g).length = 4 := by
    unfold groupDefBytes
    split
    · rfl
    · rfl
  unfold groupFields
  simp only [List.length_append, hdef]
  rfl

theorem groupRead_form : FormHeld (· = 12) s (groupRead p s) := by
  unfold groupRead
  split
  · exact .dite (fun _ => .ok (groupFields_length ..)) fun _ => .refused refuses_badIndex
  · exact .refused refuses_badRequest

theorem groupWrite_form : FormHeld (· = 4) s (groupWrite p s) := by
  unfold groupWrite
  refine .ite (.refused refuses_wrongMode) (.ite (.refused refuses_storeBusy) ?_)
  split
  · refine .ite (.refused refuses_badRequest) (.dite (fun _ => ?_) fun _ => .refused refuses_badIndex)
    split
    · next hjudged => exact .refused (refusing_judgeGroup _ _ hjudged)
    · exact .judged _ rfl
  · exact .refused refuses_badRequest

theorem bindFields_length (b : BindIx) : (bindFields s b).length = 18 := by
  unfold bindFields
  simp only [List.length_append, bindBytes_length]
  rfl

theorem bindRead_form : FormHeld (· = 18) s (bindRead p s) := by
  unfold bindRead
  split
  · exact .dite (fun _ => .ok (bindFields_length ..)) fun _ => .refused refuses_badIndex
  · exact .refused refuses_badRequest

theorem bindWrite_form : FormHeld (· = 16) s (bindWrite p s) := by
  unfold bindWrite
  refine .ite (.refused refuses_storeBusy) ?_
  split
  · refine .ite (.refused refuses_badRequest) (.dite (fun _ => ?_) fun _ => .refused refuses_badIndex)
    dsimp only
    split
    · next hjudged => exact .refused (refusing_judgeBind _ _ hjudged)
    · refine .judged _ ?_
      rw [List.length_append, bindBytes_length]
      rfl
  · exact .refused refuses_badRequest

theorem gaugeFields_length (g : Gauge) : (gaugeFields g).length = 21 := by
  have hreading : (readingBytes g.reading).length = 3 := by cases g.reading <;> rfl
  unfold gaugeFields
  simp only [List.length_append, hreading]
  rfl

theorem gaugeRead_form : FormHeld (fun n => n = 21 ∨ n = 29) s (gaugeRead p s) := by
  unfold gaugeRead
  split
  · refine .ite (.refused refuses_badRequest) (.dite (fun _ => .ok ?_) fun _ => .refused refuses_badIndex)
    split
    · exact .inl (gaugeFields_length _)
    · exact .inr (gaugeBytes_length _)
  · exact .refused refuses_badRequest

theorem gaugeSet_form : FormHeld (· = 29) s (gaugeSet p s) := by
  unfold gaugeSet
  refine .ite (.refused refuses_wrongMode) (.ite (.refused refuses_storeBusy) ?_)
  split
  · refine .ite (.refused refuses_badRequest) (.dite (fun _ => .ite ?_ (.refused refuses_badTable))
      fun _ => .refused refuses_badIndex)
    dsimp only
    split
    · next hjudged => exact .refused (refusing_judgeGauge _ _ _ _ hjudged)
    · exact .judged _ (gaugeBytes_length _)
  · exact .refused refuses_badRequest

/-! ### The flasher, the status, the modes and the store -/

theorem flasherSet_form : FormHeld (· = 3) s (flasherSet p s) := by
  unfold flasherSet
  refine .ite (.refused refuses_storeBusy) ?_
  split
  · next hjudged => exact .refused (refusing_judgeFlasher _ _ hjudged)
  · exact .judged _ rfl

theorem statusClear_form : FormHeld (· = 6) s (statusClear p s) := by
  unfold statusClear
  split
  · exact .ok rfl
  · exact .refused refuses_badRequest

theorem enableChange_form (f : BitVec 17 → BitVec 17 → BitVec 17) : FormHeld (· = 3) s (enableChange f p s) := by
  unfold enableChange
  split
  · exact .ok rfl
  · exact .refused refuses_badRequest

theorem quiesce_form : FormHeld (· = 1) s (quiesce p s) :=
  .ite (.refused refuses_wrongMode) (.ite (.refused refuses_storeBusy)
    (.ite (.refused refuses_badRequest) (.ite (.refused ⟨by decide, by decide⟩) (.ok rfl))))

theorem resume_form : FormHeld (· = 2) s (resume p s) :=
  .ite (.refused refuses_wrongMode) (.ite (.refused refuses_storeBusy) (.ite (.refused refuses_badRequest) (.ok rfl)))

theorem storeSave_form : FormHeld (· = 0) s (storeSave p s) :=
  .ite (.refused refuses_storeBusy) (.ite (.refused refuses_badRequest)
    (.replied (show ReplyCode.accepted.code.toNat < 128 by decide) rfl))

theorem storeLoad_form : FormHeld (· = 0) s (storeLoad p s) :=
  .ite (.refused refuses_wrongMode) (.ite (.refused refuses_storeBusy) (.ite (.refused refuses_badRequest)
    (.replied (show ReplyCode.accepted.code.toNat < 128 by decide) rfl)))

end

end Sys2Proof.Machine

/-! PROOFS. Settles O10: refusals, the lengths of the replies, and parameters that do not fit (R160, R172). -/

namespace Sys2Proof.Machine

section
variable {r : Req} {p : List Byte} {s : State}

/-! ### A request answered -/

/-- The lengths of each request's replies, beside a refusal (R172). -/
def ReplyLength (r : Req) (n : Nat) : Prop :=
  match r with
  | .claimRaise | .claimAlter | .circuitWrite => n = 7
  | .claimRetire | .resume => n = 2
  | .claimLookup | .supplyRead | .flasherRead => n = 17
  | .claimScan => ∃ k, k ≤ 14 ∧ n = 2 + 2 * k
  | .holdSet | .flasherSet | .statusRead | .enableRead | .enableSet | .enableClear | .pendingRead => n = 3
  | .circuitRead => n = 28 ∨ n = 8
  | .channelRead => n = 19
  | .channelRestore | .quiesce => n = 1
  | .profileRead => n = 13
  | .profileWrite | .groupRead => n = 12
  | .groupWrite | .deviceRead => n = 4
  | .bindRead => n = 18
  | .bindWrite => n = 16
  | .gaugeRead => n = 21 ∨ n = 29
  | .gaugeSet => n = 29
  | .statusClear => n = 6
  | .storeSave | .storeLoad => n = 0

theorem ReplyLength.le {n : Nat} (h : ReplyLength r n) : n ≤ 30 := by
  cases r with
  | claimScan =>
    obtain ⟨k, hk, hn⟩ := h
    omega
  | circuitRead =>
    rcases h with h | h
    · omega
    · omega
  | gaugeRead =>
    rcases h with h | h
    · omega
    · omega
  | _ => exact le_of_eq_of_le h (by decide)

theorem ownerOf_form (r : Req) (p : List Byte) (s : State) : FormHeld (ReplyLength r) s (ownerOf r p s) := by
  cases r with
  | claimRaise => exact claimRaise_form p s
  | claimAlter => exact claimAlter_form p s
  | claimRetire => exact claimRetire_form p s
  | claimLookup => exact claimLookup_form p s
  | claimScan => exact claimScan_form p s
  | supplyRead => exact readAll_form p s rfl
  | holdSet => exact holdSet_form p s
  | circuitRead => exact circuitRead_form p s
  | circuitWrite => exact circuitWrite_form p s
  | flasherRead => exact readAll_form p s rfl
  | flasherSet => exact flasherSet_form p s
  | channelRead => exact channelRead_form p s
  | channelRestore => exact channelRestore_form p s
  | profileRead => exact profileRead_form p s
  | profileWrite => exact profileWrite_form p s
  | groupRead => exact groupRead_form p s
  | groupWrite => exact groupWrite_form p s
  | bindRead => exact bindRead_form p s
  | bindWrite => exact bindWrite_form p s
  | gaugeRead => exact gaugeRead_form p s
  | gaugeSet => exact gaugeSet_form p s
  | statusRead => exact readAll_form (fields := fun s => flagSetBytes s.lif.status) p s rfl
  | statusClear => exact statusClear_form p s
  | enableRead => exact readAll_form (fields := fun s => flagSetBytes s.lif.enable) p s rfl
  | enableSet => exact enableChange_form p s _
  | enableClear => exact enableChange_form p s fun enable named => enable &&& ~~~named
  | pendingRead => exact readAll_form (fields := fun s => flagSetBytes (pendingSet s)) p s rfl
  | deviceRead => exact readAll_form p s rfl
  | quiesce => exact quiesce_form p s
  | resume => exact resume_form p s
  | storeSave => exact storeSave_form p s
  | storeLoad => exact storeLoad_form p s

/-- A request in work is answered by its owner, a BIND.WRITE between passes (R127, R156). -/
theorem exec_handed (h : Handed r p s) (hfree : r = .bindWrite → s.bde.pass = none) : exec (r.command p) s
    = after (answer (ownerOf r p s).2 (ownerOf r p s).1) := by
  obtain ⟨hawake, hlink⟩ := h
  by_cases hr : r = .bindWrite
  · subst hr
    have hbetween : ¬s.bde.pass.isSome = true := by rw [hfree rfl]; exact Bool.false_ne_true
    rw [(bindWrite_answers p).awake hawake, reach_inWork hlink, if_pos ((inWork_iff ..).mpr hlink), bindOwner, if_neg hbetween]
    rfl
  · rw [exec_command hr]
    exact serve_inWork hawake hlink _

/-- A reply that an owner gives is at the link after its request. -/
theorem reply_of_exec {t : State} {reply : Reply} (h : Handed r p s) (hexec : exec (r.command p) s = .next t)
    (hreply : t.lif.link = .replyReady reply) : reply = (ownerOf r p s).2
      ∧ exec (r.command p) s = after (answer reply (ownerOf r p s).1) := by
  by_cases hfree : r = .bindWrite → s.bde.pass = none
  · have hanswer := exec_handed h hfree
    rw [hexec] at hanswer
    injection hanswer with ht
    have hlink : t.lif.link = .replyReady (ownerOf r p s).2 := by
      rw [ht, settleTimer_lif]
      rfl
    rw [hreply] at hlink
    injection hlink with hsame
    exact ⟨hsame, by rw [hsame]; exact exec_handed h hfree⟩
  · obtain ⟨rfl, hpass⟩ := Classical.not_imp.mp hfree
    obtain ⟨hawake, hlink⟩ := h
    have hruns : s.bde.pass.isSome = true := Option.isSome_iff_ne_none.mpr hpass
    rw [(bindWrite_answers p).awake hawake, reach_inWork hlink, if_pos ((inWork_iff ..).mpr hlink), bindOwner,
      if_pos hruns] at hexec
    injection hexec with ht
    rw [← ht, settleTimer_lif] at hreply
    exact nomatch hlink.symm.trans hreply

/-! ### Parameters that do not fit (R160, R172) -/

theorem readAll_unfit (h : p ≠ []) (fields : State → List Byte) : readAll fields p s = refused .badRequest s := by
  cases p with
  | nil => exact absurd rfl h
  | cons b p => rfl

theorem claimAlter_unfit (hmode : s.mdc.mode = .run) (h : p.length ≠ 8) : claimAlter p s = refused .badRequest s := by
  unfold claimAlter
  rw [if_neg (not_not_intro hmode)]
  split
  · exact absurd rfl h
  · rfl

theorem claimRetire_unfit (h : p.length ≠ 2) : claimRetire p s = refused .badRequest s := by
  unfold claimRetire
  split
  · exact absurd rfl h
  · rfl

theorem claimLookup_unfit (h : p.length ≠ 2) : claimLookup p s = refused .badRequest s := by
  unfold claimLookup
  split
  · exact absurd rfl h
  · rfl

theorem claimScan_unfit (h : p.length ≠ 2) : claimScan p s = refused .badRequest s := by
  unfold claimScan
  split
  · exact absurd rfl h
  · rfl

theorem holdSet_unfit (hmode : s.mdc.mode = .run) (h : p.length ≠ 2) : holdSet p s = refused .badRequest s := by
  unfold holdSet
  rw [if_neg (not_not_intro hmode)]
  split
  · exact absurd rfl h
  · rfl

theorem circuitRead_unfit (h : p.length ≠ 2) : circuitRead p s = refused .badRequest s := by
  unfold circuitRead
  split
  · exact absurd rfl h
  · rfl

theorem channelRead_unfit (h : p.length ≠ 2) : channelRead p s = refused .badRequest s := by
  unfold channelRead
  split
  · exact absurd rfl h
  · rfl

theorem gaugeRead_unfit (h : p.length ≠ 2) : gaugeRead p s = refused .badRequest s := by
  unfold gaugeRead
  split
  · exact absurd rfl h
  · rfl

theorem channelRestore_unfit (h : p.length ≠ 1) : channelRestore p s = refused .badRequest s := by
  unfold channelRestore
  split
  · exact absurd rfl h
  · rfl

theorem profileRead_unfit (h : p.length ≠ 1) : profileRead p s = refused .badRequest s := by
  unfold profileRead
  split
  · exact absurd rfl h
  · rfl

theorem groupRead_unfit (h : p.length ≠ 1) : groupRead p s = refused .badRequest s := by
  unfold groupRead
  split
  · exact absurd rfl h
  · rfl

theorem bindRead_unfit (h : p.length ≠ 1) : bindRead p s = refused .badRequest s := by
  unfold bindRead
  split
  · exact absurd rfl h
  · rfl

theorem flasherSet_unfit (hop : s.mdc.op = .none) (h : p.length ≠ 2) : flasherSet p s = refused .badRequest s :=
  flasherSet_error hop (judgeFlasher_badLength h)

theorem profileWrite_unfit (hmode : s.mdc.mode = .quiesced) (hop : s.mdc.op = .none) (h : p.length ≠ 13) :
    profileWrite p s = refused .badRequest s := by
  unfold profileWrite
  rw [if_neg (not_not_intro hmode), if_neg (not_storeBusy hop)]
  cases p with
  | nil => rfl
  | cons b bytes => exact if_pos fun hlen => h (congrArg (· + 1) hlen)

theorem groupWrite_unfit (hmode : s.mdc.mode = .quiesced) (hop : s.mdc.op = .none) (h : p.length ≠ 5) :
    groupWrite p s = refused .badRequest s := by
  unfold groupWrite
  rw [if_neg (not_not_intro hmode), if_neg (not_storeBusy hop)]
  cases p with
  | nil => rfl
  | cons b bytes => exact if_pos fun hlen => h (congrArg (· + 1) hlen)

theorem bindWrite_unfit (hop : s.mdc.op = .none) (h : p.length ≠ 15) : bindWrite p s = refused .badRequest s := by
  unfold bindWrite
  rw [if_neg (not_storeBusy hop)]
  cases p with
  | nil => rfl
  | cons b bytes => exact if_pos fun hlen => h (congrArg (· + 1) hlen)

theorem circuitWrite_unfit (hmode : s.mdc.mode = .quiesced) (hop : s.mdc.op = .none)
    (h : ¬∃ (c m n : Byte) (channels : List Byte), p = c :: m :: n :: channels ∧ (4 < n.toNat ∨ channels.length = n.toNat)) :
    circuitWrite p s = refused .badRequest s := by
  unfold circuitWrite
  rw [if_neg (not_not_intro hmode), if_neg (not_storeBusy hop)]
  split
  · next c m n channels =>
    have hunfit : ¬(4 < n.toNat ∨ channels.length = n.toNat) := fun hfits => h ⟨c, m, n, channels, rfl, hfits⟩
    exact if_pos ⟨by omega, by omega⟩
  · rfl

theorem gaugeSet_unfit (hmode : s.mdc.mode = .run) (hop : s.mdc.op = .none)
    (h : ¬∃ (g n : Byte) (rest : List Byte), p = g :: n :: rest
      ∧ (n.toNat < 2 ∨ 8 < n.toNat ∨ rest.length = 3 * n.toNat + 4)) : gaugeSet p s = refused .badRequest s := by
  unfold gaugeSet
  rw [if_neg (not_not_intro hmode), if_neg (not_storeBusy hop)]
  split
  · next g n rest =>
    have hunfit : ¬(n.toNat < 2 ∨ 8 < n.toNat ∨ rest.length = 3 * n.toNat + 4) := fun hfits => h ⟨g, n, rest, rfl, hfits⟩
    exact if_pos ⟨pointCountFits_iff.mpr (by omega), by omega⟩
  · rfl

theorem quiesce_unfit (hmode : s.mdc.mode = .run) (hop : ∀ image, s.mdc.op ≠ .save image) (h : p ≠ []) :
    quiesce p s = refused .badRequest s := by
  have hfree : ¬saving s = true := Bool.eq_false_iff.mp ((saving_iff s).mpr hop)
  exact (if_neg (not_not_intro hmode)).trans ((if_neg hfree).trans (if_pos h))

theorem resume_unfit (hmode : s.mdc.mode = .quiesced) (hop : s.mdc.op ≠ .load) (h : p ≠ []) :
    resume p s = refused .badRequest s :=
  (if_neg (not_not_intro hmode)).trans ((if_neg hop).trans (if_pos h))

theorem storeSave_unfit (hop : s.mdc.op = .none) (h : p ≠ []) : storeSave p s = refused .badRequest s :=
  (if_neg (not_storeBusy hop)).trans (if_pos h)

theorem storeLoad_unfit (hmode : s.mdc.mode = .quiesced) (hop : s.mdc.op = .none) (h : p ≠ []) :
    storeLoad p s = refused .badRequest s :=
  (if_neg (not_not_intro hmode)).trans ((if_neg (not_storeBusy hop)).trans (if_pos h))

end

/-- Settles O10: the form of each request's answer, and the parameters that do not fit. -/
theorem repliesHoldTheirForm : Obligations.RepliesHoldTheirForm := by
  unfold Obligations.RepliesHoldTheirForm
  refine ⟨fun r p s t reply h hexec hreply hcode => ?_, fun r p s t reply h hexec hreply hcode => ?_, fun r p s h => ?_⟩
  · have hform := ownerOf_form r p s
    obtain ⟨hsame, hanswer⟩ := reply_of_exec h hexec hreply
    rw [hform.unchanged (by rw [← hsame]; exact hcode)] at hanswer
    subst hsame
    exact ⟨hanswer, hform.bare hcode, hform.handle⟩
  · intro n
    have hform := ownerOf_form r p s
    obtain ⟨hsame, -⟩ := reply_of_exec h hexec hreply
    have hlength : ReplyLength r n := by
      subst hsame
      exact hform.full hcode
    refine ⟨hlength.le, ?_⟩
    cases r <;> exact hlength
  · intro ready fits hready hunfit
    have hfree : r = .bindWrite → s.bde.pass = none := by
      rintro rfl
      exact hready.2
    have hrefused : ownerOf r p s = refused .badRequest s := by
      cases r with
      | claimRaise => exact claimRaise_length hready hunfit
      | claimAlter => exact claimAlter_unfit hready hunfit
      | claimRetire => exact claimRetire_unfit hunfit
      | claimLookup => exact claimLookup_unfit hunfit
      | claimScan => exact claimScan_unfit hunfit
      | supplyRead => exact readAll_unfit hunfit _
      | holdSet => exact holdSet_unfit hready hunfit
      | circuitRead => exact circuitRead_unfit hunfit
      | circuitWrite => exact circuitWrite_unfit hready.1 hready.2 hunfit
      | flasherRead => exact readAll_unfit hunfit _
      | flasherSet => exact flasherSet_unfit hready hunfit
      | channelRead => exact channelRead_unfit hunfit
      | channelRestore => exact channelRestore_unfit hunfit
      | profileRead => exact profileRead_unfit hunfit
      | profileWrite => exact profileWrite_unfit hready.1 hready.2 hunfit
      | groupRead => exact groupRead_unfit hunfit
      | groupWrite => exact groupWrite_unfit hready.1 hready.2 hunfit
      | bindRead => exact bindRead_unfit hunfit
      | bindWrite => exact bindWrite_unfit hready.1 hunfit
      | gaugeRead => exact gaugeRead_unfit hunfit
      | gaugeSet => exact gaugeSet_unfit hready.1 hready.2 hunfit
      | statusRead => exact readAll_unfit hunfit fun s => flagSetBytes s.lif.status
      | statusClear => exact statusClear_of_length hunfit s
      | enableRead => exact readAll_unfit hunfit fun s => flagSetBytes s.lif.enable
      | enableSet => exact enableChange_of_length hunfit _ s
      | enableClear => exact enableChange_of_length hunfit (fun enable named => enable &&& ~~~named) s
      | pendingRead => exact readAll_unfit hunfit fun s => flagSetBytes (pendingSet s)
      | deviceRead => exact readAll_unfit hunfit _
      | quiesce => exact quiesce_unfit hready.1 hready.2 hunfit
      | resume => exact resume_unfit hready.1 hready.2 hunfit
      | storeSave => exact storeSave_unfit hready hunfit
      | storeLoad => exact storeLoad_unfit hready.1 hready.2 hunfit
    rw [exec_handed h hfree, hrefused]
    rfl

end Sys2Proof.Machine
